-- ==== Sys2Proof/Word.lean ====
section
/-! DEFINITION. The word types of the FG-340 and the sixteen-row table every per-index state is kept in. -/

namespace Sys2Proof

/-- One byte of a frame, of a record or of a bus beat. -/
abbrev Byte := BitVec 8

/-- A host id, 0 to 15 (R42). -/
abbrev HostId := BitVec 4

/-- A 32-bit byte address (Conventions, Addresses and sizes). -/
abbrev Addr := BitVec 32

/-- An index of the Region Table, 0 to 15 (R1). -/
abbrev Ix := Fin 16

/-- The sixteen indices in ascending order. -/
def allIx : List Ix := [0, 1, 2, 3, 4, 5, 6, 7, 8, 9, 10, 11, 12, 13, 14, 15]

/-- One value per index 0 to 15. -/
structure Tab (α : Type) where
  rows : Vector α 16
  deriving DecidableEq, Repr

/-- The table whose row at each index is the function's value there. -/
def Tab.ofFn {α : Type} (f : Ix → α) : Tab α :=
  ⟨⟨#[f 0, f 1, f 2, f 3, f 4, f 5, f 6, f 7, f 8, f 9, f 10, f 11, f 12, f 13, f 14, f 15], rfl⟩⟩

/-- The row at an index. -/
def Tab.get {α : Type} (t : Tab α) (i : Ix) : α := t.rows[i]

/-- The table with the row at one index replaced. -/
def Tab.set {α : Type} (t : Tab α) (i : Ix) (x : α) : Tab α :=
  Tab.ofFn fun j => if j = i then x else t.get j

/-- The table holding one value at every index. -/
def Tab.const {α : Type} (x : α) : Tab α := Tab.ofFn fun _ => x

/-- A set of indices 0 to 15: the Pending Set, a quiesce set, a mask, the overflow flags. -/
abbrev IxSet := Tab Bool

end Sys2Proof
end

