-- ==== Sys2Proof/Config.lean ====
section
/-! DEFINITION. What the silicon fixes: the capacities IDENTIFY reports and the identity of the part. Every value here is
the spec's own, but for the one constant without a body: a choice that the spec leaves open and that no order or operand of the
commands carries (see notes/assumptions). -/

namespace Sys2Proof.Config

/-- Entries of the Transaction Table (R44). -/
def txnEntries : Nat := 16

/-- Slots of the Write Buffer (R61). -/
def writeSlots : Nat := 4

/-- Entries of the Dirty List (R93). -/
def dirtyEntries : Nat := 64

/-- Records of the Event Log (R153). -/
def logRecords : Nat := 32

/-- Regions of the table (R1). -/
def regions : Nat := 16

/-- Jobs of the Scan Queue (R129). -/
def scanJobs : Nat := 16

/-- The part code IDENTIFY returns (R174). -/
def partCode : Nat := 0x0340

/-- The revision IDENTIFY returns (R174). -/
def revision : Nat := 1

/-- The bit pattern the signature's reflected CRC-32 is combined with (R107). -/
def crc32Poly : BitVec 32 := 0x82F63B78#32

/-- The polynomial of the frames' CRC-8 (R169). -/
def crc8Poly : BitVec 8 := 0x07#8

/-- A free value: whether the expiry of the round timer comes before a joining job that falls together with it, the n-th time that
this is asked (R133: either may be first; log entry 26). -/
opaque roundFirst : Nat → Bool

end Sys2Proof.Config
end

