-- ==== Sys2Proof/Syntax.lean ====
section
/-! DEFINITION. The commands of the FG-340: one constructor per row of spec/opcode_table.json. Some rows are commands of the
supervisor, some are transfers at the host port and the memory port, some are steps the monitor itself takes
(a grant of its arbiter, the expiry of a timer, the end of a drain). Operands are what the row's event carries. -/

namespace Sys2Proof

/-- The direction of a request (R42). -/
inductive Dir where
  | read
  | write
  deriving DecidableEq, Repr

/-- The two response statuses of the host and memory ports (R42). -/
inductive RespStatus where
  | ok
  | err
  deriving DecidableEq, Repr

/-- One request on the host request channel (R42): `beats` is 1 to 16. -/
structure Request where
  dir : Dir
  id : HostId
  addr : Addr
  beats : Nat
  deriving DecidableEq, Repr

/-- One write beat (R42): the byte at offset `k` of the beat is bits 8k+7..8k of `data`, its strobe is bit `k` of `strobes`. -/
structure WriteBeat where
  data : BitVec 64
  strobes : BitVec 8
  deriving DecidableEq, Repr

/-- One item on the memory response channel (R43): it carries its five-bit id and its direction. -/
inductive MemItem where
  | readBeat (id : BitVec 5) (data : BitVec 64) (status : RespStatus)
  | writeDone (id : BitVec 5) (status : RespStatus)
  deriving DecidableEq, Repr

/-- A command of the Dirty Tracker, or SOFT_CLEAR, that the supervisor gives between the two dirty additions of one write (R103):
its argument byte is that of the command itself. No other command comes there, and no fetch frame, so that of several such commands
only the last response can be fetched: R103, R161, R162 and R172 leave open whether one can, and the model chooses that none does
(DESIGN CHOICE, log entries 13 and 27). -/
inductive DirtyCommand where
  | takeDirty (count : Byte)
  | clearDirty (index : Byte)
  | dirtyStatus
  | setDirtyThreshold (threshold : Byte)
  | softClear
  deriving DecidableEq, Repr

/-- A beat as the host offers it, and the commands that the supervisor gives between the two dirty additions of the write, when the
beat is its last one and these additions are made, at once or at its release (R103, log entry 13). -/
structure OfferedBeat where
  beat : WriteBeat
  between : List DirtyCommand
  deriving DecidableEq, Repr

/-- An item as the memory presents it at the head of its response channel, and whether the host is ready to take it (R52). -/
structure OfferedItem where
  item : MemItem
  hostReady : Bool
  deriving DecidableEq, Repr

/-- The sixteen bytes of a region entry as STAGE_ENTRY carries them, byte 0 first (section 10.6). -/
abbrev RawEntry := Vector Byte 16

/-- The commands, in the table's order. -/
inductive Instr where
  /-- POWER_ON_RESET: POR_N is asserted. -/
  | powerOnReset
  /-- POWER_ON_RESET_RELEASE: POR_N is deasserted. -/
  | powerOnResetRelease
  /-- PORT_RESET_ASSERT: PRST_N is asserted. -/
  | portResetAssert
  /-- PORT_RESET_DEASSERT: PRST_N is deasserted. -/
  | portResetDeassert
  /-- HOST_REQUEST_ACCEPT: the request presented on the host request channel. -/
  | hostRequestAccept (req : Request)
  /-- HOST_WRITE_BEAT: the beat presented on the host write data channel. -/
  | hostWriteBeat (offer : OfferedBeat)
  /-- HOST_CLAIM_GRANT: the arbiter grants the host claim. -/
  | hostClaimGrant
  /-- SCAN_CLAIM_GRANT: the arbiter grants the scan claim. -/
  | scanClaimGrant
  /-- FORCED_CLAIM_GRANT: the arbiter grants the forced claim. -/
  | forcedClaimGrant
  /-- MEMORY_REQUEST_TAKEN: the memory takes the request presented to it. -/
  | memoryRequestTaken
  /-- MEMORY_WRITE_BEAT_TAKEN: the memory takes the write beat presented to it. -/
  | memoryWriteBeatTaken
  /-- IDLE_GAP_MET: the idle-gap count reaches the idle hold. -/
  | idleGapMet
  /-- MEMORY_RESPONSE_ITEM_PASS: the item of a host stream that the memory presents at the head of its response channel. -/
  | memoryResponseItemPass (offer : OfferedItem)
  /-- MEMORY_RESPONSE_DISCARD: an item on the memory response channel that has no owner. -/
  | memoryResponseDiscard (item : MemItem)
  /-- LOCAL_ANSWER_SEND: the stream whose local answer begins, and the item, if any, that the memory comes to present at that
  moment (R53). -/
  | localAnswerSend (dir : Dir) (id : HostId) (head : Option MemItem)
  /-- LOCAL_ANSWER_ITEM_TAKEN: the host takes the item of the local answer presented to it. -/
  | localAnswerItemTaken
  /-- CHUNK_READ_RETURN: the fourth beat of the outstanding chunk read, with id 16. -/
  | chunkReadReturn (data : BitVec 64) (status : RespStatus)
  /-- STARVATION_TIMER_EXPIRY: the starvation timer runs out. -/
  | starvationTimerExpiry
  /-- ROUND_TIMER_EXPIRY: the round timer runs out. -/
  | roundTimerExpiry
  /-- DRAIN_TIMER_EXPIRY: the drain timer runs out. -/
  | drainTimerExpiry
  /-- DRAIN_COMPLETE: the drain condition of the draining commit holds. -/
  | drainComplete
  /-- WRITE_DRAIN_DONE: the writes awaited of SIGNING regions are 0. -/
  | writeDrainDone
  /-- STAGE_ENTRY: the index byte and the entry's sixteen bytes. -/
  | stageEntry (index : Byte) (entry : RawEntry)
  /-- READ_ENTRY: the index byte and the copy selector byte. -/
  | readEntry (index selector : Byte)
  /-- DISCARD: the index mask. -/
  | discard (mask : BitVec 16)
  /-- COMMIT. -/
  | commit
  /-- ABORT_COMMIT. -/
  | abortCommit
  /-- COMMIT_STATUS. -/
  | commitStatus
  /-- OPEN: the index byte. -/
  | openRegion (index : Byte)
  /-- CLOSE: the index byte. -/
  | closeRegion (index : Byte)
  /-- RESIGN: the index byte. -/
  | resign (index : Byte)
  /-- VERIFY: the index byte. -/
  | verify (index : Byte)
  /-- REGION_STATUS: the index byte. -/
  | regionStatus (index : Byte)
  /-- ENABLE: SCAN_CONTROL with action 1. -/
  | enable
  /-- DISABLE: SCAN_CONTROL with action 2. -/
  | disable
  /-- ROUNDS_ON: SCAN_CONTROL with action 3. -/
  | roundsOn
  /-- ROUNDS_OFF: SCAN_CONTROL with action 4. -/
  | roundsOff
  /-- RESUME: SCAN_CONTROL with action 5. -/
  | resume
  /-- SCAN_STATUS. -/
  | scanStatus
  /-- READ_EVENT. -/
  | readEvent
  /-- EVENT_STATUS. -/
  | eventStatus
  /-- CLEAR_FLAGS: the flag mask byte. -/
  | clearFlags (mask : Byte)
  /-- SET_ALERT_MASK: the flag mask byte. -/
  | setAlertMask (mask : Byte)
  /-- TAKE_DIRTY: the count byte. -/
  | takeDirty (count : Byte)
  /-- CLEAR_DIRTY: the index byte. -/
  | clearDirty (index : Byte)
  /-- DIRTY_STATUS. -/
  | dirtyStatus
  /-- SET_DIRTY_THRESHOLD: the threshold byte. -/
  | setDirtyThreshold (threshold : Byte)
  /-- PORT_STATUS. -/
  | portStatus
  /-- SOFT_CLEAR. -/
  | softClear
  /-- IDENTIFY. -/
  | identify
  /-- SET_TIMING: CLOCK_MHZ, idle hold, starvation limit, drain limit, round interval. -/
  | setTiming (clockMhz idleHold starvation drain round : BitVec 16)
  /-- FETCH: the whole bytes of a fetch frame after its first byte 0x00. -/
  | fetch (mosi : List Byte)
  /-- COMMAND_FRAME_REJECTED: the whole bytes of a frame, and whether it ended partway through a further byte. -/
  | commandFrameRejected (frame : List Byte) (partByte : Bool)
  /-- EMPTY_FRAME: CS_N asserted and deasserted with no SCK edge. -/
  | emptyFrame
  /-- CHUNK_READ_BEAT: one of the first three beats of the outstanding chunk read, with id 16. -/
  | chunkReadBeat (data : BitVec 64) (status : RespStatus)
  deriving DecidableEq, Repr

end Sys2Proof
end

