-- ==== Sys2Proof/WellFormed.lean ====
section
/-! DEFINITION. Which terms of the syntax are commands the port protocols allow. -/

namespace Sys2Proof

/-- The beats field of a request is 1 to 16 (R42). -/
def Request.beatsLegal (r : Request) : Bool := 1 ≤ r.beats && r.beats ≤ 16

/-- The id an item on the memory response channel carries. -/
def MemItem.id : MemItem → BitVec 5
  | .readBeat id _ _ => id
  | .writeDone id _ => id

/-- The checks on a command's operands. Every operand not named here has a type that admits only the values the spec
gives it. A request has 1 to 16 beats (R42). The item MEMORY_RESPONSE_ITEM_PASS passes carries a host id (R52). A frame
judged as a command frame has at least one bit, and its first byte is not the fetch code (R168, R170). -/
def Instr.wellFormed : Instr → Bool
  | .hostRequestAccept req => req.beatsLegal
  | .memoryResponseItemPass offer => offer.item.id.toNat < 16
  | .commandFrameRejected [] partByte => partByte
  | .commandFrameRejected (first :: _) _ => first != 0
  | _ => true

end Sys2Proof
end

