-- ==== Sys2Proof/Decode.lean ====
section
/-! DEFINITION. How a command frame of the management port spells a command (R168 to R171, R177, section 10.6), the CRC-8
that protects it, and the host's question about table words. The opcode table gives no row any bits. -/

namespace Sys2Proof

/-- One bit time of the CRC-8 register (R169): shift left, and combine with the polynomial when the bit shifted out was 1. -/
def crc8Shift (r : Byte) : Byte :=
  if r.msb then (r <<< 1) ^^^ Config.crc8Poly else r <<< 1

/-- One byte entering the CRC-8 register (R169). -/
def crc8Byte (r b : Byte) : Byte :=
  crc8Shift (crc8Shift (crc8Shift (crc8Shift (crc8Shift (crc8Shift (crc8Shift (crc8Shift (r ^^^ b))))))))

/-- The CRC-8 of a byte sequence (R169): the register starts at zero. -/
def crc8 (bytes : List Byte) : Byte := bytes.foldl crc8Byte 0

/-- The two bytes of a 16-bit value, least significant first (section 10.6). -/
def le16 (x : BitVec 16) : List Byte := [x.extractLsb' 0 8, x.extractLsb' 8 8]

/-- The 16-bit value whose bytes are given, least significant first. -/
def of16 (lo hi : Byte) : BitVec 16 := hi ++ lo

/-- A row of the code table of section 10.6: the code, the number of argument bytes and the length of the OK result. -/
structure CodeRow where
  code : Byte
  args : Nat
  result : Nat
  deriving DecidableEq, Repr

/-- The code table of section 10.6. -/
def codeTable : List CodeRow :=
  [⟨0x01, 0, 19⟩, ⟨0x02, 10, 10⟩, ⟨0x03, 17, 3⟩, ⟨0x04, 2, 18⟩, ⟨0x05, 2, 4⟩, ⟨0x06, 0, 5⟩, ⟨0x07, 0, 2⟩, ⟨0x08, 0, 16⟩] ++
  [⟨0x10, 1, 4⟩, ⟨0x11, 1, 4⟩, ⟨0x12, 1, 4⟩, ⟨0x13, 1, 4⟩, ⟨0x14, 1, 17⟩, ⟨0x18, 1, 3⟩, ⟨0x19, 0, 54⟩] ++
  [⟨0x20, 0, 21⟩, ⟨0x21, 0, 7⟩, ⟨0x22, 1, 1⟩, ⟨0x23, 1, 2⟩, ⟨0x28, 1, 36⟩, ⟨0x29, 1, 2⟩, ⟨0x2A, 0, 5⟩, ⟨0x2B, 1, 2⟩] ++
  [⟨0x30, 0, 11⟩, ⟨0x31, 0, 0⟩]

/-- The row of a command code, none when the byte is no command code. -/
def codeRow (code : Byte) : Option CodeRow := codeTable.find? fun row => row.code == code

/-- The command an argument-free or one-byte code spells. SCAN_CONTROL's five actions are five commands (R150). -/
def shortCommand (code arg : Nat) : Option Instr :=
  match code with
  | 0x01 => some .identify
  | 0x06 => some .commit
  | 0x07 => some .abortCommit
  | 0x08 => some .commitStatus
  | 0x10 => some (.openRegion (BitVec.ofNat 8 arg))
  | 0x11 => some (.closeRegion (BitVec.ofNat 8 arg))
  | 0x12 => some (.resign (BitVec.ofNat 8 arg))
  | 0x13 => some (.verify (BitVec.ofNat 8 arg))
  | 0x14 => some (.regionStatus (BitVec.ofNat 8 arg))
  | 0x18 =>
    match arg with
    | 1 => some .enable
    | 2 => some .disable
    | 3 => some .roundsOn
    | 4 => some .roundsOff
    | 5 => some .resume
    | _ => none
  | 0x19 => some .scanStatus
  | 0x20 => some .readEvent
  | 0x21 => some .eventStatus
  | 0x22 => some (.clearFlags (BitVec.ofNat 8 arg))
  | 0x23 => some (.setAlertMask (BitVec.ofNat 8 arg))
  | 0x28 => some (.takeDirty (BitVec.ofNat 8 arg))
  | 0x29 => some (.clearDirty (BitVec.ofNat 8 arg))
  | 0x2A => some .dirtyStatus
  | 0x2B => some (.setDirtyThreshold (BitVec.ofNat 8 arg))
  | 0x30 => some .portStatus
  | 0x31 => some .softClear
  | _ => none

/-- The command a code and its argument bytes spell (section 10.6), once the frame has the length its code asks for. -/
def commandOf (code : Byte) (args : List Byte) : Option Instr :=
  match args with
  | [] => shortCommand code.toNat 0
  | [a] => shortCommand code.toNat a.toNat
  | [a, b] =>
    if code = 0x04 then some (.readEntry a b)
    else if code = 0x05 then some (.discard (of16 a b))
    else none
  | [a, b, c, d, e, f, g, h, i, j] =>
    if code = 0x02 then some (.setTiming (of16 a b) (of16 c d) (of16 e f) (of16 g h) (of16 i j)) else none
  | index :: entry =>
    if code = 0x03 then
      if h : entry.length = 16 then some (.stageEntry index ⟨entry.toArray, by simpa using h⟩) else none
    else none

/-- What the management port makes of a frame (R168, R170, R171). -/
inductive FrameJudgement where
  /-- No bit was transferred, or the frame is a fetch frame. -/
  | notCommand
  /-- R170 test 1. -/
  | unknown
  /-- R170 test 2. -/
  | length
  /-- R170 test 3. -/
  | frameCrc
  /-- A correct SCAN_CONTROL frame whose action byte is none of the five codes (R150, R177). -/
  | badAction
  /-- A correct command frame. -/
  | command (c : Instr)
  deriving DecidableEq, Repr

/-- The judgement of a frame at the deassertion of CS_N (R168, R170), from its whole bytes and whether it ended partway
through a further byte. A frame with no whole byte has no first byte, and is of the wrong length (R168). -/
def judgeFrame (frame : List Byte) (partByte : Bool) : FrameJudgement :=
  match frame with
  | [] => if partByte then .length else .notCommand
  | code :: rest =>
    if code = 0 then .notCommand
    else
      match codeRow code with
      | none => .unknown
      | some row =>
        if partByte || rest.length != row.args + 1 then .length
        else if rest.getLast? != some (crc8 (code :: rest.dropLast)) then .frameCrc
        else
          match commandOf code rest.dropLast with
          | some c => .command c
          | none => .badAction

/-- The code and argument bytes of a supervisor command's frame (section 10.6), none for a command that no frame carries. -/
def commandBytes : Instr → Option (List Byte)
  | .identify => some [0x01]
  | .setTiming c h s d r => some ([0x02] ++ le16 c ++ le16 h ++ le16 s ++ le16 d ++ le16 r)
  | .stageEntry i e => some (0x03 :: i :: e.toList)
  | .readEntry i sel => some [0x04, i, sel]
  | .discard m => some (0x05 :: le16 m)
  | .commit => some [0x06]
  | .abortCommit => some [0x07]
  | .commitStatus => some [0x08]
  | .openRegion i => some [0x10, i]
  | .closeRegion i => some [0x11, i]
  | .resign i => some [0x12, i]
  | .verify i => some [0x13, i]
  | .regionStatus i => some [0x14, i]
  | .enable => some [0x18, 1]
  | .disable => some [0x18, 2]
  | .roundsOn => some [0x18, 3]
  | .roundsOff => some [0x18, 4]
  | .resume => some [0x18, 5]
  | .scanStatus => some [0x19]
  | .readEvent => some [0x20]
  | .eventStatus => some [0x21]
  | .clearFlags m => some [0x22, m]
  | .setAlertMask m => some [0x23, m]
  | .takeDirty n => some [0x28, n]
  | .clearDirty i => some [0x29, i]
  | .dirtyStatus => some [0x2A]
  | .setDirtyThreshold t => some [0x2B, t]
  | .portStatus => some [0x30]
  | .softClear => some [0x31]
  | .powerOnReset | .powerOnResetRelease | .portResetAssert | .portResetDeassert => none
  | .hostRequestAccept _ | .hostWriteBeat _ | .hostClaimGrant | .scanClaimGrant | .forcedClaimGrant => none
  | .memoryRequestTaken | .memoryWriteBeatTaken | .idleGapMet | .memoryResponseItemPass _ => none
  | .memoryResponseDiscard _ | .localAnswerSend _ _ _ | .localAnswerItemTaken => none
  | .chunkReadReturn _ _ | .chunkReadBeat _ _ => none
  | .starvationTimerExpiry | .roundTimerExpiry | .drainTimerExpiry | .drainComplete | .writeDrainDone => none
  | .fetch _ | .commandFrameRejected _ _ | .emptyFrame => none

/-- The frame that carries a supervisor command: its code, its arguments and their CRC-8 (R169, R170). -/
def encodeFrame (c : Instr) : Option (List Byte) :=
  (commandBytes c).map fun bytes => bytes ++ [crc8 bytes]

/-- The command a table word spells. The table gives no row any bits ("fields" is empty in every row), so no word does. -/
def decodeTableWord (_nbits _w : Nat) : Option Instr := none

end Sys2Proof
end

