-- ==== Sys2Proof/Machine/State.lean ====
section
/-! DEFINITION. The state of the FG-340, block by block as section 3 of spec/00_scope.md lists them, and its value after
power-on reset. Plain data throughout. -/

namespace Sys2Proof.Machine

/-- The monitor has no fault of its own in the spec. -/
inductive Fault where
  /-- Raised by HOST_REQUEST_ACCEPT alone, for a term whose beats field is not 1 to 16: the host port carries no such
  request (R42), so nothing was presented. Safe: the model stops where the hardware has no behaviour. -/
  | illegalRequest
  deriving DecidableEq, Repr

/-- Why the model refuses a command. -/
inductive Refusal where
  /-- Raised by an arm of exec for a command that has no meaning yet (none is left). Safe. -/
  | notModelled (mnemonic : String)
  deriving DecidableEq, Repr

/-! ## Region Table (R1 to R12) -/

/-- How a write refused because of a region is answered (R6). -/
inductive RefusalMode where
  | error
  | silent
  deriving DecidableEq, Repr

/-- The element width of a WATCH region (R10). -/
inductive Width where
  | w8
  | w16
  | w32
  deriving DecidableEq, Repr

/-- The action of a WATCH region (R10). -/
inductive WatchAction where
  | report
  | refuse
  deriving DecidableEq, Repr

/-- The partial policy of a WATCH region (R10). -/
inductive PartialPolicy where
  | ignore
  | violate
  deriving DecidableEq, Repr

/-- The dirty granule of a TRACK region (R11): 256 B, 1 KiB or 4 KiB. -/
inductive Granule where
  | b256
  | k1
  | k4
  deriving DecidableEq, Repr

/-- The WATCH part (R10). -/
structure WatchPart where
  width : Width
  low : BitVec 32
  high : BitVec 32
  action : WatchAction
  policy : PartialPolicy
  deriving DecidableEq, Repr

/-- The kind of an entry together with the optional part of that kind and no other (R4, R8). -/
inductive Part where
  | guard
  | checked (failClosed : Bool)
  | watch (part : WatchPart)
  | track (granule : Granule)
  deriving DecidableEq, Repr

/-- An entry of either copy (R1, section 1.2): base and size in granules of 256 bytes. -/
structure Entry where
  enabled : Bool
  base : BitVec 24
  size : BitVec 24
  refusal : RefusalMode
  quiesce : Bool
  part : Part
  deriving DecidableEq, Repr

/-- The Region Table: both copies and the Pending Set (R1, R17). -/
structure RegionTable where
  staged : Tab Entry
  active : Tab Entry
  pendingSet : IxSet
  deriving DecidableEq, Repr

/-! ## Timers (R175) -/

/-- A running timer: the clock cycles it runs for, the cycles gone by, and the CLOCK_MHZ it was started with. A stopped
timer is an absent one. -/
structure Timer where
  limit : Nat
  elapsed : Nat
  mhz : Nat
  deriving DecidableEq, Repr

/-! ## Commit Unit (R23) -/

/-- A range of byte addresses: from `lo` up to, and not including, `hi`. -/
structure ByteRange where
  lo : Nat
  hi : Nat
  deriving DecidableEq, Repr

/-- What the Commit Unit holds in DRAINING (R23, R26, R27). -/
structure Drain where
  quiesce : IxSet
  immediate : IxSet
  ranges : List ByteRange
  timer : Timer
  deriving DecidableEq, Repr

/-- The last outcome, with its reason when it is ABORTED (R23). -/
inductive LastOutcome where
  | none
  | done
  | timeout
  | abortedByCommand
  | abortedByPortReset
  deriving DecidableEq, Repr

/-- The Commit Unit: in DRAINING exactly when `draining` is present. -/
structure CommitUnit where
  draining : Option Drain
  outcome : LastOutcome
  switched : IxSet
  leftPending : IxSet
  deriving DecidableEq, Repr

/-! ## Request Tracker and Write Buffer (R44, R61) -/

/-- Why a transaction is held (R44). -/
inductive Held where
  | range
  | stream
  deriving DecidableEq, Repr

/-- The verdict behind a local answer: MALFORMED, or REFUSE with its refusing region (R44). -/
inductive LocalVerdict where
  | malformed
  | refuse (region : Ix)
  deriving DecidableEq, Repr

/-- The phase of a transaction, carrying the fields R44 gives it in that phase. The verdict is FORWARD in WAITING_FORWARD
and FORWARDED, the local verdict in LOCAL_ANSWER and RETURNING, and absent before. -/
inductive Phase where
  | collecting
  | judging
  | held (why : Held)
  | waitingForward
  | forwarded
  | localAnswer (verdict : LocalVerdict) (status : RespStatus)
  | returning (verdict : LocalVerdict) (status : RespStatus)
  deriving DecidableEq, Repr

/-- The state of a Write Buffer slot that is not FREE (R61). -/
inductive SlotState where
  | filling
  | full
  | sending (sent : Nat)
  deriving DecidableEq, Repr

/-- A Write Buffer slot that is not FREE: its beats in position order. Its owner is the transaction that holds it, its
beats expected are that transaction's beats, its beats received are the beats it holds. -/
structure Slot where
  state : SlotState
  beats : List WriteBeat
  deriving DecidableEq, Repr

/-- A Transaction Table entry in use (R44). `tag` is the model's name for it. `strobes` keeps the strobes of a forwarded
write for as long as it is in flight (R66), `tracked` whether it counts in tracked writes in flight (R106), `delivered`
how many items of its response the host has taken, `errSeen` whether its memory response has held an ERR (R58). `between` is the
model's own: the commands that come between the write's two dirty additions, known from its last beat on (log entry 13). -/
structure Txn where
  tag : Nat
  req : Request
  phase : Phase
  slot : Option Slot
  strobes : List (BitVec 8)
  tracked : Bool
  delivered : Nat
  errSeen : Bool
  between : List DirtyCommand
  deriving DecidableEq, Repr

/-- Which source had the host response channel for the last response (R53). -/
inductive Source where
  | memory
  | localAnswer
  deriving DecidableEq, Repr

/-- The Request Tracker: the entries in use in acceptance order (the other entries are free, R44), the transaction whose
response has the host response channel, whether the channel is given to the oldest eligible local answer, whose sending has not
begun (R53), the alternation of R53, the eligible local answers of R51 (groups that became eligible together, the oldest group
first), and the malformed counter (R48). -/
structure Tracker where
  txns : List Txn
  nextTag : Nat
  hostChan : Option Nat
  localTurn : Bool
  lastSource : Source
  eligible : List (List Nat)
  malformed : BitVec 16
  deriving DecidableEq, Repr

/-! ## Memory Port Forwarder (R54 to R58) -/

/-- The granted claim whose request is presented on the memory request channel (R56). -/
inductive MemReq where
  | host (tag : Nat)
  | chunk (addr : Addr)
  deriving DecidableEq, Repr

/-- A running idle-gap count (R55): the idle hold taken at its start, and the cycles counted. -/
structure IdleGap where
  hold : Nat
  count : Nat
  deriving DecidableEq, Repr

/-- The Forwarder: the forwarding queue (R54), the writes whose slots are SENDING in the order their requests were
transferred (R64), the presented request, the head of the memory response channel while the memory keeps an item of a host
stream presented there (R52), the idle-gap count (absent while it is zero) and the memory error counter. -/
structure Forwarder where
  queue : List Nat
  sending : List Nat
  memReq : Option MemReq
  head : Option MemItem
  idleGap : Option IdleGap
  memErrors : BitVec 16
  deriving DecidableEq, Repr

/-! ## Policy Check (R74, R92) -/

/-- The per-region counters of the Policy Check. -/
structure Policy where
  refusals : Tab (BitVec 16)
  windows : Tab (BitVec 16)
  deriving DecidableEq, Repr

/-! ## Dirty Tracker (R93) -/

/-- An entry of the Dirty List. -/
structure DirtyEntry where
  region : Ix
  block : Nat
  deriving DecidableEq, Repr

/-- The Dirty Tracker: the Dirty List, oldest first, the overflow flags, the threshold, tracked writes in flight. -/
structure DirtyTracker where
  list : List DirtyEntry
  overflow : IxSet
  threshold : Nat
  inFlight : Nat
  deriving DecidableEq, Repr

/-! ## Signature Unit (R109, R110) -/

/-- The sub-phase of SIGNING, with writes awaited in DRAINING_WRITES (R109, R110). -/
inductive SubPhase where
  | drainingWrites (awaited : Nat)
  | queued
  | active
  deriving DecidableEq, Repr

/-- The life state of a region, with the reference in the two states that have one (R109). -/
inductive Life where
  | blank
  | opened
  | signing (sub : SubPhase)
  | intact (reference : BitVec 32)
  | corrupt (reference : BitVec 32)
  deriving DecidableEq, Repr

/-- The last job result (R109). -/
inductive JobResult where
  | none
  | pass
  | mismatch
  | abandoned
  | errorRetrying
  deriving DecidableEq, Repr

/-- The Signature Unit: at an index without a life state `life` is absent. -/
structure SignatureUnit where
  life : Tab (Option Life)
  lastResult : Tab JobResult
  verifyCount : Tab (BitVec 16)
  deriving DecidableEq, Repr

/-! ## Scan Engine (R127 to R134) -/

/-- The kind and origin of a job (R129). -/
inductive JobKind where
  | sign
  | verifyRound
  | verifyDemand
  deriving DecidableEq, Repr

/-- The read disposition (R127). -/
inductive Disposition where
  | apply
  | discard
  deriving DecidableEq, Repr

/-- What the engine holds in READING: the outstanding read's address, its disposition, off pending, and the beats of it
that have arrived (R127, R136). -/
structure ChunkRead where
  addr : Addr
  disposition : Disposition
  offPending : Bool
  beats : List (BitVec 64 × RespStatus)
  deriving DecidableEq, Repr

/-- The engine state (R127). -/
inductive EngineState where
  | off
  | idle
  | waitingGap
  | reading (read : ChunkRead)
  | halted
  deriving DecidableEq, Repr

/-- The active job context (R134): chunks done is 40 bits wide and saturating. -/
structure JobContext where
  region : Ix
  kind : JobKind
  cursor : Nat
  crc : BitVec 32
  chunksDone : BitVec 40
  deriving DecidableEq, Repr

/-- The Scan Queue's three classes, each oldest first (R129). -/
structure ScanQueue where
  sign : List Ix
  demand : List Ix
  round : List Ix
  deriving DecidableEq, Repr

/-- The Scan Engine (R127). `ties` is the model's own: how often the order of a round's expiry and of a joining job that fell together
has been drawn from the free value (log entry 26). -/
structure ScanEngine where
  engine : EngineState
  context : Option JobContext
  roundMode : Bool
  queue : ScanQueue
  streak : Nat
  starvation : Option Timer
  forced : Bool
  roundTimer : Option Timer
  roundCount : BitVec 16
  forcedCount : BitVec 16
  ties : Nat
  deriving DecidableEq, Repr

/-! ## Event Unit (R153 to R155) -/

/-- The sixteen kinds of event (R154). -/
inductive EventKind where
  | writeRefused
  | readRefused
  | malformed
  | windowReport
  | windowRefused
  | mismatch
  | verifyResult
  | signDone
  | signFailed
  | scanReadError
  | scanHalted
  | commitDone
  | commitTimeout
  | commitAborted
  | dirtyOverflow
  | dirtyThreshold
  deriving DecidableEq, Repr

/-- The eight detail bytes of an event (R155). -/
abbrev Detail := Vector Byte 8

/-- An event as its producer raises it (R155). -/
structure Event where
  kind : EventKind
  region : Option Ix
  hostId : Option HostId
  addr : Option Addr
  detail : Option Detail
  deriving DecidableEq, Repr

/-- A record of the Event Log (R155): what the event carried, with seq, repeat and dropped before. -/
structure Record where
  seq : BitVec 16
  event : Event
  repeats : BitVec 8
  droppedBefore : BitVec 8
  deriving DecidableEq, Repr

/-- The six flags, or a set of them (R153). -/
structure Flags where
  policy : Bool
  integrity : Bool
  scan : Bool
  config : Bool
  dirty : Bool
  log : Bool
  deriving DecidableEq, Repr

/-- The Event Unit (R153): the log oldest first. -/
structure EventUnit where
  log : List Record
  nextSeq : BitVec 16
  dropped : BitVec 8
  flags : Flags
  mask : Flags
  deriving DecidableEq, Repr

/-! ## Management Port (R167) -/

/-- The frame receiver (R167). -/
inductive Receiver where
  | idle
  | receiving (bytes : List Byte)
  deriving DecidableEq, Repr

/-- The response statuses (R173). -/
inductive Status where
  | ok
  | busy
  | invalid
  | state
  | empty
  | range
  | frameCrc
  | length
  | unknown
  | none
  deriving DecidableEq, Repr

/-- A response: its status and its result bytes (R167, R173). -/
structure Response where
  status : Status
  result : List Byte
  deriving DecidableEq, Repr

/-- The five timing settings (R167, R175). -/
structure Timing where
  clockMhz : BitVec 16
  idleHold : BitVec 16
  starvation : BitVec 16
  drain : BitVec 16
  round : BitVec 16
  deriving DecidableEq, Repr

/-- The Management Port (R167). `miso` is the model's own: what MISO carried, byte by byte, in the last frame. -/
structure Management where
  receiver : Receiver
  response : Option Response
  timing : Timing
  miso : List Byte
  deriving DecidableEq, Repr

/-! ## Pins and wires -/

/-- The two reset inputs: whether POR_N and PRST_N are asserted (section 5). -/
structure Pins where
  por : Bool
  prst : Bool
  deriving DecidableEq, Repr

/-- An item on the host response channel (R42). It carries no id. -/
inductive HostItem where
  | readBeat (data : BitVec 64) (status : RespStatus)
  | writeDone (status : RespStatus)
  deriving DecidableEq, Repr

/-- A request on the memory request channel (R43), with its five-bit id. -/
structure PortRequest where
  dir : Dir
  id : BitVec 5
  addr : Addr
  beats : Nat
  deriving DecidableEq, Repr

/-- The model's own fields: the last item transferred on each channel the monitor drives. -/
structure Wires where
  hostItem : Option HostItem
  memRequest : Option PortRequest
  memBeat : Option WriteBeat
  deriving DecidableEq, Repr

/-- The state of the monitor, and the commands waiting for it, first in first out. -/
structure State where
  pending : List Instr
  pins : Pins
  table : RegionTable
  commit : CommitUnit
  tracker : Tracker
  fwd : Forwarder
  policy : Policy
  dirty : DirtyTracker
  sig : SignatureUnit
  scan : ScanEngine
  events : EventUnit
  mgmt : Management
  wires : Wires
  deriving DecidableEq, Repr

/-! ## Values after power-on reset -/

/-- The reset entry (R2). -/
def Entry.reset : Entry :=
  { enabled := false, base := 0, size := 1, refusal := .error, quiesce := false, part := .guard }

/-- No index. -/
def noIx : IxSet := Tab.const false

/-- Every entry of both copies is the reset entry and the Pending Set is empty (R2). -/
def RegionTable.reset : RegionTable :=
  { staged := Tab.const Entry.reset, active := Tab.const Entry.reset, pendingSet := noIx }

/-- R23. -/
def CommitUnit.reset : CommitUnit :=
  { draining := none, outcome := .none, switched := noIx, leftPending := noIx }

/-- R44, R48, R53. That a local answer had the channel last is DEDUCED (log entry 7). -/
def Tracker.reset : Tracker :=
  { txns := [], nextTag := 0, hostChan := none, localTurn := false, lastSource := .localAnswer, eligible := [], malformed := 0 }

/-- R54, R55, R58. -/
def Forwarder.reset : Forwarder :=
  { queue := [], sending := [], memReq := none, head := none, idleGap := none, memErrors := 0 }

/-- R74, R92. -/
def Policy.reset : Policy := { refusals := Tab.const 0, windows := Tab.const 0 }

/-- R93. -/
def DirtyTracker.reset : DirtyTracker := { list := [], overflow := noIx, threshold := 48, inFlight := 0 }

/-- R109. -/
def SignatureUnit.reset : SignatureUnit :=
  { life := Tab.const none, lastResult := Tab.const .none, verifyCount := Tab.const 0 }

/-- The empty Scan Queue. -/
def ScanQueue.empty : ScanQueue := { sign := [], demand := [], round := [] }

/-- R127, and no draw of the free value yet (DESIGN CHOICE, log entry 26). -/
def ScanEngine.reset : ScanEngine :=
  { engine := .off, context := none, roundMode := false, queue := ScanQueue.empty, streak := 0, starvation := none,
    forced := false, roundTimer := none, roundCount := 0, forcedCount := 0, ties := 0 }

/-- Every flag clear. -/
def Flags.none : Flags :=
  { policy := false, integrity := false, scan := false, config := false, dirty := false, log := false }

/-- All six flags. -/
def Flags.all : Flags :=
  { policy := true, integrity := true, scan := true, config := true, dirty := true, log := true }

/-- R153. -/
def EventUnit.reset : EventUnit :=
  { log := [], nextSeq := 0, dropped := 0, flags := Flags.none, mask := Flags.all }

/-- The default timing settings (R167). -/
def Timing.default : Timing :=
  { clockMhz := 100, idleHold := 64, starvation := 2000, drain := 100, round := 1000 }

/-- R167. -/
def Management.reset : Management :=
  { receiver := .idle, response := none, timing := Timing.default, miso := [] }

/-- Nothing has been transferred. -/
def Wires.reset : Wires := { hostItem := none, memRequest := none, memBeat := none }

/-- The monitor after power-on reset, POR_N and PRST_N deasserted, with no command waiting. -/
def State.reset : State :=
  { pending := [], pins := { por := false, prst := false }, table := RegionTable.reset, commit := CommitUnit.reset,
    tracker := Tracker.reset, fwd := Forwarder.reset, policy := Policy.reset, dirty := DirtyTracker.reset,
    sig := SignatureUnit.reset, scan := ScanEngine.reset, events := EventUnit.reset, mgmt := Management.reset,
    wires := Wires.reset }

end Sys2Proof.Machine
end

