-- ==== Sys2Proof/Machine/Operands.lean ====
section
/-! DEFINITION. The byte layouts of section 10.6: how argument bytes are read (region indices, masks, the 16-byte region
entry with the field checks of R14) and how results are laid out. -/

namespace Sys2Proof.Machine

/-! ## Plain bytes -/

/-- The first `n` bytes of a number, least significant first. -/
def leBytes (n x : Nat) : List Byte := (List.range n).map fun k => BitVec.ofNat 8 (x / 256 ^ k)

/-- A yes or no as a result byte. -/
def yesNo (b : Bool) : Byte := if b then 1 else 0

/-- A list of bytes cut or filled with zeros to a length (R173). -/
def padTo (n : Nat) (bytes : List Byte) : List Byte := (bytes ++ List.replicate n 0).take n

/-- Eight detail bytes; those not given are zero (section 10.6). -/
def detailOf (bytes : List Byte) : Detail :=
  #v[bytes.getD 0 0, bytes.getD 1 0, bytes.getD 2 0, bytes.getD 3 0, bytes.getD 4 0, bytes.getD 5 0, bytes.getD 6 0,
    bytes.getD 7 0]

/-- A byte whose bits, from bit 0 up, are the indications given. -/
def bitByte (bits : List Bool) : Byte :=
  BitVec.ofNat 8 (bits.foldr (fun b acc => 2 * acc + (if b then 1 else 0)) 0)

/-! ## Index masks -/

/-- A 16-bit counter after one more, staying at its largest value (Conventions, Counters). -/
def satInc {w : Nat} (c : BitVec w) : BitVec w := if c = BitVec.allOnes w then c else c + 1

/-- The set a 16-bit mask names: bit n names index n. -/
def maskSet (m : BitVec 16) : IxSet := Tab.ofFn fun i => m.getLsbD i.val

/-- The number whose bit n is set for each index n of a set. -/
def setNat (s : IxSet) : Nat := (allIx.filter s.get).foldl (fun acc i => acc + 2 ^ i.val) 0

/-- A set of indices as the two bytes of its mask. -/
def maskBytes (s : IxSet) : List Byte := leBytes 2 (setNat s)

/-- The indices in either set. -/
def unionIx (a b : IxSet) : IxSet := Tab.ofFn fun i => a.get i || b.get i

/-- The indices in both sets. -/
def interIx (a b : IxSet) : IxSet := Tab.ofFn fun i => a.get i && b.get i

/-- The indices of the first set that are not in the second. -/
def diffIx (a b : IxSet) : IxSet := Tab.ofFn fun i => a.get i && !b.get i

/-- Whether a set names no index. -/
def emptyIx (s : IxSet) : Bool := allIx.all fun i => !s.get i

/-- The region index an argument byte gives, none above 15 (R177). -/
def indexOf (b : Byte) : Option Ix := if h : b.toNat < 16 then some ⟨b.toNat, h⟩ else none

/-! ## The region entry -/

/-- Bits `lo` up to `lo + n - 1` of a byte, as a number. -/
def bitsOf (b : Byte) (lo n : Nat) : Nat := (b.extractLsb' lo n).toNat

/-- Bytes of a width (R82). -/
def Width.bytes : Width → Nat
  | .w8 => 1
  | .w16 => 2
  | .w32 => 4

/-- The largest unsigned value of a width (R10). -/
def Width.maxValue : Width → Nat
  | .w8 => 255
  | .w16 => 65535
  | .w32 => 4294967295

/-- A dirty granule in bytes (R11). -/
def Granule.bytes : Granule → Nat
  | .b256 => 256
  | .k1 => 1024
  | .k4 => 4096

/-- A dirty granule in granules of 256 bytes (R14 check 6). -/
def Granule.granules : Granule → Nat
  | .b256 => 1
  | .k1 => 4
  | .k4 => 16

/-- The element width a two-bit code names. -/
def widthOf : Nat → Option Width
  | 0 => some .w8
  | 1 => some .w16
  | 2 => some .w32
  | _ => none

/-- The action a two-bit code names. -/
def actionOf : Nat → Option WatchAction
  | 0 => some .report
  | 1 => some .refuse
  | _ => none

/-- The partial policy a two-bit code names. -/
def policyOf : Nat → Option PartialPolicy
  | 0 => some .ignore
  | 1 => some .violate
  | _ => none

/-- The dirty granule a two-bit code names. -/
def granuleOf : Nat → Option Granule
  | 0 => some .b256
  | 1 => some .k1
  | 2 => some .k4
  | _ => none

/-- The refusal mode a two-bit code names. -/
def refusalOf : Nat → Option RefusalMode
  | 0 => some .error
  | 1 => some .silent
  | _ => none

/-- Four bytes of an entry as a 32-bit value, least significant first. -/
def of32 (a b c d : Byte) : BitVec 32 := d ++ c ++ b ++ a

/-- The WATCH part in an entry's option byte and bounds; none when an enumerated field fails check 1. -/
def watchPartOf (raw : RawEntry) : Option WatchPart :=
  match widthOf (bitsOf raw[1] 0 2), actionOf (bitsOf raw[1] 2 2), policyOf (bitsOf raw[1] 4 2) with
  | some w, some a, some p =>
    some { width := w, low := of32 raw[8] raw[9] raw[10] raw[11], high := of32 raw[12] raw[13] raw[14] raw[15],
           action := a, policy := p }
  | _, _, _ => none

/-- The optional part of the kind an entry gives (R8); none when the kind or an enumerated field of its part fails check 1. -/
def partOf (raw : RawEntry) : Option Part :=
  match bitsOf raw[0] 1 3 with
  | 0 => some .guard
  | 1 => some (.checked (raw[1].getLsbD 0))
  | 2 => (watchPartOf raw).map .watch
  | 3 => (granuleOf (bitsOf raw[1] 0 2)).map .track
  | _ => none

/-- The entry the sixteen bytes describe, none when an enumerated field fails check 1 of R14. -/
def entryOf (raw : RawEntry) : Option Entry :=
  match refusalOf (bitsOf raw[0] 4 2), partOf raw with
  | some mode, some part =>
    some { enabled := raw[0].getLsbD 0, base := raw[4] ++ raw[3] ++ raw[2], size := raw[7] ++ raw[6] ++ raw[5],
           refusal := mode, quiesce := raw[0].getLsbD 6, part := part }
  | _, _ => none

/-- Check 4 of R14. -/
def Part.boundsFit : Part → Bool
  | .watch w => decide (w.low.toNat ≤ w.width.maxValue) && decide (w.high.toNat ≤ w.width.maxValue)
  | .guard | .checked _ | .track _ => true

/-- Check 5 of R14. -/
def Part.boundsOrdered : Part → Bool
  | .watch w => decide (w.low.toNat ≤ w.high.toNat)
  | .guard | .checked _ | .track _ => true

/-- Check 6 of R14. -/
def Part.granuleFits (size : Nat) : Part → Bool
  | .track g => size % g.granules = 0
  | .guard | .checked _ | .watch _ => true

/-- The number of the first of checks 2 to 6 of R14 that an entry fails, 0 when it passes them all. -/
def Entry.failedCheck (e : Entry) : Nat :=
  if e.size.toNat < 1 || 1048576 < e.size.toNat then 2
  else if 16777216 < e.base.toNat + e.size.toNat then 3
  else if !e.part.boundsFit then 4
  else if !e.part.boundsOrdered then 5
  else if !e.part.granuleFits e.size.toNat then 6
  else 0

/-- The field checks of R14 on the sixteen bytes of an entry: the entry, or the number of the first check that fails. -/
def fieldChecks (raw : RawEntry) : Except Nat Entry :=
  match entryOf raw with
  | none => .error 1
  | some e => if e.failedCheck = 0 then .ok e else .error e.failedCheck

/-- The kind's code. -/
def Part.kindCode : Part → Nat
  | .guard => 0
  | .checked _ => 1
  | .watch _ => 2
  | .track _ => 3

/-- The refusal mode's code. -/
def RefusalMode.code : RefusalMode → Nat
  | .error => 0
  | .silent => 1

/-- The element width's code. -/
def Width.code : Width → Nat
  | .w8 => 0
  | .w16 => 1
  | .w32 => 2

/-- The action's code. -/
def WatchAction.code : WatchAction → Nat
  | .report => 0
  | .refuse => 1

/-- The partial policy's code. -/
def PartialPolicy.code : PartialPolicy → Nat
  | .ignore => 0
  | .violate => 1

/-- The dirty granule's code. -/
def Granule.code : Granule → Nat
  | .b256 => 0
  | .k1 => 1
  | .k4 => 2

/-- The option byte of an entry. -/
def Part.optionByte : Part → Byte
  | .guard => 0
  | .checked fc => yesNo fc
  | .watch w => BitVec.ofNat 8 (w.width.code + 4 * w.action.code + 16 * w.policy.code)
  | .track g => BitVec.ofNat 8 g.code

/-- Bytes 8 to 15 of an entry: the window bounds, zero where absent. -/
def Part.boundBytes : Part → List Byte
  | .watch w => leBytes 4 w.low.toNat ++ leBytes 4 w.high.toNat
  | .guard | .checked _ | .track _ => List.replicate 8 0

/-- The option presence byte of READ_ENTRY. -/
def Part.presence : Part → Byte
  | .guard => 0x00
  | .checked _ => 0x01
  | .watch _ => 0x3E
  | .track _ => 0x40

/-- The sixteen bytes of an entry as READ_ENTRY reports it (R19, section 10.6). -/
def Entry.bytes (e : Entry) : List Byte :=
  [BitVec.ofNat 8 ((if e.enabled then 1 else 0) + 2 * e.part.kindCode + 16 * e.refusal.code + (if e.quiesce then 64 else 0)),
    e.part.optionByte] ++
  leBytes 3 e.base.toNat ++ leBytes 3 e.size.toNat ++ e.part.boundBytes

/-! ## Codes of section 10.6 -/

/-- Status codes (R173). -/
def Status.code : Status → Byte
  | .ok => 0x00
  | .busy => 0x01
  | .invalid => 0x02
  | .state => 0x03
  | .empty => 0x04
  | .range => 0x05
  | .frameCrc => 0x06
  | .length => 0x07
  | .unknown => 0x08
  | .none => 0x09

/-- Life state codes; 0 for none. -/
def lifeCode : Option Life → Byte
  | none => 0
  | some .blank => 1
  | some .opened => 2
  | some (.signing _) => 3
  | some (.intact _) => 4
  | some (.corrupt _) => 5

/-- Sub-phase codes; 0 for none. -/
def subPhaseCode : Option Life → Byte
  | some (.signing (.drainingWrites _)) => 1
  | some (.signing .queued) => 2
  | some (.signing .active) => 3
  | some .blank | some .opened | some (.intact _) | some (.corrupt _) | none => 0

/-- Writes awaited as reported: 0 outside DRAINING_WRITES (R179). -/
def awaitedOf : Option Life → Nat
  | some (.signing (.drainingWrites n)) => n
  | some (.signing .queued) | some (.signing .active) => 0
  | some .blank | some .opened | some (.intact _) | some (.corrupt _) | none => 0

/-- The reference, present in INTACT and CORRUPT (R109). -/
def referenceOf : Option Life → Option (BitVec 32)
  | some (.intact r) => some r
  | some (.corrupt r) => some r
  | some .blank | some .opened | some (.signing _) | none => none

/-- Job kind codes; 0 for none. -/
def jobKindCode : Option JobKind → Byte
  | none => 0
  | some .sign => 1
  | some .verifyRound => 2
  | some .verifyDemand => 3

/-- Last job result codes. -/
def JobResult.code : JobResult → Byte
  | .none => 0
  | .pass => 1
  | .mismatch => 2
  | .abandoned => 3
  | .errorRetrying => 4

/-- Engine state codes. -/
def EngineState.code : EngineState → Byte
  | .off => 0
  | .idle => 1
  | .waitingGap => 2
  | .reading _ => 3
  | .halted => 4

/-- Off pending, present in READING only (R127). -/
def EngineState.offPending : EngineState → Bool
  | .reading r => r.offPending
  | .off | .idle | .waitingGap | .halted => false

/-- Whether the disposition is DISCARD, in READING only (R127). -/
def EngineState.discarding : EngineState → Bool
  | .reading r => r.disposition == .discard
  | .off | .idle | .waitingGap | .halted => false

/-- Last outcome codes. -/
def LastOutcome.code : LastOutcome → Byte
  | .none => 0
  | .done => 1
  | .timeout => 2
  | .abortedByCommand => 3
  | .abortedByPortReset => 3

/-- Reason codes. -/
def LastOutcome.reason : LastOutcome → Byte
  | .none => 0
  | .done => 0
  | .timeout => 0
  | .abortedByCommand => 1
  | .abortedByPortReset => 2

/-- Answer status codes. -/
def answerCode : RespStatus → Byte
  | .ok => 0
  | .err => 1

/-- Event kind codes. -/
def EventKind.code : EventKind → Byte
  | .writeRefused => 0x01
  | .readRefused => 0x02
  | .malformed => 0x03
  | .windowReport => 0x04
  | .windowRefused => 0x05
  | .mismatch => 0x06
  | .verifyResult => 0x07
  | .signDone => 0x08
  | .signFailed => 0x09
  | .scanReadError => 0x0A
  | .scanHalted => 0x0B
  | .commitDone => 0x0C
  | .commitTimeout => 0x0D
  | .commitAborted => 0x0E
  | .dirtyOverflow => 0x0F
  | .dirtyThreshold => 0x10

/-- The flag mask byte of a set of flags. Bits 6 and 7, which section 10.6 lists no meaning for, are zero (DESIGN CHOICE, log entry
23). -/
def Flags.byte (f : Flags) : Byte := bitByte [f.policy, f.integrity, f.scan, f.config, f.dirty, f.log]

/-- The set of flags a mask byte names; none when either of its two highest bits is set (R162, R163, R177). -/
def flagsOf (m : Byte) : Option Flags :=
  if m.getLsbD 6 || m.getLsbD 7 then none
  else
    some { policy := m.getLsbD 0, integrity := m.getLsbD 1, scan := m.getLsbD 2, config := m.getLsbD 3,
           dirty := m.getLsbD 4, log := m.getLsbD 5 }

/-- The 20-byte event record (R178, section 10.6). -/
def Record.bytes (r : Record) : List Byte :=
  leBytes 2 r.seq.toNat ++
  [r.event.kind.code,
    bitByte [r.event.region.isSome, r.event.hostId.isSome, r.event.addr.isSome, r.event.detail.isSome],
    BitVec.ofNat 8 ((r.event.region.map Fin.val).getD 0),
    BitVec.ofNat 8 ((r.event.hostId.map BitVec.toNat).getD 0),
    r.repeats, r.droppedBefore] ++
  leBytes 4 ((r.event.addr.map BitVec.toNat).getD 0) ++
  ((r.event.detail.map Vector.toList).getD (List.replicate 8 0))

/-! ## Responses -/

/-- The bytes of a response on MISO: status, result, CRC-8 (R169, R173). -/
def Response.bytes (r : Response) : List Byte :=
  (r.status.code :: r.result) ++ [crc8 (r.status.code :: r.result)]

/-- An accepted command's response. -/
def okResponse (result : List Byte) : Response := { status := .ok, result := result }

/-- A refused command's response: its own result in the first bytes, zeros up to the OK length (R173). -/
def refusedResponse (status : Status) (okLength : Nat) (own : List Byte) : Response :=
  { status := status, result := padTo okLength own }

end Sys2Proof.Machine
end

