-- ==== Sys2Proof/Machine/Flags.lean ====
section
/-! DEFINITION. The Event Unit (chapter 9): the six flags, taking an event into the log, the alert mask and ALERT_N. -/

namespace Sys2Proof.Machine

/-- The class of an event kind, as the set holding that class's flag alone (R154). -/
def EventKind.flag : EventKind → Flags
  | .writeRefused | .readRefused | .malformed | .windowReport | .windowRefused => { Flags.none with policy := true }
  | .mismatch => { Flags.none with integrity := true }
  | .verifyResult | .signDone | .signFailed | .scanReadError | .scanHalted => { Flags.none with scan := true }
  | .commitDone | .commitTimeout | .commitAborted => { Flags.none with config := true }
  | .dirtyOverflow | .dirtyThreshold => { Flags.none with dirty := true }

/-- The LOG flag alone (R160). -/
def Flags.logOnly : Flags := { Flags.none with log := true }

/-- The flags in either set. -/
def Flags.union (a b : Flags) : Flags :=
  { policy := a.policy || b.policy, integrity := a.integrity || b.integrity, scan := a.scan || b.scan,
    config := a.config || b.config, dirty := a.dirty || b.dirty, log := a.log || b.log }

/-- The flags of the first set that are not in the second (R162). -/
def Flags.minus (a b : Flags) : Flags :=
  { policy := a.policy && !b.policy, integrity := a.integrity && !b.integrity, scan := a.scan && !b.scan,
    config := a.config && !b.config, dirty := a.dirty && !b.dirty, log := a.log && !b.log }

/-- Whether two sets share a flag (R165). -/
def Flags.meets (a b : Flags) : Bool :=
  (a.policy && b.policy) || (a.integrity && b.integrity) || (a.scan && b.scan) || (a.config && b.config) ||
  (a.dirty && b.dirty) || (a.log && b.log)

/-- The kinds whose events are coalesced: the POLICY class (R154). -/
def EventKind.coalesced (k : EventKind) : Bool := k.flag.policy

/-- Whether an event is merged into a record, that record being the newest of the log (R157). -/
def mergesInto (e : Event) (r : Record) : Bool :=
  e.kind.coalesced && r.event.kind == e.kind && r.event.region == e.region && r.event.hostId == e.hostId &&
  decide (r.repeats.toNat < 255)

/-- Storing an event in a log with room (R158). -/
def EventUnit.store (u : EventUnit) (e : Event) : EventUnit :=
  { u with
    log := u.log ++ [{ seq := u.nextSeq, event := e, repeats := 1, droppedBefore := u.dropped }]
    nextSeq := u.nextSeq + 1
    dropped := 0 }

/-- Dropping an event that meets a full log (R160). -/
def EventUnit.drop (u : EventUnit) : EventUnit :=
  { u with dropped := satInc u.dropped, flags := u.flags.union Flags.logOnly }

/-- The log with its newest record's repeat one higher (R157). -/
def mergeNewest (log : List Record) (r : Record) : List Record := log.dropLast ++ [{ r with repeats := r.repeats + 1 }]

/-- Merging, storing or dropping an event whose flag has been set (R157, R158, R160). -/
def EventUnit.record (u : EventUnit) (e : Event) : EventUnit :=
  match u.log.getLast? with
  | some r =>
    if mergesInto e r then { u with log := mergeNewest u.log r }
    else if u.log.length < Config.logRecords then u.store e
    else u.drop
  | none => u.store e

/-- The Event Unit takes an event: its class's flag is set, then it is merged, stored or dropped (R156). -/
def EventUnit.take (u : EventUnit) (e : Event) : EventUnit :=
  { u with flags := u.flags.union e.kind.flag }.record e

/-- An event of the monitor reaches the Event Unit. -/
def raise (s : State) (e : Event) : State := { s with events := s.events.take e }

/-- Whether ALERT_N is driven low (R165): an enabled flag is set, and POR_N is not asserted. -/
def alertLow (s : State) : Bool := !s.pins.por && s.events.flags.meets s.events.mask

/-- Whether MRST_N is asserted: while PRST_N or POR_N is (section 5, R59). -/
def mrstAsserted (s : State) : Bool := s.pins.prst || s.pins.por

end Sys2Proof.Machine
end

