-- ==== Sys2Proof/Machine/Ops.lean ====
section
/-! DEFINITION. The operations several commands share: timers, the byte map of the active copy, transactions and streams,
the idle-gap count, local answers, and taking a supervisor's command. -/

namespace Sys2Proof.Machine

/-! ## Timers (R175) -/

/-- A timer started for a limit in microseconds, under the settings in force (R175). -/
def startMicros (t : Timing) (micros : BitVec 16) : Timer :=
  { limit := micros.toNat * t.clockMhz.toNat, elapsed := 0, mhz := t.clockMhz.toNat }

/-- A timer started for an interval in milliseconds, under the settings in force (R175). -/
def startMillis (t : Timing) (millis : BitVec 16) : Timer :=
  { limit := millis.toNat * 1000 * t.clockMhz.toNat, elapsed := 0, mhz := t.clockMhz.toNat }

/-- The whole microseconds gone by since a timer was started (R40). -/
def Timer.micros (t : Timer) : Nat := t.elapsed / t.mhz

/-! ## The byte map (R5, R20 to R22) -/

/-- The byte address of an entry's first byte (R5). -/
def Entry.lo (e : Entry) : Nat := e.base.toNat * 256

/-- The byte address after an entry's last byte (R5). -/
def Entry.hi (e : Entry) : Nat := (e.base.toNat + e.size.toNat) * 256

/-- The range of an entry. -/
def Entry.range (e : Entry) : ByteRange := { lo := e.lo, hi := e.hi }

/-- Whether an enabled entry's range holds an address (R20). -/
def Entry.covers (e : Entry) (a : Nat) : Bool := e.enabled && decide (e.lo ≤ a) && decide (a < e.hi)

/-- The region of a table that covers a byte address, none when the address is unmapped (R20). -/
def regionAt (table : Tab Entry) (a : Nat) : Option Ix := allIx.find? fun i => (table.get i).covers a

/-- A run of bytes of a burst with one mapping (R21): first and last byte address, and the region. -/
structure Piece where
  first : Nat
  last : Nat
  region : Option Ix
  deriving DecidableEq, Repr

/-- The pieces of the bytes from `first` to `last` (R21). The bytes meet at most one boundary between granules. -/
def piecesOf (table : Tab Entry) (first last : Nat) : List Piece :=
  if first / 256 = last / 256 ∨ regionAt table first = regionAt table last then
    [{ first := first, last := last, region := regionAt table first }]
  else
    [{ first := first, last := last / 256 * 256 - 1, region := regionAt table first },
      { first := last / 256 * 256, last := last, region := regionAt table last }]

/-- Whether two entries overlap (R22), as entries at different indices of one table. -/
def overlaps (a b : Entry) : Bool :=
  a.enabled && b.enabled && decide (a.base.toNat < b.base.toNat + b.size.toNat) &&
  decide (b.base.toNat < a.base.toNat + a.size.toNat)

/-- Whether the entry at an index overlaps another entry of the table (R22). -/
def overlapsAnother (table : Tab Entry) (i : Ix) : Bool :=
  allIx.any fun j => decide (j ≠ i) && overlaps (table.get i) (table.get j)

/-- The lowest index that belongs to an overlapping pair of a table (R25). -/
def lowestOverlap (table : Tab Entry) : Option Ix := allIx.find? (overlapsAnother table)

/-- Whether an entry is an enabled CHECKED entry. -/
def Entry.isChecked (e : Entry) : Bool :=
  e.enabled && match e.part with
    | .checked _ => true
    | .guard | .watch _ | .track _ => false

/-- Whether an entry is an enabled TRACK entry. -/
def Entry.isTrack (e : Entry) : Bool :=
  e.enabled && match e.part with
    | .track _ => true
    | .guard | .checked _ | .watch _ => false

/-! ## Bursts (R21, R28, R48, R66) -/

/-- The address of a burst's first byte. -/
def burstFirst (r : Request) : Nat := r.addr.toNat

/-- The address of a burst's last byte: the address plus eight times beats, minus one (R21). -/
def burstLast (r : Request) : Nat := r.addr.toNat + 8 * r.beats - 1

/-- Whether a request's address is a multiple of 8 (R48). -/
def requestAligned (r : Request) : Bool := r.addr.toNat % 8 = 0

/-- Whether a request is well formed (R48): aligned, and its burst within one 4 KiB block. -/
def requestWellFormed (r : Request) : Bool := requestAligned r && decide (burstFirst r / 4096 = burstLast r / 4096)

/-- Whether the bytes from `first` to `last` meet a range. -/
def ByteRange.meets (g : ByteRange) (first last : Nat) : Bool := decide (g.lo ≤ last) && decide (first < g.hi)

/-- Whether a burst intersects one of a drain's ranges (R28, R31). -/
def Drain.meetsBurst (d : Drain) (r : Request) : Bool :=
  d.ranges.any fun g => g.meets (burstFirst r) (burstLast r)

/-- Whether the 32 bytes of a chunk intersect one of a drain's ranges (R30, R31). -/
def Drain.meetsChunk (d : Drain) (a : Nat) : Bool := d.ranges.any fun g => g.meets a (a + 31)

/-- The strobe of the byte at an offset in a write's burst (R67). -/
def strobeAt (strobes : List (BitVec 8)) (o : Nat) : Bool := (strobes.getD (o / 8) 0).getLsbD (o % 8)

/-- Whether a write has a strobed byte from address `lo` up to, and not including, `hi`. -/
def strobedWithin (r : Request) (strobes : List (BitVec 8)) (lo hi : Nat) : Bool :=
  (List.range (8 * r.beats)).any fun o =>
    strobeAt strobes o && decide (lo ≤ burstFirst r + o) && decide (burstFirst r + o < hi)

/-! ## Transactions (R44 to R46, R50) -/

/-- Whether two transactions belong to one stream: one direction and one id. -/
def sameStream (a b : Txn) : Bool := a.req.dir == b.req.dir && a.req.id == b.req.id

/-- Whether a transaction is held. -/
def Txn.isHeld (x : Txn) : Bool :=
  match x.phase with
  | .held _ => true
  | .collecting | .judging | .waitingForward | .forwarded | .localAnswer _ _ | .returning _ _ => false

/-- Whether a transaction is in LOCAL_ANSWER. -/
def Txn.isLocal (x : Txn) : Bool :=
  match x.phase with
  | .localAnswer _ _ => true
  | .collecting | .judging | .held _ | .waitingForward | .forwarded | .returning _ _ => false

/-- Whether a transaction's verdict is FORWARD and its memory response not fully returned (R31). -/
def Txn.isForward (x : Txn) : Bool := x.phase == .waitingForward || x.phase == .forwarded

/-- Whether a write is in flight (R66). -/
def Txn.inFlight (x : Txn) : Bool := x.req.dir == .write && x.isForward

/-- Whether a write is into an entry's range (R66). -/
def Txn.isInto (x : Txn) (e : Entry) : Bool := strobedWithin x.req x.strobes e.lo e.hi

/-- The entry in use with a tag. -/
def findTxn (txns : List Txn) (tag : Nat) : Option Txn := txns.find? fun x => x.tag == tag

/-- The entries with one of them replaced, by its tag. -/
def putTxn (txns : List Txn) (x : Txn) : List Txn := txns.map fun y => if y.tag = x.tag then x else y

/-- The entries with one of them freed, by its tag. -/
def freeTxn (txns : List Txn) (tag : Nat) : List Txn := txns.filter fun y => y.tag != tag

/-- The oldest entry in use of a stream (R50). -/
def oldestOf (txns : List Txn) (dir : Dir) (id : HostId) : Option Txn :=
  txns.find? fun y => y.req.dir == dir && y.req.id == id

/-- Whether a transaction is next in its stream (R50). -/
def nextInStream (txns : List Txn) (x : Txn) : Bool :=
  (oldestOf txns x.req.dir x.req.id).map Txn.tag == some x.tag

/-- The position of a transaction among the entries in use of its stream (R44). -/
def orderInStream (txns : List Txn) (x : Txn) : Nat :=
  ((txns.takeWhile fun y => y.tag != x.tag).filter (sameStream x)).length + 1

/-- The number of writes that hold a Write Buffer slot (R45, R61). -/
def slotsUsed (txns : List Txn) : Nat := txns.countP fun x => x.slot.isSome

/-- The number of host transactions outstanding on the memory port (R54). -/
def outstanding (txns : List Txn) : Nat := txns.countP fun x => x.phase == .forwarded

/-- Replacing a transaction in the Transaction Table. -/
def setTxn (s : State) (x : Txn) : State :=
  { s with tracker := { s.tracker with txns := putTxn s.tracker.txns x } }

/-- The tags of local answers that are next in their streams and not yet recorded as eligible (R51). -/
def freshlyEligible (t : Tracker) : List Nat :=
  (t.txns.filter fun x => x.isLocal && nextInStream t.txns x && !t.eligible.flatten.contains x.tag).map Txn.tag

/-- Recording the local answers that one step has made eligible, as one group (R51). -/
def noteEligible (s : State) : State :=
  match freshlyEligible s.tracker with
  | [] => s
  | tags => { s with tracker := { s.tracker with eligible := s.tracker.eligible ++ [tags] } }

/-! ## The host response channel (R52, R53) -/

/-- The direction of an item on the memory response channel. -/
def itemDir : MemItem → Dir
  | .readBeat _ _ _ => .read
  | .writeDone _ _ => .write

/-- The status of an item on the memory response channel. -/
def itemStatus : MemItem → RespStatus
  | .readBeat _ _ st => st
  | .writeDone _ st => st

/-- The host id of an item, none when its id is above 15. -/
def itemHostId (item : MemItem) : Option HostId :=
  if item.id.toNat < 16 then some (item.id.setWidth 4) else none

/-- The oldest FORWARDED entry of a stream (R52). -/
def forwardedOf (txns : List Txn) (dir : Dir) (id : HostId) : Option Txn :=
  txns.find? fun y => y.req.dir == dir && y.req.id == id && y.phase == .forwarded

/-- The entry that an item with a host id belongs to (R52, R58); none while PRST_N is asserted (R59). -/
def itemOwner (s : State) (item : MemItem) : Option Txn :=
  if s.pins.prst then none
  else (itemHostId item).bind fun id => forwardedOf s.tracker.txns (itemDir item) id

/-- The memory's candidate for the host response channel (R53): the transaction of the item at the head of the memory response
channel, if it is next in its stream. A completion whose write still has beats to send is a candidate too (DEDUCED, log entry 22). -/
def memoryCandidate (s : State) : Option Txn :=
  match s.fwd.head.bind (itemOwner s) with
  | some x => if nextInStream s.tracker.txns x then some x else none
  | none => none

/-- The host response channel belongs to a memory response (R53). -/
def holdChannel (s : State) (tag : Nat) : State :=
  { s with tracker := { s.tracker with hostChan := some tag, lastSource := .memory } }

/-- The host response channel is given to the oldest eligible local answer, whose sending LOCAL_ANSWER_SEND begins (R53). -/
def giveLocal (s : State) : State := { s with tracker := { s.tracker with localTurn := true } }

/-- The free host response channel is given to the one candidate there is, and of two to the source that did not have it for the
last response (R53). -/
def giveChannel (s : State) : State :=
  if s.tracker.hostChan.isSome || s.tracker.localTurn then s
  else
    match memoryCandidate s, s.tracker.eligible with
    | none, [] => s
    | some x, [] => holdChannel s x.tag
    | none, _ :: _ => giveLocal s
    | some x, _ :: _ => if s.tracker.lastSource = .localAnswer then holdChannel s x.tag else giveLocal s

/-- What follows a verdict that is answered locally and the freeing of an entry: local answers become eligible (R51), and the
channel, if free, is given (R53). -/
def takeTurns (s : State) : State := giveChannel (noteEligible s)

/-! ## Events with a region, a host id and an address -/

/-- The first byte of a number of bytes as an address. -/
def addrOf (a : Nat) : Addr := BitVec.ofNat 32 a

/-- Whether PRST_N or POR_N is asserted, so that the ports carry nothing (R59). -/
def portsHeld (s : State) : Bool := s.pins.prst || s.pins.por

/-! ## Taking a supervisor's command (R171) -/

/-- The state a command leaves: its owner carries it out, its response becomes the pending response, the receiver is idle
again (R168), and MISO carried 0xFF in every byte of the frame: one code byte, the arguments and one CRC byte. -/
def commanded (args : Nat) (s : State) (owner : State → State × Response) : State :=
  let done := owner s
  { done.1 with
    mgmt := { done.1.mgmt with
      receiver := .idle
      response := some done.2
      miso := List.replicate (args + 2) 0xFF } }

/-- The port takes the frame of a command: nothing while POR_N is asserted (R167). -/
def takeCommand (args : Nat) (s : State) (owner : State → State × Response) : Host.Outcome State Fault Refusal :=
  if s.pins.por then .next s else .next (commanded args s owner)

end Sys2Proof.Machine
end

