-- ==== Sys2Proof/Machine/DirtyCommands.lean ====
section
/-! DEFINITION. The commands of the Dirty Tracker: TAKE_DIRTY, CLEAR_DIRTY, DIRTY_STATUS and SET_DIRTY_THRESHOLD (R99 to
R102). -/

namespace Sys2Proof.Machine

/-- A Dirty List entry in TAKE_DIRTY's result: region 1, block 3. -/
def DirtyEntry.bytes (e : DirtyEntry) : List Byte := BitVec.ofNat 8 e.region.val :: leBytes 3 e.block

/-- TAKE_DIRTY (R99): the smaller of the count and the length leaves the head of the list. -/
def doTakeDirty (count : Byte) (s : State) : State × Response :=
  if count.toNat < 1 || 8 < count.toNat then (s, refusedResponse .range 36 [])
  else
    let taken := s.dirty.list.take count.toNat
    let left := s.dirty.list.drop count.toNat
    ({ s with dirty := { s.dirty with list := left } },
      okResponse ([BitVec.ofNat 8 taken.length] ++ padTo 32 (taken.flatMap DirtyEntry.bytes) ++
        [BitVec.ofNat 8 left.length] ++ maskBytes s.dirty.overflow))

/-- TAKE_DIRTY. -/
def execTakeDirty (count : Byte) (s : State) : Host.Outcome State Fault Refusal := takeCommand 1 s (doTakeDirty count)

/-- CLEAR_DIRTY (R100): the region's entries leave the list and its overflow flag is cleared. -/
def doClearDirty (index : Byte) (s : State) : State × Response :=
  match indexOf index with
  | none => (s, refusedResponse .range 2 [])
  | some i =>
    let left := s.dirty.list.filter fun e => e.region != i
    ({ s with dirty := { s.dirty with list := left, overflow := s.dirty.overflow.set i false } },
      okResponse [BitVec.ofNat 8 (s.dirty.list.length - left.length), BitVec.ofNat 8 left.length])

/-- CLEAR_DIRTY. -/
def execClearDirty (index : Byte) (s : State) : Host.Outcome State Fault Refusal := takeCommand 1 s (doClearDirty index)

/-- DIRTY_STATUS's result (R101). -/
def dirtyStatusResult (s : State) : List Byte :=
  [BitVec.ofNat 8 s.dirty.list.length, BitVec.ofNat 8 s.dirty.threshold] ++ maskBytes s.dirty.overflow ++
  [BitVec.ofNat 8 s.dirty.inFlight]

/-- DIRTY_STATUS. -/
def execDirtyStatus (s : State) : Host.Outcome State Fault Refusal :=
  takeCommand 0 s fun t => (t, okResponse (dirtyStatusResult t))

/-- SET_DIRTY_THRESHOLD (R102). -/
def doSetDirtyThreshold (threshold : Byte) (s : State) : State × Response :=
  if threshold.toNat < 1 || 64 < threshold.toNat then (s, refusedResponse .range 2 [])
  else
    ({ s with dirty := { s.dirty with threshold := threshold.toNat } },
      okResponse [threshold, BitVec.ofNat 8 s.dirty.list.length])

/-- SET_DIRTY_THRESHOLD. -/
def execSetDirtyThreshold (threshold : Byte) (s : State) : Host.Outcome State Fault Refusal :=
  takeCommand 1 s (doSetDirtyThreshold threshold)

end Sys2Proof.Machine
end

