-- ==== Sys2Proof/Machine/SoftClear.lean ====
section
/-! DEFINITION. SOFT_CLEAR, with its effects on every block (R105, R123, R149, R166, R176). -/

namespace Sys2Proof.Machine

/-- A region's life state after SOFT_CLEAR: SIGNING becomes BLANK (R123). -/
def softClearLife : Option Life → Option Life
  | some (.signing _) => some .blank
  | l => l

/-- The engine state after SOFT_CLEAR (R149): an outstanding read is discarded at its return, and the engine then goes OFF. -/
def softClearEngine : EngineState → EngineState
  | .reading r => .reading { r with disposition := .discard, offPending := true }
  | .off | .idle | .waitingGap | .halted => .off

/-- The Scan Engine after SOFT_CLEAR (R149). -/
def softClearScan (e : ScanEngine) : ScanEngine :=
  { engine := softClearEngine e.engine, context := none, roundMode := false, queue := ScanQueue.empty, streak := 0,
    starvation := none, forced := false, roundTimer := none, roundCount := 0, forcedCount := 0,
    ties := e.ties }

/-- The effects of an accepted SOFT_CLEAR as one step (R176). -/
def softClearState (s : State) : State :=
  { s with
    tracker := { s.tracker with malformed := 0 }
    fwd := { s.fwd with memErrors := 0 }
    policy := Policy.reset
    dirty := { s.dirty with list := [], overflow := noIx }
    sig := { life := Tab.ofFn fun i => softClearLife (s.sig.life.get i), lastResult := Tab.const .none,
             verifyCount := Tab.const 0 }
    scan := softClearScan s.scan
    events := { s.events with log := [], nextSeq := 0, dropped := 0, flags := Flags.none } }

/-- SOFT_CLEAR (R176): refused with BUSY while a commit drains. -/
def doSoftClear (s : State) : State × Response :=
  if s.commit.draining.isSome then (s, refusedResponse .busy 0 []) else (softClearState s, okResponse [])

/-- SOFT_CLEAR. -/
def execSoftClear (s : State) : Host.Outcome State Fault Refusal := takeCommand 0 s doSoftClear

end Sys2Proof.Machine
end

