-- ==== Sys2Proof/Machine/Verdict.lean ====
section
/-! DEFINITION. The verdict of a transaction: malformed requests and the read verdict (chapter 3), the Window Comparator
(chapter 5), the write verdict with its counters and events (chapter 4), the Dirty List's additions (chapter 6), and
holding during a drain (chapter 2). -/

namespace Sys2Proof.Machine

/-! ## The Window Comparator (R81 to R86) -/

/-- Why an element violates (R85). -/
inductive Reason where
  | below
  | above
  | someStrobes
  deriving DecidableEq, Repr

/-- The first violating element of a piece (R86). -/
structure Finding where
  addr : Nat
  value : Nat
  width : Width
  reason : Reason
  pattern : List Bool
  deriving DecidableEq, Repr

/-- The data byte at an offset in a write's burst. -/
def dataAt (beats : List WriteBeat) (o : Nat) : Nat :=
  (((beats.map WriteBeat.data).getD (o / 8) 0).extractLsb' (8 * (o % 8)) 8).toNat

/-- The strobes of a write's beats. -/
def strobesOf (beats : List WriteBeat) : List (BitVec 8) := beats.map WriteBeat.strobes

/-- The strobes of an element's bytes in ascending address order (R83). -/
def elementStrobes (w : Width) (beats : List WriteBeat) (o : Nat) : List Bool :=
  (List.range w.bytes).map fun k => strobeAt (strobesOf beats) (o + k)

/-- The value of an element, little-endian, with every unstrobed byte taken as zero (R84, R86). -/
def elementValue (w : Width) (beats : List WriteBeat) (o : Nat) : Nat :=
  ((List.range w.bytes).map fun k =>
    if strobeAt (strobesOf beats) (o + k) then dataAt beats (o + k) * 256 ^ k else 0).sum

/-- Whether and why an element violates (R85): a full element outside the window, or a partial one under VIOLATE. -/
def elementReason (w : WatchPart) (strobes : List Bool) (value : Nat) : Option Reason :=
  if strobes.all id then
    if value < w.low.toNat then some .below else if w.high.toNat < value then some .above else none
  else if strobes.any id && w.policy == .violate then some .someStrobes
  else none

/-- The finding at an element of a write, none when it does not violate. -/
def elementFinding (w : WatchPart) (r : Request) (beats : List WriteBeat) (a : Nat) : Option Finding :=
  let o := a - burstFirst r
  let strobes := elementStrobes w.width beats o
  let value := elementValue w.width beats o
  (elementReason w strobes value).map fun why =>
    { addr := a, value := value, width := w.width, reason := why, pattern := strobes }

/-- The first violating element of a WATCH piece, in ascending address order (R82, R86). -/
def firstViolation (w : WatchPart) (r : Request) (beats : List WriteBeat) (p : Piece) : Option Finding :=
  (List.range ((p.last + 1 - p.first) / w.width.bytes)).findSome? fun k =>
    elementFinding w r beats (p.first + w.width.bytes * k)

/-! ## Causes of refusal (R69) -/

/-- The cause of a region's refusal (R71). -/
inductive Cause where
  | guard
  | checked
  | window
  deriving DecidableEq, Repr

/-- Cause codes of section 10.6. -/
def Cause.code : Cause → Byte
  | .guard => 1
  | .checked => 2
  | .window => 3

/-- Reason codes of section 10.6. -/
def Reason.code : Reason → Nat
  | .below => 1
  | .above => 2
  | .someStrobes => 3

/-- What the Window Comparator finds in a piece: the WATCH region and its first violating element (R68). -/
def pieceFinding (s : State) (r : Request) (beats : List WriteBeat) (p : Piece) : Option (Ix × WatchPart × Finding) :=
  match p.region with
  | none => none
  | some i =>
    match (s.table.active.get i).part with
    | .watch w => (firstViolation w r beats p).map fun f => (i, w, f)
    | .guard | .checked _ | .track _ => none

/-- Whether the region of a piece is a cause of the write's refusal (R69). -/
def pieceCause (s : State) (r : Request) (beats : List WriteBeat) (p : Piece) : Option (Ix × Cause) :=
  match p.region with
  | none => none
  | some i =>
    let strobed := strobedWithin r (strobesOf beats) p.first (p.last + 1)
    match (s.table.active.get i).part with
    | .guard => if strobed then some (i, .guard) else none
    | .checked _ => if strobed && s.sig.life.get i != some .opened then some (i, .checked) else none
    | .watch w =>
      if w.action == .refuse && (firstViolation w r beats p).isSome then some (i, .window) else none
    | .track _ => none

/-- At most two causes with the lower index first (R71). -/
def byIndex : List (Ix × Cause) → List (Ix × Cause)
  | [a, b] => if a.1 ≤ b.1 then [a, b] else [b, a]
  | cs => cs

/-- The pieces of a request's burst in the active copy (R21). -/
def requestPieces (s : State) (r : Request) : List Piece := piecesOf s.table.active (burstFirst r) (burstLast r)

/-- The cause set of a write, the lowest index first (R69, R71). -/
def causeSet (s : State) (r : Request) (beats : List WriteBeat) : List (Ix × Cause) :=
  byIndex ((requestPieces s r).filterMap (pieceCause s r beats))

/-- The findings of a write's WATCH pieces in ascending address order (R68). -/
def findings (s : State) (r : Request) (beats : List WriteBeat) : List (Ix × WatchPart × Finding) :=
  (requestPieces s r).filterMap (pieceFinding s r beats)

/-- The answer status of a refused write (R73): OK only when every cause is SILENT. -/
def answerStatus (s : State) (causes : List (Ix × Cause)) : RespStatus :=
  if causes.all fun c => (s.table.active.get c.1).refusal == .silent then .ok else .err

/-! ## Counters (R74, R92) -/

/-- A region's refusal count goes up by one (R74). -/
def countRefusal (s : State) (i : Ix) : State :=
  { s with policy := { s.policy with refusals := s.policy.refusals.set i (satInc (s.policy.refusals.get i)) } }

/-- A region's window count goes up by one (R92). -/
def countWindow (s : State) (i : Ix) : State :=
  { s with policy := { s.policy with windows := s.policy.windows.set i (satInc (s.policy.windows.get i)) } }

/-! ## Events of the verdict -/

/-- A MALFORMED event (R48). -/
def malformedEvent (r : Request) : Event :=
  { kind := .malformed, region := none, hostId := some r.id, addr := some r.addr
    detail := some (detailOf
      [if r.dir = .read then 0 else 1, BitVec.ofNat 8 r.beats, if requestAligned r then 2 else 1]) }

/-- A READ_REFUSED event (R49). -/
def readRefusedEvent (i : Ix) (r : Request) : Event :=
  { kind := .readRefused, region := some i, hostId := some r.id, addr := some r.addr
    detail := some (detailOf [BitVec.ofNat 8 r.beats]) }

/-- The bytes 4 and 5 of a WRITE_REFUSED's detail: the second member of the cause set and its cause (R75). -/
def secondCause : List (Ix × Cause) → List Byte
  | [_, b] => [BitVec.ofNat 8 b.1.val, b.2.code]
  | _ => [0, 0]

/-- A WRITE_REFUSED event (R75). -/
def writeRefusedEvent (s : State) (r : Request) (causes : List (Ix × Cause)) (i : Ix) (c : Cause) : Event :=
  { kind := .writeRefused, region := some i, hostId := some r.id, addr := some r.addr
    detail := some (detailOf
      ([BitVec.ofNat 8 r.beats, answerCode (answerStatus s causes), c.code,
        if c = .checked then lifeCode (s.sig.life.get i) else 0] ++ secondCause causes)) }

/-- The first six detail bytes of a window event: value, width, reason and strobe pattern (R89). Bits 2 and 3 of byte 5, which
section 10.6 lists no meaning for, are zero (DESIGN CHOICE, log entry 23). -/
def findingBytes (f : Finding) : List Byte :=
  leBytes 4 f.value ++
  [BitVec.ofNat 8 (8 * f.width.bytes),
    BitVec.ofNat 8 (f.reason.code + 16 * (bitByte f.pattern).toNat)]

/-- A WINDOW_REPORT event (R89). -/
def windowReportEvent (r : Request) (i : Ix) (f : Finding) : Event :=
  { kind := .windowReport, region := some i, hostId := some r.id, addr := some (addrOf f.addr)
    detail := some (detailOf (findingBytes f)) }

/-- Byte 7 of a WINDOW_REFUSED's detail: the second member of the cause set (R90). Bits 4 to 6, which section 10.6 lists no
meaning for, are zero (DESIGN CHOICE, log entry 23). -/
def secondWindow : List (Ix × Cause) → Byte
  | [_, b] => BitVec.ofNat 8 (128 + b.1.val)
  | _ => 0

/-- A WINDOW_REFUSED event (R90). -/
def windowRefusedEvent (s : State) (r : Request) (causes : List (Ix × Cause)) (i : Ix) (f : Finding) : Event :=
  { kind := .windowRefused, region := some i, hostId := some r.id, addr := some (addrOf f.addr)
    detail := some (detailOf (findingBytes f ++ [answerCode (answerStatus s causes), secondWindow causes])) }

/-- The one refusal event of a refused write (R75, R90, R91): WINDOW_REFUSED when every cause is a WINDOW cause, and
WRITE_REFUSED otherwise, for the lowest index of the cause set. -/
def refusalEvent (s : State) (r : Request) (beats : List WriteBeat) (causes : List (Ix × Cause)) (i : Ix) (c : Cause) :
    Event :=
  if causes.all fun d => d.2 == .window then
    match (findings s r beats).find? fun f => f.1 == i with
    | some f => windowRefusedEvent s r causes i f.2.2
    | none => writeRefusedEvent s r causes i c
  else writeRefusedEvent s r causes i c

/-! ## Dirty blocks (R94 to R98) -/

/-- The block number of a byte address in a TRACK entry's range (R94). -/
def blockOf (e : Entry) (g : Granule) (a : Nat) : Nat := (a - e.lo) / g.bytes

/-- The address of a block's first byte (R94). -/
def blockFirst (e : Entry) (g : Granule) (block : Nat) : Nat := e.lo + block * g.bytes

/-- The dirty blocks of a TRACK piece, lowest first (R95): of the blocks its first and last bytes lie in, those with a
strobed byte of the piece. -/
def dirtyBlocks (e : Entry) (g : Granule) (r : Request) (beats : List WriteBeat) (p : Piece) : List Nat :=
  let b0 := blockOf e g p.first
  let b1 := blockOf e g p.last
  (if b0 = b1 then [b0] else [b0, b1]).filter fun b =>
    strobedWithin r (strobesOf beats) (max p.first (blockFirst e g b)) (min (p.last + 1) (blockFirst e g (b + 1)))

/-- A DIRTY_THRESHOLD event (R98). -/
def dirtyThresholdEvent (host : HostId) (i : Ix) (e : Entry) (g : Granule) (block threshold : Nat) : Event :=
  { kind := .dirtyThreshold, region := some i, hostId := some host, addr := some (addrOf (blockFirst e g block))
    detail := some (detailOf (leBytes 3 block ++ [BitVec.ofNat 8 threshold])) }

/-- A DIRTY_OVERFLOW event (R97). -/
def dirtyOverflowEvent (host : HostId) (i : Ix) (e : Entry) (g : Granule) (block : Nat) : Event :=
  { kind := .dirtyOverflow, region := some i, hostId := some host, addr := some (addrOf (blockFirst e g block))
    detail := some (detailOf (leBytes 3 block)) }

/-- Adding one dirty block (R96): it merges with its entry, or is appended with the threshold test of R98, or is lost with
the overflow flag of R97. -/
def addBlock (s : State) (host : HostId) (i : Ix) (e : Entry) (g : Granule) (block : Nat) : State :=
  if s.dirty.list.contains { region := i, block := block } then s
  else if s.dirty.list.length < Config.dirtyEntries then
    let t := { s with dirty := { s.dirty with list := s.dirty.list ++ [{ region := i, block := block }] } }
    if t.dirty.list.length = t.dirty.threshold then raise t (dirtyThresholdEvent host i e g block t.dirty.threshold) else t
  else if s.dirty.overflow.get i then s
  else raise { s with dirty := { s.dirty with overflow := s.dirty.overflow.set i true } }
    (dirtyOverflowEvent host i e g block)

/-- The dirty blocks of a write with the regions they belong to: the pieces in ascending address order, and within a piece
the lower block first (R95). -/
def trackedBlocks (s : State) (r : Request) (beats : List WriteBeat) : List (Ix × Entry × Granule × Nat) :=
  (requestPieces s r).flatMap fun p =>
    match p.region with
    | none => []
    | some i =>
      let e := s.table.active.get i
      match e.part with
      | .track g => (dirtyBlocks e g r beats p).map fun b => (i, e, g, b)
      | .guard | .checked _ | .watch _ => []

/-- A write with a dirty block counts in tracked writes in flight (R106). -/
def countTracked (s : State) (tracked : Bool) : State :=
  if tracked then { s with dirty := { s.dirty with inFlight := s.dirty.inFlight + 1 } } else s

/-! ## The verdicts (R47 to R49, R68 to R76) -/

/-- A transaction judged FORWARD enters WAITING_FORWARD at the tail of the forwarding queue (R54), and the idle-gap count
is zero (R55). -/
def enqueue (s : State) (tag : Nat) : State :=
  { s with fwd := { s.fwd with queue := s.fwd.queue ++ [tag], idleGap := none } }

/-- The verdict MALFORMED (R48): the slot of a write becomes FREE (R63). -/
def judgeMalformed (s : State) (x : Txn) : State × Txn :=
  (raise { s with tracker := { s.tracker with malformed := satInc s.tracker.malformed } } (malformedEvent x.req),
    { x with phase := .localAnswer .malformed .err, slot := none })

/-- The CHECKED regions of a read's pieces that are CORRUPT with fail closed yes (R49). -/
def failClosed (s : State) (p : Piece) : Option Ix :=
  match p.region with
  | none => none
  | some i =>
    match (s.table.active.get i).part, s.sig.life.get i with
    | .checked true, some (.corrupt _) => some i
    | _, _ => none

/-- The lowest of the indices given. -/
def lowestIx (is : List Ix) : Option Ix := allIx.find? fun i => is.contains i

/-- The verdict of a well-formed READ (R49). -/
def judgeRead (s : State) (x : Txn) : State × Txn :=
  match lowestIx ((requestPieces s x.req).filterMap (failClosed s)) with
  | some i => (raise (countRefusal s i) (readRefusedEvent i x.req), { x with phase := .localAnswer (.refuse i) .err })
  | none => (enqueue s x.tag, { x with phase := .waitingForward })

/-- The window counts of a write's violating WATCH regions (R68, R92). -/
def countWindows (s : State) (fs : List (Ix × WatchPart × Finding)) : State :=
  fs.foldl (fun t f => countWindow t f.1) s

/-- The WINDOW_REPORTs of a forwarded write, in ascending address order of its pieces (R76, R88). -/
def reportWindows (s : State) (r : Request) (fs : List (Ix × WatchPart × Finding)) : State :=
  fs.foldl (fun t f => if f.2.1.action == .report then raise t (windowReportEvent r f.1 f.2.2) else t) s

/-- A command that comes between the two dirty additions of a write is carried out whole and answered there (R103). -/
def takeBetween (s : State) (c : DirtyCommand) : State :=
  match c with
  | .takeDirty count => commanded 1 s (doTakeDirty count)
  | .clearDirty index => commanded 1 s (doClearDirty index)
  | .dirtyStatus => commanded 0 s fun t => (t, okResponse (dirtyStatusResult t))
  | .setDirtyThreshold threshold => commanded 1 s (doSetDirtyThreshold threshold)
  | .softClear => commanded 0 s doSoftClear

/-- One of a write's dirty blocks is added, with the region it belongs to (R96). -/
def addTracked (s : State) (host : HostId) (b : Ix × Entry × Granule × Nat) : State :=
  addBlock s host b.1 b.2.1 b.2.2.1 b.2.2.2

/-- The dirty blocks of a write are added one after the other (R95). The commands between come after the first of two; where a
write adds fewer than two blocks there is no such place, and none comes (log entry 13). No fetch comes there, and no command of the
Event Unit comes between the events of one addition or of two (R161, R162, DESIGN CHOICE, log entries 13 and 27). -/
def addTrackedBlocks (s : State) (host : HostId) (between : List DirtyCommand) :
    List (Ix × Entry × Granule × Nat) → State
  | [] => s
  | [b] => addTracked s host b
  | b :: c :: rest =>
    (c :: rest).foldl (fun t d => addTracked t host d) (between.foldl takeBetween (addTracked s host b))

/-- The hand-off of a forwarded write (R76): window reports, then the dirty blocks. -/
def handOff (s : State) (r : Request) (beats : List WriteBeat) (between : List DirtyCommand) : State :=
  addTrackedBlocks (reportWindows s r (findings s r beats)) r.id between (trackedBlocks s r beats)

/-- The verdict of a well-formed WRITE, from the beats in its slot (R68 to R76). A tracked write counts in flight from the
beginning of its hand-off, so that a DIRTY_STATUS between its additions counts it (R106, log entry 13). -/
def judgeWrite (s : State) (x : Txn) (beats : List WriteBeat) (between : List DirtyCommand) : State × Txn :=
  let counted := countWindows s (findings s x.req beats)
  match causeSet s x.req beats with
  | [] =>
    let tracked := !(trackedBlocks s x.req beats).isEmpty
    (enqueue (handOff (countTracked counted tracked) x.req beats between) x.tag,
      { x with phase := .waitingForward, strobes := strobesOf beats, tracked := tracked })
  | (i, c) :: rest =>
    let causes := (i, c) :: rest
    (raise (causes.foldl (fun t d => countRefusal t d.1) counted) (refusalEvent s x.req beats causes i c),
      { x with phase := .localAnswer (.refuse i) (answerStatus s causes), slot := none })

/-- The beats in a write's slot. -/
def Txn.beatsHeld (x : Txn) : List WriteBeat := (x.slot.map Slot.beats).getD []

/-- The verdict of a transaction that is not held: tested for form, then judged as a read or a write (R32, R47). -/
def judge (s : State) (x : Txn) (between : List DirtyCommand) : State × Txn :=
  if !requestWellFormed x.req then judgeMalformed s x
  else
    match x.req.dir with
    | .read => judgeRead s x
    | .write => judgeWrite s x x.beatsHeld between

/-- The verdict time of a transaction, given the entries of the table accepted before it (R47): held by stream, MALFORMED,
held by range, or judged. -/
def verdictTime (s : State) (earlier : List Txn) (x : Txn) (between : List DirtyCommand) : State × Txn :=
  match s.commit.draining with
  | none => judge s x between
  | some d =>
    if earlier.any fun y => sameStream y x && y.isHeld then (s, { x with phase := .held .stream })
    else if requestWellFormed x.req && d.meetsBurst x.req then (s, { x with phase := .held .range })
    else judge s x between

/-- The state after a verdict time: a verdict answered locally may become eligible and be given the channel (R51, R53). -/
def afterVerdict (s : State) (x : Txn) : State := if x.isLocal then takeTurns s else s

/-- The held ones of a list of transactions judged one at a time in list order (R32). The commands between a write's dirty
additions come only if the port is free to take them. Between the last addition of one released write and the first of the next no
command comes: R32 makes the releases one step, and R103 leaves the point open (DESIGN CHOICE, log entry 13). -/
def releaseEach (s : State) (portFree : Bool) : List Txn → State × List Txn
  | [] => (s, [])
  | x :: rest =>
    if x.isHeld then
      let judged := judge s { x with phase := .judging } (if portFree then x.between else [])
      let done := releaseEach judged.1 portFree rest
      (done.1, judged.2 :: done.2)
    else
      let done := releaseEach s portFree rest
      (done.1, x :: done.2)

/-- The release of the held transactions after a drain, in acceptance order over all streams (R32). -/
def releaseHeld (s : State) (portFree : Bool) : State :=
  let done := releaseEach s portFree s.tracker.txns
  takeTurns { done.1 with tracker := { done.1.tracker with txns := done.2 } }

end Sys2Proof.Machine
end

