-- ==== Sys2Proof/Machine/Engine.lean ====
section
/-! DEFINITION. The Scan Engine's shared operations (chapter 8) and the signature's CRC-32 (chapter 7): the queue, taking
and abandoning a job, the two timers, and a job's result. -/

namespace Sys2Proof.Machine

/-! ## The signature (R107) -/

/-- One bit time of the CRC-32 register (R107): shift right, and combine with the polynomial when the bit shifted out was 1. -/
def crc32Shift (r : BitVec 32) : BitVec 32 :=
  if r.getLsbD 0 then (r >>> 1) ^^^ Config.crc32Poly else r >>> 1

/-- One byte entering the CRC-32 register (R107). -/
def crc32Byte (r : BitVec 32) (b : Byte) : BitVec 32 :=
  crc32Shift (crc32Shift (crc32Shift (crc32Shift (crc32Shift (crc32Shift (crc32Shift (crc32Shift
    (r ^^^ b.setWidth 32))))))))

/-- Bytes folded into the CRC-32 register in order. -/
def crc32Fold (r : BitVec 32) (bytes : List Byte) : BitVec 32 := bytes.foldl crc32Byte r

/-- The register before any byte (R107, R134). -/
def crc32Init : BitVec 32 := 0xFFFFFFFF#32

/-- The signature a register holds: the final exclusive-or (R107, R137). -/
def crc32Final (r : BitVec 32) : BitVec 32 := r ^^^ 0xFFFFFFFF#32

/-- The signature of a byte sequence (R107). -/
def signature (bytes : List Byte) : BitVec 32 := crc32Final (crc32Fold crc32Init bytes)

/-- The eight bytes of a beat in ascending address order. -/
def beatBytes (data : BitVec 64) : List Byte := (List.range 8).map fun k => data.extractLsb' (8 * k) 8

/-! ## The Scan Queue (R129 to R131) -/

/-- The kind of a region's queued job. -/
def ScanQueue.jobOf (q : ScanQueue) (i : Ix) : Option JobKind :=
  if q.sign.contains i then some .sign
  else if q.demand.contains i then some .verifyDemand
  else if q.round.contains i then some .verifyRound
  else none

/-- The queue without a region's job; the others keep their classes and order (R131). -/
def ScanQueue.remove (q : ScanQueue) (i : Ix) : ScanQueue :=
  { sign := q.sign.filter (· != i), demand := q.demand.filter (· != i), round := q.round.filter (· != i) }

/-- The queue without the jobs of a set of regions (R38). -/
def ScanQueue.removeAll (q : ScanQueue) (gone : IxSet) : ScanQueue :=
  { sign := q.sign.filter fun i => !gone.get i, demand := q.demand.filter fun i => !gone.get i
    round := q.round.filter fun i => !gone.get i }

/-- The head of the queue and the queue without it (R129). -/
def ScanQueue.pop (q : ScanQueue) : Option (Ix × JobKind × ScanQueue) :=
  match q.sign, q.demand, q.round with
  | i :: rest, _, _ => some (i, .sign, { q with sign := rest })
  | [], i :: rest, _ => some (i, .verifyDemand, { q with demand := rest })
  | [], [], i :: rest => some (i, .verifyRound, { q with round := rest })
  | [], [], [] => none

/-- The queued jobs from the head (R151). -/
def ScanQueue.jobs (q : ScanQueue) : List (Ix × JobKind) :=
  q.sign.map (fun i => (i, .sign)) ++ q.demand.map (fun i => (i, .verifyDemand)) ++
  q.round.map (fun i => (i, .verifyRound))

/-! ## Setting one region's state -/

/-- A region's life state replaced. -/
def setLife (s : State) (i : Ix) (l : Option Life) : State :=
  { s with sig := { s.sig with life := s.sig.life.set i l } }

/-- A region's last job result replaced. -/
def setResult (s : State) (i : Ix) (r : JobResult) : State :=
  { s with sig := { s.sig with lastResult := s.sig.lastResult.set i r } }

/-! ## Chunks and the starvation timer (R30, R135, R138) -/

/-- The address of the next chunk of the active job: the region's first byte plus the cursor (R135). -/
def nextChunk (s : State) : Option Nat :=
  s.scan.context.map fun c => (s.table.active.get c.region).lo + c.cursor

/-- Whether the next chunk of the active job is withheld by a commit drain (R30). The next chunk is the one at the cursor in every
engine state: in READING, where the spec leaves open for SCAN_STATUS whether that chunk, then outstanding, or the one after it is
meant (R151), it is the outstanding one (DEDUCED from the cursor's definition in R134, log entry 25). -/
def withheld (s : State) : Bool :=
  match s.commit.draining, nextChunk s with
  | some d, some a => d.meetsChunk a
  | _, _ => false

/-- Starting the starvation timer, which stays stopped while the next chunk is withheld or PRST_N is asserted (R138). -/
def startStarvation (s : State) : State :=
  { s with scan := { s.scan with
      starvation := if withheld s || portsHeld s then none else some (startMicros s.mgmt.timing s.mgmt.timing.starvation) } }

/-- The engine enters WAITING_GAP (R138). -/
def enterWaiting (s : State) : State := startStarvation { s with scan := { s.scan with engine := .waitingGap } }

/-- The starvation timer and any claim of a drain's withheld chunk: at the start of a drain the timer stops and a forced
claim is withdrawn (R30, R57). -/
def withholdClaim (s : State) : State :=
  if s.scan.engine == .waitingGap && withheld s then
    { s with scan := { s.scan with starvation := none, forced := false } }
  else s

/-! ## Taking a job and the round timer (R132, R134) -/

/-- The Signature Unit is told that a job is active: a SIGN job's region goes to sub-phase ACTIVE (R110). -/
def tellActive (s : State) (i : Ix) (k : JobKind) : State :=
  match k, s.sig.life.get i with
  | .sign, some (.signing _) => setLife s i (some (.signing .active))
  | _, _ => s

/-- The context formed when a job is taken (R134). -/
def newContext (i : Ix) (k : JobKind) : JobContext :=
  { region := i, kind := k, cursor := 0, crc := crc32Init, chunksDone := 0#40 }

/-- An IDLE engine takes the head of the queue, if any (R134). -/
def takeHead (s : State) : State :=
  match s.scan.engine, s.scan.queue.pop with
  | .idle, some (i, k, q) =>
    enterWaiting (tellActive
      { s with scan := { s.scan with queue := q, context := some (newContext i k), streak := 0 } } i k)
  | _, _ => s

/-- Whether the three conditions of the round timer hold (R132). -/
def roundsDue (e : ScanEngine) : Bool := e.roundMode && e.engine == .idle && e.queue.round.isEmpty

/-- The round timer runs exactly while its conditions hold, and starts from the interval in force when they begin to (R132). -/
def refreshRound (s : State) : State :=
  { s with scan := { s.scan with
      roundTimer :=
        if roundsDue s.scan then
          some (s.scan.roundTimer.getD (startMillis s.mgmt.timing s.mgmt.timing.round))
        else none } }

/-- What follows any change to the engine or its queue: an IDLE engine takes the head (R134), and the round timer runs or
stops (R132). -/
def settle (s : State) : State := refreshRound (takeHead s)

/-! ## Rounds (R133) -/

/-- Whether a timer has run its length. -/
def Timer.due (t : Timer) : Bool := decide (t.limit ≤ t.elapsed)

/-- Whether a timer is running and has run its length. -/
def timerDue : Option Timer → Bool
  | some t => t.due
  | none => false

/-- Whether a region joins a round (R133): it is INTACT and has no queued job. -/
def joinsRound (s : State) (i : Ix) : Bool :=
  match s.sig.life.get i with
  | some (.intact _) => (s.scan.queue.jobOf i).isNone
  | some .blank | some .opened | some (.signing _) | some (.corrupt _) | none => false

/-- A round is enqueued and counted, or, with no region that joins, its timer starts again (R133). The engine has not yet taken the
head. -/
def enqueueRound (s : State) : State :=
  match allIx.filter (joinsRound s) with
  | [] => { s with scan := { s.scan with roundTimer := some (startMillis s.mgmt.timing s.mgmt.timing.round) } }
  | jobs =>
    { s with scan := { s.scan with
      queue := { s.scan.queue with round := s.scan.queue.round ++ jobs }
      roundCount := s.scan.roundCount + 1
      roundTimer := none } }

/-- A job is about to join the queue of an IDLE engine whose round timer has run its length: the expiry and the join fall together
(R133). If the expiry is first, the round is enqueued, and the engine takes its head after the job has joined; if the join is first, no
round is enqueued. Either may be first; a free value says which (log entry 26). -/
def meetRound (s : State) : State :=
  if s.scan.engine == .idle && timerDue s.scan.roundTimer then
    let t := { s with scan := { s.scan with ties := s.scan.ties + 1 } }
    if Config.roundFirst s.scan.ties then enqueueRound t else t
  else s

/-! ## Abandonment (R146) -/

/-- The engine drops its active job (R146). -/
def dropJob (e : ScanEngine) : ScanEngine :=
  match e.engine with
  | .off => { e with context := none, streak := 0 }
  | .idle => e
  | .waitingGap => { e with engine := .idle, context := none, streak := 0, starvation := none, forced := false }
  | .halted => { e with engine := .idle, context := none, streak := 0 }
  | .reading r => { e with engine := .reading { r with disposition := .discard }, context := none, streak := 0 }

/-- The kind of a region's active job. -/
def activeKind (s : State) (i : Ix) : Option JobKind :=
  match s.scan.context with
  | some c => if c.region = i then some c.kind else none
  | none => none

/-- The active job, if it belongs to a region, is abandoned, and the region's last job result is ABANDONED (R121, R146). -/
def abandon (s : State) (i : Ix) : State :=
  match activeKind s i with
  | some _ => setResult { s with scan := dropJob s.scan } i .abandoned
  | none => s

/-- A region's queued job is removed (R131). -/
def unqueue (s : State) (i : Ix) : State := { s with scan := { s.scan with queue := s.scan.queue.remove i } }

/-! ## The write drain (R113 to R116) -/

/-- The number of writes in flight into an entry's range (R66). -/
def writesInto (txns : List Txn) (e : Entry) : Nat := txns.countP fun x => x.inFlight && x.isInto e

/-- A region's SIGN job joins the SIGN class, and its sub-phase is QUEUED (R116, R130). -/
def queueSign (s : State) (i : Ix) : State :=
  let t := setLife s i (some (.signing .queued))
  { t with scan := { t.scan with queue := { t.scan.queue with sign := t.scan.queue.sign ++ [i] } } }

/-- A region's SIGN job is requested, and an IDLE engine takes the head (R116, R134). -/
def requestSign (s : State) (i : Ix) : State := settle (queueSign s i)

/-- A region enters SIGNING at CLOSE or RESIGN: the writes in flight into its range are counted, and with none the region
passes to QUEUED at once (R113, R114, R116). -/
def beginSigning (s : State) (i : Ix) : State :=
  let n := writesInto s.tracker.txns (s.table.active.get i)
  if n = 0 then queueSign s i else setLife s i (some (.signing (.drainingWrites n)))

/-- The start of a region's write drain, after which an IDLE engine takes the head of its queue (R113, R114, R134). -/
def startWriteDrain (s : State) (i : Ix) : State :=
  let n := writesInto s.tracker.txns (s.table.active.get i)
  if n = 0 then requestSign s i else setLife s i (some (.signing (.drainingWrites n)))

/-- Whether a region is in DRAINING_WRITES with writes awaited 0. -/
def drainedRegion (s : State) (i : Ix) : Bool := s.sig.life.get i == some (.signing (.drainingWrites 0))

/-- The regions whose writes awaited are 0 pass to QUEUED one by one in ascending index order (R115, R116); the first of their jobs
may fall together with the expiry of the round timer (R133). -/
def finishWriteDrains (s : State) : State :=
  match allIx.filter (drainedRegion s) with
  | [] => s
  | regions => regions.foldl requestSign (meetRound s)

/-- A write that stops being in flight lowers the writes awaited of each draining region it is into (R115). -/
def lowerAwaited (s : State) (x : Txn) : State :=
  { s with sig := { s.sig with
      life := Tab.ofFn fun i =>
        match s.sig.life.get i with
        | some (.signing (.drainingWrites n)) =>
          some (.signing (.drainingWrites (if x.isInto (s.table.active.get i) then n - 1 else n)))
        | l => l } }

/-! ## Results of jobs (R118 to R120) -/

/-- The address of a region's first byte. -/
def regionAddr (s : State) (i : Ix) : Addr := addrOf (s.table.active.get i).lo

/-- A SIGN_DONE event (R126). -/
def signDoneEvent (i : Ix) (at' : Addr) (sig : BitVec 32) : Event :=
  { kind := .signDone, region := some i, hostId := none, addr := some at', detail := some (detailOf (leBytes 4 sig.toNat)) }

/-- A MISMATCH event (R126). -/
def mismatchEvent (i : Ix) (at' : Addr) (expected computed : BitVec 32) : Event :=
  { kind := .mismatch, region := some i, hostId := none, addr := some at'
    detail := some (detailOf (leBytes 4 expected.toNat ++ leBytes 4 computed.toNat)) }

/-- A VERIFY_RESULT event (R126): result 0 PASS, 1 FAIL. -/
def verifyResultEvent (i : Ix) (at' : Addr) (computed : BitVec 32) (fail : Bool) (after : Life) : Event :=
  { kind := .verifyResult, region := some i, hostId := none, addr := some at'
    detail := some (detailOf (leBytes 4 computed.toNat ++ [yesNo fail, lifeCode (some after)])) }

/-- A SIGN_FAILED event with reason RECONFIGURED (R121, R126). -/
def signFailedEvent (i : Ix) (at' : Addr) : Event :=
  { kind := .signFailed, region := some i, hostId := none, addr := some at', detail := some (detailOf [1]) }

/-- A completed SIGN job (R119). -/
def applySign (s : State) (i : Ix) (computed : BitVec 32) : State :=
  match s.sig.life.get i with
  | some _ =>
    raise (setResult (setLife s i (some (.intact computed))) i .pass) (signDoneEvent i (regionAddr s i) computed)
  | none => s

/-- The verify count goes up by one, wrapping (R120). -/
def countVerify (s : State) (i : Ix) : State :=
  { s with sig := { s.sig with verifyCount := s.sig.verifyCount.set i (s.sig.verifyCount.get i + 1) } }

/-- The VERIFY_RESULT of a DEMAND job (R120). -/
def reportVerify (s : State) (i : Ix) (demand : Bool) (computed : BitVec 32) (fail : Bool) (after : Life) : State :=
  if demand then raise s (verifyResultEvent i (regionAddr s i) computed fail after) else s

/-- A completed VERIFY job (R120). -/
def applyVerify (s : State) (i : Ix) (demand : Bool) (computed : BitVec 32) : State :=
  match s.sig.life.get i with
  | some (.intact ref) =>
    if computed = ref then reportVerify (setResult (countVerify s i) i .pass) i demand computed false (.intact ref)
    else
      reportVerify
        (raise (setResult (setLife (countVerify s i) i (some (.corrupt ref))) i .mismatch)
          (mismatchEvent i (regionAddr s i) ref computed))
        i demand computed true (.corrupt ref)
  | some (.corrupt ref) =>
    if computed = ref then reportVerify (setResult (countVerify s i) i .pass) i demand computed false (.corrupt ref)
    else reportVerify (setResult (countVerify s i) i .mismatch) i demand computed true (.corrupt ref)
  | some .blank | some .opened | some (.signing _) | none => s

/-- The Signature Unit applies the result of a completed job (R118). -/
def applyResult (s : State) (c : JobContext) : State :=
  let computed := crc32Final c.crc
  match c.kind with
  | .sign => applySign s c.region computed
  | .verifyRound => applyVerify s c.region false computed
  | .verifyDemand => applyVerify s c.region true computed

end Sys2Proof.Machine
end

