-- ==== Sys2Proof/Machine/Switch.lean ====
section
/-! DEFINITION. Switching entries into the active copy (section 2.8), the drain of a commit and its four ends (sections 2.3
to 2.6). -/

namespace Sys2Proof.Machine

/-! ## Switching (R37 to R39) -/

/-- Whether replacing an entry changes one of enabled, kind, base and size (R37). -/
def identityChange (old new : Entry) : Bool :=
  old.enabled != new.enabled || old.part.kindCode != new.part.kindCode || old.base != new.base || old.size != new.size

/-- The active copy with the staged entries of a set of indices (R25, R37). -/
def switchedTable (t : RegionTable) (which : IxSet) : Tab Entry :=
  Tab.ofFn fun i => if which.get i then t.staged.get i else t.active.get i

/-- The indices of a set whose switch is an identity change (R37). -/
def identityChanges (t : RegionTable) (which : IxSet) : IxSet :=
  Tab.ofFn fun i => which.get i && identityChange (t.active.get i) (t.staged.get i)

/-- The table after the switch of a set of indices: the entries copied, the indices gone from the Pending Set (R37). -/
def switchTable (t : RegionTable) (which : IxSet) : RegionTable :=
  { t with active := switchedTable t which, pendingSet := diffIx t.pendingSet which }

/-- The life states after identity changes: BLANK where the new entry is an enabled CHECKED entry, none elsewhere (R38). -/
def switchLife (new : Tab Entry) (changed : IxSet) (life : Tab (Option Life)) : Tab (Option Life) :=
  Tab.ofFn fun i =>
    if changed.get i then (if (new.get i).isChecked then some .blank else none) else life.get i

/-- The indices among identity changes whose old entry was an enabled TRACK entry (R39). -/
def untracked (old : Tab Entry) (changed : IxSet) : IxSet :=
  Tab.ofFn fun i => changed.get i && (old.get i).isTrack

/-- The Dirty Tracker after the switch: the entries and overflow flags of those indices are gone (R39). -/
def switchDirty (d : DirtyTracker) (gone : IxSet) : DirtyTracker :=
  { d with list := d.list.filter (fun e => !gone.get e.region), overflow := diffIx d.overflow gone }

/-- The active job is abandoned when it belongs to an index whose identity changes: its last job result is ABANDONED, and
SIGN_FAILED is raised for a SIGN job, at the first byte of the entry replaced (R38, R121, R126). -/
def switchJob (s : State) (old : Tab Entry) (changed : IxSet) : State :=
  match s.scan.context with
  | some c =>
    if changed.get c.region then
      let t := abandon s c.region
      if c.kind = .sign then raise t (signFailedEvent c.region (addrOf (old.get c.region).lo)) else t
    else s
  | none => s

/-- The switch of a set of indices together as one step, with the effects on every other block (R37 to R39). The queued jobs of all
the indices go first, the active job is then abandoned, and an IDLE engine then takes its head (DEDUCED, log entry 11). -/
def switchSet (s : State) (which : IxSet) : State :=
  let changed := identityChanges s.table which
  let old := s.table.active
  let table := switchTable s.table which
  settle (switchJob
    { s with
      table := table
      sig := { s.sig with life := switchLife table.active changed s.sig.life }
      dirty := switchDirty s.dirty (untracked old changed)
      scan := { s.scan with queue := s.scan.queue.removeAll changed } }
    old changed)

/-! ## The drain (R27, R30, R31) -/

/-- The drain ranges of a quiesce set: the old and the new range of each index, where enabled (R27). -/
def drainRanges (t : RegionTable) (quiesce : IxSet) : List ByteRange :=
  (allIx.filter quiesce.get).flatMap fun i =>
    (if (t.active.get i).enabled then [(t.active.get i).range] else []) ++
    (if (t.staged.get i).enabled then [(t.staged.get i).range] else [])

/-- The host transactions a drain counts (R31). -/
def countedHost (s : State) (d : Drain) : Nat :=
  s.tracker.txns.countP fun x => x.isForward && d.meetsBurst x.req

/-- The chunk reads a drain counts (R31). -/
def countedChunk (s : State) (d : Drain) : Nat :=
  match s.scan.engine with
  | .reading r => if d.meetsChunk r.addr.toNat then 1 else 0
  | .off | .idle | .waitingGap | .halted => 0

/-- The drain condition: nothing is counted (R31). -/
def drainMet (s : State) (d : Drain) : Bool := countedHost s d == 0 && countedChunk s d == 0

/-- The unit leaves DRAINING, and an engine in WAITING_GAP whose next chunk was withheld starts its starvation timer (R30). -/
def closeDrain (s : State) : State :=
  let t := { s with commit := { s.commit with draining := none } }
  if withheld s && s.scan.engine == .waitingGap then startStarvation t else t

/-- A commit event (R41): the switched mask, the left-pending mask and the reason. -/
def commitEvent (kind : EventKind) (switched left : IxSet) (reason : Byte) : Event :=
  { kind := kind, region := none, hostId := none, addr := none
    detail := some (detailOf (maskBytes switched ++ maskBytes left ++ [reason])) }

/-- The kind of event that tells an outcome (R41). -/
def LastOutcome.event : LastOutcome → EventKind
  | .done => .commitDone
  | .timeout => .commitTimeout
  | .abortedByCommand => .commitAborted
  | .abortedByPortReset => .commitAborted
  | .none => .commitDone

/-- The end of a commit: the last outcome and its masks are written and the commit event is raised (R26, R32 to R35, R41). -/
def endCommit (s : State) (outcome : LastOutcome) (switched left : IxSet) : State :=
  raise { s with commit := { s.commit with outcome := outcome, switched := switched, leftPending := left } }
    (commitEvent outcome.event switched left outcome.reason)

/-- A completed drain (R32): the quiesce set is switched, the commit ends DONE, and the held transactions are released. SIGN_FAILED of
the switch comes before COMMIT_DONE, an order that R156 leaves open (DEDUCED, log entry 11). -/
def completeDrain (s : State) (d : Drain) (portFree : Bool) : State :=
  releaseHeld (endCommit (switchSet (closeDrain s) d.quiesce) .done (unionIx d.immediate d.quiesce) noIx) portFree

/-- A drain that ends without a switch (R33 to R35): the quiesce set stays pending. -/
def cutDrain (s : State) (d : Drain) (outcome : LastOutcome) : State :=
  endCommit (closeDrain s) outcome d.immediate d.quiesce

end Sys2Proof.Machine
end

