-- ==== Sys2Proof/Machine/HostPort.lean ====
section
/-! DEFINITION. The host port: accepting requests, collecting write beats, and the monitor's own local answers (R44 to R53,
R61 to R63). A step whose conditions do not hold is not taken: the state stays as it was. -/

namespace Sys2Proof.Machine

/-- A step of the monitor or a transfer at one of its ports: it comes about when POR_N is not asserted and its conditions
hold, and otherwise nothing does. -/
def stepWhen (ready : Bool) (s t : State) : Host.Outcome State Fault Refusal :=
  .next (if !s.pins.por && ready then t else s)

/-! ## Requests (R45, R62) -/

/-- Whether the request channel is ready for a request (R45): an entry is free, and for a WRITE a slot; PRST_N is not
asserted (R59). -/
def requestReady (s : State) (r : Request) : Bool :=
  !s.pins.prst && decide (s.tracker.txns.length < Config.txnEntries) &&
  (r.dir == .read || decide (slotsUsed s.tracker.txns < Config.writeSlots))

/-- The entry a request is placed in (R45): a READ in JUDGING, a WRITE in COLLECTING with its slot FILLING (R62). -/
def newTxn (tag : Nat) (r : Request) : Txn :=
  { tag := tag, req := r
    phase := if r.dir = .read then .judging else .collecting
    slot := if r.dir = .read then none else some { state := .filling, beats := [] }
    strobes := [], tracked := false, delivered := 0, errSeen := false, between := [] }

/-- A transaction joins the Transaction Table as the youngest. -/
def appendTxn (s : State) (x : Txn) : State :=
  { s with tracker := { s.tracker with txns := s.tracker.txns ++ [x] } }

/-- The next entry's tag is one higher. -/
def bumpTag (s : State) : State := { s with tracker := { s.tracker with nextTag := s.tracker.nextTag + 1 } }

/-- A request is accepted; a READ reaches its verdict time at once (R45, R47). -/
def acceptRequest (s : State) (r : Request) : State :=
  let x := newTxn s.tracker.nextTag r
  match r.dir with
  | .write => appendTxn (bumpTag s) x
  | .read =>
    let judged := verdictTime (bumpTag s) s.tracker.txns x []
    afterVerdict (appendTxn judged.1 judged.2) judged.2

/-- HOST_REQUEST_ACCEPT. A request whose beats field is not 1 to 16 is not one the port carries (R42). -/
def execHostRequestAccept (req : Request) (s : State) : Host.Outcome State Fault Refusal :=
  if req.beatsLegal then stepWhen (requestReady s req) s (acceptRequest s req) else .fault .illegalRequest

/-! ## Write beats (R46, R62, R63) -/

/-- The oldest write still collecting (R46). -/
def collectingTxn (txns : List Txn) : Option Txn := txns.find? fun x => x.phase == .collecting

/-- The entries accepted before a transaction. -/
def acceptedBefore (txns : List Txn) (x : Txn) : List Txn := txns.takeWhile fun y => y.tag != x.tag

/-- A beat stored in a write's slot, which becomes FULL with its last beat (R62). -/
def storeBeat (s : State) (x : Txn) (offer : OfferedBeat) : State :=
  let beats := x.beatsHeld ++ [offer.beat]
  if beats.length < x.req.beats then setTxn s { x with slot := some { state := .filling, beats := beats } }
  else
    let judged := verdictTime s (acceptedBefore s.tracker.txns x)
      { x with phase := .judging, slot := some { state := .full, beats := beats }, between := offer.between } offer.between
    afterVerdict (setTxn judged.1 judged.2) judged.2

/-- HOST_WRITE_BEAT: the beat belongs to the oldest write still collecting; with none, or while PRST_N is asserted, it is
not taken (R46, R65). -/
def execHostWriteBeat (offer : OfferedBeat) (s : State) : Host.Outcome State Fault Refusal :=
  match collectingTxn s.tracker.txns with
  | some x => stepWhen (!s.pins.prst) s (storeBeat s x offer)
  | none => .next s

/-! ## Local answers (R50, R51, R53) -/

/-- Whether a transaction's local answer is among the oldest eligible ones (R51). -/
def oldestEligible (t : Tracker) (tag : Nat) : Bool :=
  match t.eligible with
  | group :: _ => group.contains tag
  | [] => false

/-- The eligible groups without one tag. -/
def dropEligible (groups : List (List Nat)) (tag : Nat) : List (List Nat) :=
  (groups.map fun g => g.filter (· != tag)).filter fun g => !g.isEmpty

/-- Whether a local answer begins (R51, R53): the host response channel is given to the oldest eligible one, and it is that one,
or one of those that became eligible together with it (log entry 6). -/
def localReady (s : State) (x : Txn) : Bool :=
  !s.pins.prst && s.tracker.hostChan.isNone && s.tracker.localTurn && oldestEligible s.tracker x.tag

/-- A local answer begins: its entry enters RETURNING and has the channel (R51). -/
def beginLocal (s : State) (x : Txn) (verdict : LocalVerdict) (status : RespStatus) : State :=
  { s with tracker := { s.tracker with
      txns := putTxn s.tracker.txns { x with phase := .returning verdict status }
      hostChan := some x.tag
      localTurn := false
      lastSource := .localAnswer
      eligible := dropEligible s.tracker.eligible x.tag } }

/-- The local answer of a stream's next transaction begins, where it is given the channel (R51, R53). -/
def sendLocal (s : State) (dir : Dir) (id : HostId) : State :=
  match oldestOf s.tracker.txns dir id with
  | some x =>
    match x.phase with
    | .localAnswer verdict status => if localReady s x then beginLocal s x verdict status else s
    | .collecting | .judging | .held _ | .waitingForward | .forwarded | .returning _ _ => s
  | none => s

/-- The number of items of a transaction's response (R42): its beats for a READ, one for a WRITE. -/
def responseItems (r : Request) : Nat :=
  match r.dir with
  | .read => r.beats
  | .write => 1

/-- The item of a local answer (R48, R49, R73): zero data for a READ, one write completion for a WRITE. -/
def localItem (r : Request) (status : RespStatus) : HostItem :=
  match r.dir with
  | .read => .readBeat 0 status
  | .write => .writeDone status

/-- The host takes an item of a response. -/
def putHostItem (s : State) (item : HostItem) : State := { s with wires := { s.wires with hostItem := some item } }

/-- A transaction is freed and gives up the host response channel; the next of its stream may become eligible, and the channel
is given again (R50, R51, R53). -/
def retire (s : State) (x : Txn) : State :=
  takeTurns { s with tracker := { s.tracker with txns := freeTxn s.tracker.txns x.tag, hostChan := none } }

/-- The host takes an item of a local answer; with the last one the entry is freed (R51). -/
def takeLocalItem (s : State) (x : Txn) (status : RespStatus) : State :=
  let t := putHostItem s (localItem x.req status)
  if x.delivered + 1 < responseItems x.req then setTxn t { x with delivered := x.delivered + 1 } else retire t x

/-- The transaction that has the host response channel. -/
def channelTxn (s : State) : Option Txn := s.tracker.hostChan.bind (findTxn s.tracker.txns)

/-- LOCAL_ANSWER_ITEM_TAKEN: the transaction that has the channel is in RETURNING. -/
def execLocalAnswerItemTaken (s : State) : Host.Outcome State Fault Refusal :=
  match channelTxn s with
  | some x =>
    match x.phase with
    | .returning _ status => stepWhen (!s.pins.prst) s (takeLocalItem s x status)
    | .collecting | .judging | .held _ | .waitingForward | .forwarded | .localAnswer _ _ => .next s
  | none => .next s

end Sys2Proof.Machine
end

