-- ==== Sys2Proof/Machine/MemoryPort.lean ====
section
/-! DEFINITION. The memory port: the arbiter's three grants, requests and write beats taken by the memory, the idle gap, and
the items on the memory response channel, those of chunk reads among them (R52 to R58, R64, R79, R135 to R141). -/

namespace Sys2Proof.Machine

/-! ## The arbiter (R56, R57, R135, R139) -/

/-- Whether a chunk read is outstanding: from its grant to its fourth beat (R56). -/
def chunkOutstanding (s : State) : Bool :=
  match s.scan.engine with
  | .reading _ => true
  | .off | .idle | .waitingGap | .halted => false

/-- Whether the idle gap is met (R55). -/
def gapMet (s : State) : Bool :=
  match s.fwd.idleGap with
  | some g => decide (g.hold ≤ g.count)
  | none => false

/-- Whether the memory request channel is free for a grant: no granted claim's request is presented on it, and neither reset
pin is asserted (R56, R59). -/
def channelFree (s : State) : Bool := !portsHeld s && s.fwd.memReq.isNone

/-- HOST_CLAIM_GRANT's condition (R56, R57): no chunk read is outstanding and no forced claim is present. -/
def hostGrantReady (s : State) : Bool := channelFree s && !chunkOutstanding s && !s.scan.forced

/-- HOST_CLAIM_GRANT: the head of the forwarding queue is presented on the memory request channel (R54). -/
def execHostClaimGrant (s : State) : Host.Outcome State Fault Refusal :=
  match s.fwd.queue with
  | tag :: _ => stepWhen (hostGrantReady s) s { s with fwd := { s.fwd with memReq := some (.host tag) } }
  | [] => .next s

/-- The engine presents a claim for its next chunk in WAITING_GAP (R135). -/
def claimable (s : State) : Bool := s.scan.engine == .waitingGap && !withheld s

/-- SCAN_CLAIM_GRANT's condition (R56, R135). -/
def scanGrantReady (s : State) : Bool := channelFree s && claimable s && !s.scan.forced && gapMet s

/-- FORCED_CLAIM_GRANT's condition (R57): no host transaction is outstanding. -/
def forcedGrantReady (s : State) : Bool :=
  channelFree s && s.scan.engine == .waitingGap && s.scan.forced && outstanding s.tracker.txns == 0

/-- A granted chunk read: the engine enters READING with disposition APPLY, the starvation timer stops, and the read is
presented (R135, R139). -/
def grantChunk (s : State) (a : Nat) : State :=
  { s with
    scan := { s.scan with
      engine := .reading { addr := addrOf a, disposition := .apply, offPending := false, beats := [] }
      starvation := none
      forced := false }
    fwd := { s.fwd with memReq := some (.chunk (addrOf a)) } }

/-- SCAN_CLAIM_GRANT. -/
def execScanClaimGrant (s : State) : Host.Outcome State Fault Refusal :=
  match nextChunk s with
  | some a => stepWhen (scanGrantReady s) s (grantChunk s a)
  | none => .next s

/-- FORCED_CLAIM_GRANT. -/
def execForcedClaimGrant (s : State) : Host.Outcome State Fault Refusal :=
  match nextChunk s with
  | some a => stepWhen (forcedGrantReady s) s (grantChunk s a)
  | none => .next s

/-! ## Requests and write beats (R43, R54, R64) -/

/-- A request of the host as it stands on the memory request channel (R43). -/
def portRequest (r : Request) : PortRequest :=
  { dir := r.dir, id := r.id.setWidth 5, addr := r.addr, beats := r.beats }

/-- A chunk read as it stands on the memory request channel (R43): a READ of 4 beats with id 16. -/
def chunkRequest (a : Addr) : PortRequest := { dir := .read, id := 16, addr := a, beats := 4 }

/-- A forwarded transaction: its slot, if it has one, becomes SENDING with no beat sent (R54, R64). -/
def forwardTxn (x : Txn) : Txn :=
  { x with phase := .forwarded, slot := x.slot.map fun sl => { sl with state := .sending 0 } }

/-- The memory takes a host transaction's request (R54, R64). -/
def takeHostRequest (s : State) (x : Txn) : State :=
  { s with
    tracker := { s.tracker with txns := putTxn s.tracker.txns (forwardTxn x) }
    fwd := { s.fwd with
      queue := s.fwd.queue.filter (· != x.tag)
      sending := if x.req.dir = .write then s.fwd.sending ++ [x.tag] else s.fwd.sending
      memReq := none }
    wires := { s.wires with memRequest := some (portRequest x.req) } }

/-- The memory takes a chunk read's request. -/
def takeChunkRequest (s : State) (a : Addr) : State :=
  { s with
    fwd := { s.fwd with memReq := none }
    wires := { s.wires with memRequest := some (chunkRequest a) } }

/-- MEMORY_REQUEST_TAKEN: the presented request is transferred. -/
def execMemoryRequestTaken (s : State) : Host.Outcome State Fault Refusal :=
  match s.fwd.memReq with
  | some (.host tag) =>
    match findTxn s.tracker.txns tag with
    | some x => stepWhen (!s.pins.prst) s (takeHostRequest s x)
    | none => .next s
  | some (.chunk a) => stepWhen (!s.pins.prst) s (takeChunkRequest s a)
  | none => .next s

/-- The write whose beat is presented on the memory write data channel (R64), with its slot's beats and beats sent. -/
def sendingTxn (s : State) : Option (Txn × List WriteBeat × Nat) :=
  match s.fwd.sending with
  | tag :: _ =>
    match findTxn s.tracker.txns tag with
    | some x =>
      match x.slot with
      | some { state := .sending n, beats := beats } => some (x, beats, n)
      | some { state := .filling, .. } | some { state := .full, .. } | none => none
    | none => none
  | [] => none

/-- The memory takes a write beat; with the last one the slot becomes FREE (R64). -/
def takeWriteBeat (s : State) (x : Txn) (beats : List WriteBeat) (sent : Nat) : State :=
  let t := { s with wires := { s.wires with memBeat := beats[sent]? } }
  if sent + 1 < x.req.beats then setTxn t { x with slot := some { state := .sending (sent + 1), beats := beats } }
  else setTxn { t with fwd := { t.fwd with sending := t.fwd.sending.filter (· != x.tag) } } { x with slot := none }

/-- MEMORY_WRITE_BEAT_TAKEN. -/
def execMemoryWriteBeatTaken (s : State) : Host.Outcome State Fault Refusal :=
  match sendingTxn s with
  | some (x, beats, sent) => stepWhen (!s.pins.prst) s (takeWriteBeat s x beats sent)
  | none => .next s

/-! ## The idle gap (R55) -/

/-- Whether the idle-gap detector counts (R55): the forwarding queue is empty and no host transaction is outstanding. -/
def gapCounts (s : State) : Bool := !portsHeld s && s.fwd.queue.isEmpty && outstanding s.tracker.txns == 0

/-- The idle hold of the running count, or of one that starts now (R55). -/
def gapHold (s : State) : Nat :=
  match s.fwd.idleGap with
  | some g => g.hold
  | none => s.mgmt.timing.idleHold.toNat

/-- IDLE_GAP_MET: the count has reached the idle hold. -/
def execIdleGapMet (s : State) : Host.Outcome State Fault Refusal :=
  stepWhen (gapCounts s) s
    { s with fwd := { s.fwd with idleGap := some { hold := gapHold s, count := gapHold s } } }

/-! ## Items on the memory response channel (R52, R58, R79) -/

/-- Whether an item belongs to the outstanding chunk read (R58): a read beat with id 16. -/
def isChunkItem (s : State) (item : MemItem) : Bool :=
  chunkOutstanding s && !s.pins.prst && item.id == 16 && itemDir item == .read

/-- An item that is taken, discarded and counted (R58). -/
def discardItem (s : State) : State := { s with fwd := { s.fwd with memErrors := satInc s.fwd.memErrors } }

/-- Whether the item at the head of the memory response channel passes when the host is ready (R50, R52, R53, R79): its transaction
has the host response channel, and the memory has taken every beat of a write. A completion that waits for its write's beats keeps
the channel it has been given (DEDUCED, log entry 22). -/
def passReady (s : State) (x : Txn) : Bool := x.slot.isNone && s.tracker.hostChan == some x.tag

/-- An item of the memory as the host sees it (R52). -/
def passedItem : MemItem → HostItem
  | .readBeat _ data st => .readBeat data st
  | .writeDone _ st => .writeDone st

/-- The memory error counter and the response's mark of having held an ERR (R58): one count per transaction, at its first
ERR item. -/
def countError (s : State) (x : Txn) (item : MemItem) : State :=
  if itemStatus item == .err && !x.errSeen then discardItem s else s

/-- A forwarded write stops being in flight (R66, R79): tracked writes and writes awaited go down, and the regions that then await
no write pass to QUEUED (R106, R115, R116). -/
def landWrite (s : State) (x : Txn) : State :=
  if x.req.dir = .write then
    finishWriteDrains (lowerAwaited
      { s with dirty := { s.dirty with inFlight := if x.tracked then s.dirty.inFlight - 1 else s.dirty.inFlight } } x)
  else s

/-- The memory keeps an item of a host stream presented at the head of its response channel, or none (R52). -/
def setHead (s : State) (head : Option MemItem) : State := { s with fwd := { s.fwd with head := head } }

/-- An item passes from the memory to the host; with the last one the memory response has fully returned and the entry is
freed (R52). -/
def passItem (s : State) (x : Txn) (item : MemItem) : State :=
  let t := setHead (putHostItem (countError s x item) (passedItem item)) none
  if x.delivered + 1 < responseItems x.req then
    setTxn t { x with delivered := x.delivered + 1, errSeen := x.errSeen || itemStatus item == .err }
  else retire (landWrite t x) x

/-- The memory presents an item of a host stream: a free channel is given (R53), and the item passes when the host is ready and the
item's transaction has the channel; otherwise the memory keeps it presented (R52). -/
def presentItem (s : State) (x : Txn) (item : MemItem) (hostReady : Bool) : State :=
  let t := giveChannel (setHead s (some item))
  if hostReady && passReady t x then passItem t x item else t

/-- Whether no item keeps the head of the memory response channel, so that another can be presented there (R42, R52). -/
def headFree (s : State) : Bool := s.fwd.head.isNone

/-- Whether an item can stand at the head of the memory response channel: no other keeps it. -/
def headFits (s : State) (item : MemItem) : Bool := headFree s || s.fwd.head == some item

/-- The memory presents an item at the head of its response channel: one of a host stream passes when its transaction is next and
has the channel and the host is ready, and until then stays presented (R52); one with no owner is discarded and counted (R58). It
does not come past another item that is kept presented. -/
def offerItem (s : State) (item : MemItem) (hostReady : Bool) : State :=
  match itemOwner s item with
  | some x => if headFits s item then presentItem s x item hostReady else s
  | none => if headFree s && !isChunkItem s item then discardItem s else s

/-- MEMORY_RESPONSE_ITEM_PASS. -/
def execMemoryResponseItemPass (offer : OfferedItem) (s : State) : Host.Outcome State Fault Refusal :=
  stepWhen true s (offerItem s offer.item offer.hostReady)

/-- LOCAL_ANSWER_SEND for a stream: the item that the memory comes to present at that moment, if any, is presented, and the local
answer of the stream's next transaction begins if it is given the channel (R51, R53). -/
def execLocalAnswerSend (dir : Dir) (id : HostId) (head : Option MemItem) (s : State) : Host.Outcome State Fault Refusal :=
  stepWhen true s (sendLocal (match head with
    | some item => offerItem s item false
    | none => s) dir id)

/-- MEMORY_RESPONSE_DISCARD: an item with no owner is taken, discarded and counted (R58). -/
def execMemoryResponseDiscard (item : MemItem) (s : State) : Host.Outcome State Fault Refusal :=
  match itemOwner s item with
  | some _ => .next s
  | none => stepWhen (headFree s && !isChunkItem s item) s (discardItem s)

/-! ## Chunk reads (R136 to R141, R147) -/

/-- The engine after a return that leaves no active job: IDLE, or OFF when off pending is set (R137, R147). -/
def afterJob (s : State) (offPending : Bool) : State :=
  settle { s with scan := { s.scan with
    engine := if offPending then .off else .idle
    context := none
    streak := 0 } }

/-- The engine after a return that keeps its job: WAITING_GAP, or OFF when off pending is set (R136, R140). -/
def afterChunk (s : State) (offPending : Bool) : State :=
  if offPending then { s with scan := { s.scan with engine := .off } } else enterWaiting s

/-- The context after an OK return (R136). -/
def applyChunk (c : JobContext) (beats : List (BitVec 64 × RespStatus)) : JobContext :=
  { c with
    crc := crc32Fold c.crc (beats.flatMap fun b => beatBytes b.1)
    cursor := c.cursor + 32
    chunksDone := satInc c.chunksDone }

/-- A chunk read that has returned OK (R136, R137). -/
def returnOk (s : State) (c : JobContext) (beats : List (BitVec 64 × RespStatus)) (offPending : Bool) : State :=
  let c' := applyChunk c beats
  let t := { s with scan := { s.scan with context := some c', streak := 0 } }
  if c'.cursor = (s.table.active.get c.region).size.toNat * 256 then afterJob (applyResult t c') offPending
  else afterChunk t offPending

/-- A SCAN_READ_ERROR event (R152). -/
def scanReadErrorEvent (c : JobContext) (a : Addr) (streak : Nat) : Event :=
  { kind := .scanReadError, region := some c.region, hostId := none, addr := some a
    detail := some (detailOf ([jobKindCode (some c.kind)] ++ leBytes 4 c.cursor ++ [BitVec.ofNat 8 streak])) }

/-- A SCAN_HALTED event (R152, R178): chunks done saturated at 16,777,215. -/
def scanHaltedEvent (c : JobContext) (a : Addr) : Event :=
  { kind := .scanHalted, region := some c.region, hostId := none, addr := some a
    detail := some (detailOf
      ([jobKindCode (some c.kind)] ++ leBytes 4 c.cursor ++ leBytes 3 (min c.chunksDone.toNat 16777215))) }

/-- A chunk read that has returned ERR (R140, R141). -/
def returnErr (s : State) (c : JobContext) (a : Addr) (offPending : Bool) : State :=
  let c' := { c with chunksDone := satInc c.chunksDone }
  let n := s.scan.streak + 1
  let t := raise (setResult { s with scan := { s.scan with context := some c', streak := n } } c.region .errorRetrying)
    (scanReadErrorEvent c' a n)
  if n < 3 then afterChunk t offPending
  else
    let h := raise t (scanHaltedEvent c' a)
    { h with scan := { h.scan with engine := if offPending then .off else .halted } }

/-- The return of the outstanding chunk read, with its four beats (R136, R147). -/
def returnChunk (s : State) (r : ChunkRead) (beats : List (BitVec 64 × RespStatus)) : State :=
  match r.disposition, s.scan.context with
  | .apply, some c =>
    if beats.all fun b => b.2 == .ok then returnOk s c beats r.offPending else returnErr s c r.addr r.offPending
  | _, _ =>
    settle { s with scan := { s.scan with engine := if r.offPending then .off else .idle } }

/-- CHUNK_READ_RETURN: the fourth beat of the outstanding chunk read. A beat with id 16 when none is outstanding is discarded
and counted (R58). No beat comes past an item that keeps the head of the memory response channel (R52). -/
def execChunkReadReturn (data : BitVec 64) (status : RespStatus) (s : State) : Host.Outcome State Fault Refusal :=
  match s.scan.engine with
  | .reading r => stepWhen (headFree s && r.beats.length == 3) s (returnChunk s r (r.beats ++ [(data, status)]))
  | .off | .idle | .waitingGap | .halted => stepWhen (headFree s) s (discardItem s)

/-- CHUNK_READ_BEAT: one of the first three beats of the outstanding chunk read, which the engine keeps (R136). A beat with
id 16 when none is outstanding is discarded and counted (R58). No beat comes past an item that keeps the head of the memory
response channel (R52). -/
def execChunkReadBeat (data : BitVec 64) (status : RespStatus) (s : State) : Host.Outcome State Fault Refusal :=
  match s.scan.engine with
  | .reading r =>
    stepWhen (headFree s && decide (r.beats.length < 3)) s
      { s with scan := { s.scan with engine := .reading { r with beats := r.beats ++ [(data, status)] } } }
  | .off | .idle | .waitingGap | .halted => stepWhen (headFree s) s (discardItem s)

end Sys2Proof.Machine
end

