-- ==== Sys2Proof/Machine/TimerEvents.lean ====
section
/-! DEFINITION. The steps the monitor's timers and drains bring about: the three expiries, the end of a drain whose condition
holds, and the end of write drains (R32, R33, R116, R133, R139). -/

namespace Sys2Proof.Machine

/-- The starvation timer runs out: a forced claim takes the place of the scan claim, and is counted (R139). -/
def starve (s : State) : State :=
  { s with scan := { s.scan with starvation := none, forced := true, forcedCount := satInc s.scan.forcedCount } }

/-- STARVATION_TIMER_EXPIRY: the timer is running. -/
def execStarvationTimerExpiry (s : State) : Host.Outcome State Fault Refusal :=
  stepWhen s.scan.starvation.isSome s (starve s)

/-- The round timer runs out (R133): a ROUND VERIFY job for each region that joins, in ascending index order, and the engine takes
the head; with none the timer starts again. -/
def startRound (s : State) : State :=
  match allIx.filter (joinsRound s) with
  | [] => enqueueRound s
  | _ :: _ => settle (enqueueRound s)

/-- ROUND_TIMER_EXPIRY: the timer is running. -/
def execRoundTimerExpiry (s : State) : Host.Outcome State Fault Refusal :=
  stepWhen s.scan.roundTimer.isSome s (startRound s)

/-- DRAIN_TIMER_EXPIRY: a draining commit ends by timeout and the held transactions are released against the table in force
(R33). -/
def execDrainTimerExpiry (s : State) : Host.Outcome State Fault Refusal :=
  match s.commit.draining with
  | some d => stepWhen true s (releaseHeld (cutDrain s d .timeout) true)
  | none => .next s

/-- DRAIN_COMPLETE: a draining commit whose drain condition holds (R31, R32). -/
def execDrainComplete (s : State) : Host.Outcome State Fault Refusal :=
  match s.commit.draining with
  | some d => stepWhen (drainMet s d) s (completeDrain s d true)
  | none => .next s

/-- WRITE_DRAIN_DONE: every region whose writes awaited are 0 passes to QUEUED (R115, R116). The commands that bring writes awaited
to 0 do this themselves, at that moment, and leave no such region behind (log entry 4). -/
def execWriteDrainDone (s : State) : Host.Outcome State Fault Refusal :=
  stepWhen true s (finishWriteDrains s)

end Sys2Proof.Machine
end

