-- ==== Sys2Proof/Machine/Clock.lean ====
section
/-! DEFINITION. One cycle of CLK with no command waiting: what step does on an empty queue (DESIGN CHOICE, log entry 2). The
table has no row for a cycle. A timer that has run its length expires; the idle-gap count and the running timers advance by one cycle
(R55, R175); and the monitor's own steps that need nothing from outside come about. Between the cycle that brings a timer to its
length and its expiry in the next, commands can come: they fall together with the expiry (R133, log entry 26). -/

namespace Sys2Proof.Machine

/-- A running timer one cycle later. -/
def Timer.tick (t : Timer) : Timer := { t with elapsed := t.elapsed + 1 }

/-- The idle-gap count one cycle later (R55): it starts with the idle hold in force, stays at the hold once it is reached,
and is zero while the queue or the memory port holds a host transaction. -/
def tickGap (s : State) : Option IdleGap :=
  if gapCounts s then some { hold := gapHold s, count := min (gapHold s) ((s.fwd.idleGap.map IdleGap.count).getD 0 + 1) }
  else none

/-- The counts and the running timers one cycle later. -/
def advance (s : State) : State :=
  { s with
    fwd := { s.fwd with idleGap := tickGap s }
    scan := { s.scan with
      starvation := s.scan.starvation.map Timer.tick
      roundTimer := s.scan.roundTimer.map Timer.tick }
    commit := { s.commit with draining := s.commit.draining.map fun d => { d with timer := d.timer.tick } } }

/-- A step's next state, or the state before it. -/
def stepped (s : State) (o : Host.Outcome State Fault Refusal) : State :=
  match o with
  | .next t => t
  | .fault _ => s
  | .refused _ => s

/-- A step the monitor takes of itself, when a condition holds. -/
def taken (due : Bool) (meaning : State → Host.Outcome State Fault Refusal) (s : State) : State :=
  if due then stepped s (meaning s) else s

/-- The drain timer of a draining commit. -/
def drainTimer (s : State) : Option Timer := s.commit.draining.map Drain.timer

/-- The ends of drains that are due: write drains first, then the commit drain (R32, R116). -/
def endDrains (s : State) : State := taken true execDrainComplete (taken true execWriteDrainDone s)

/-- The timers that have run their length expire (R33, R133, R139). -/
def expireTimers (s : State) : State :=
  let t := taken (timerDue (drainTimer s)) execDrainTimerExpiry s
  let u := taken (timerDue t.scan.starvation) execStarvationTimerExpiry t
  taken (timerDue u.scan.roundTimer) execRoundTimerExpiry u

/-- The arbiter grants the claim it may grant, if any (R56). -/
def grantClaims (s : State) : State :=
  taken true execScanClaimGrant (taken true execForcedClaimGrant (taken true execHostClaimGrant s))

/-- One clock cycle. While POR_N is asserted nothing counts. -/
def cycle (s : State) : State := if s.pins.por then s else grantClaims (advance (expireTimers (endDrains s)))

end Sys2Proof.Machine
end

