-- ==== Sys2Proof/Machine/CommitCommands.lean ====
section
/-! DEFINITION. The commands of the Commit Unit: COMMIT, ABORT_COMMIT and COMMIT_STATUS (R24 to R27, R34, R40). -/

namespace Sys2Proof.Machine

/-- The pending indices whose staged entry has quiesce yes (R7, R27). -/
def quiesceSet (t : RegionTable) : IxSet := Tab.ofFn fun i => t.pendingSet.get i && (t.staged.get i).quiesce

/-- The pending indices whose staged entry has quiesce no: the immediate part (R26). -/
def immediatePart (t : RegionTable) : IxSet := Tab.ofFn fun i => t.pendingSet.get i && !(t.staged.get i).quiesce

/-- The intermediate table (R25). -/
def intermediateTable (t : RegionTable) : Tab Entry := switchedTable t (immediatePart t)

/-- The final table (R25). -/
def finalTable (t : RegionTable) : Tab Entry := switchedTable t t.pendingSet

/-- COMMIT's OK result: the commit state after the command, the immediate part and the quiesce set (R26). -/
def commitResult (s : State) (immediate quiesce : IxSet) : List Byte :=
  yesNo s.commit.draining.isSome :: (maskBytes immediate ++ maskBytes quiesce)

/-- The unit enters DRAINING (R27), and claims for a chunk that becomes withheld stop (R30). -/
def enterDraining (s : State) (d : Drain) : State :=
  withholdClaim { s with commit := { s.commit with draining := some d } }

/-- The draining commit of an accepted COMMIT (R27): its ranges are those of the copies when the command is taken. -/
def newDrain (s : State) : Drain :=
  { quiesce := quiesceSet s.table
    immediate := immediatePart s.table
    ranges := drainRanges s.table (quiesceSet s.table)
    timer := startMicros s.mgmt.timing s.mgmt.timing.drain }

/-- An accepted COMMIT (R26, R27): the immediate part is switched at once; with no quiesce entry the commit ends DONE, and
otherwise the unit enters DRAINING and the drain completes at once when its condition holds, while the port is busy with the
command. SIGN_FAILED of the immediate part comes before COMMIT_DONE (DEDUCED, log entry 11). -/
def acceptCommit (s : State) : State :=
  let immediate := immediatePart s.table
  let t := switchSet s immediate
  if emptyIx (quiesceSet s.table) then endCommit t .done immediate noIx
  else
    let d := newDrain s
    let u := enterDraining t d
    if drainMet u d then completeDrain u d false else u

/-- COMMIT's tests in their order, and its effects (R24). -/
def doCommit (s : State) : State × Response :=
  if s.commit.draining.isSome then (s, refusedResponse .busy 5 [])
  else if emptyIx s.table.pendingSet then (s, refusedResponse .empty 5 [])
  else
    match lowestOverlap (intermediateTable s.table), lowestOverlap (finalTable s.table) with
    | some i, _ => (s, refusedResponse .invalid 5 [0, BitVec.ofNat 8 i.val])
    | none, some i => (s, refusedResponse .invalid 5 [1, BitVec.ofNat 8 i.val])
    | none, none =>
      let t := acceptCommit s
      (t, okResponse (commitResult t (immediatePart s.table) (quiesceSet s.table)))

/-- COMMIT. -/
def execCommit (s : State) : Host.Outcome State Fault Refusal := takeCommand 0 s doCommit

/-- ABORT_COMMIT (R34). The port takes no other command while it carries this one out, so none comes between the dirty additions
of the writes it releases. -/
def doAbortCommit (s : State) : State × Response :=
  match s.commit.draining with
  | none => (s, refusedResponse .state 2 [])
  | some d => (releaseHeld (cutDrain s d .abortedByCommand) false, okResponse (maskBytes d.quiesce))

/-- ABORT_COMMIT. -/
def execAbortCommit (s : State) : Host.Outcome State Fault Refusal := takeCommand 0 s doAbortCommit

/-- The entries of the Transaction Table in HELD (R28). -/
def heldCount (txns : List Txn) : Nat := txns.countP Txn.isHeld

/-- COMMIT_STATUS's result (R40, R179): the drain's part is zeros in IDLE. -/
def commitStatusResult (s : State) : List Byte :=
  (match s.commit.draining with
    | some d =>
      [1] ++ maskBytes d.quiesce ++ leBytes 2 d.timer.micros ++
      [BitVec.ofNat 8 (countedHost s d), BitVec.ofNat 8 (countedChunk s d), BitVec.ofNat 8 (heldCount s.tracker.txns)]
    | none => List.replicate 8 0) ++
  maskBytes s.table.pendingSet ++ [s.commit.outcome.code, s.commit.outcome.reason] ++
  maskBytes s.commit.switched ++ maskBytes s.commit.leftPending

/-- COMMIT_STATUS. -/
def execCommitStatus (s : State) : Host.Outcome State Fault Refusal :=
  takeCommand 0 s fun t => (t, okResponse (commitStatusResult t))

end Sys2Proof.Machine
end

