-- ==== Sys2Proof/Machine/EventCommands.lean ====
section
/-! DEFINITION. The commands of the Event Unit: READ_EVENT, EVENT_STATUS, CLEAR_FLAGS and SET_ALERT_MASK (R161 to R164). -/

namespace Sys2Proof.Machine

/-- READ_EVENT (R161): the oldest record leaves the log. -/
def doReadEvent (s : State) : State × Response :=
  match s.events.log with
  | [] => (s, refusedResponse .empty 21 [])
  | r :: rest =>
    ({ s with events := { s.events with log := rest } }, okResponse (r.bytes ++ [BitVec.ofNat 8 rest.length]))

/-- READ_EVENT. -/
def execReadEvent (s : State) : Host.Outcome State Fault Refusal := takeCommand 0 s doReadEvent

/-- EVENT_STATUS's result (R164). -/
def eventStatusResult (s : State) : List Byte :=
  [s.events.flags.byte, s.events.mask.byte, yesNo (alertLow s), BitVec.ofNat 8 s.events.log.length, s.events.dropped] ++
  leBytes 2 s.events.nextSeq.toNat

/-- EVENT_STATUS. -/
def execEventStatus (s : State) : Host.Outcome State Fault Refusal :=
  takeCommand 0 s fun t => (t, okResponse (eventStatusResult t))

/-- CLEAR_FLAGS (R162). -/
def doClearFlags (mask : Byte) (s : State) : State × Response :=
  match flagsOf mask with
  | none => (s, refusedResponse .range 1 [])
  | some f =>
    let t := { s with events := { s.events with flags := s.events.flags.minus f } }
    (t, okResponse [t.events.flags.byte])

/-- CLEAR_FLAGS. -/
def execClearFlags (mask : Byte) (s : State) : Host.Outcome State Fault Refusal := takeCommand 1 s (doClearFlags mask)

/-- SET_ALERT_MASK (R163). -/
def doSetAlertMask (mask : Byte) (s : State) : State × Response :=
  match flagsOf mask with
  | none => (s, refusedResponse .range 2 [])
  | some f =>
    let t := { s with events := { s.events with mask := f } }
    (t, okResponse [f.byte, yesNo (alertLow t)])

/-- SET_ALERT_MASK. -/
def execSetAlertMask (mask : Byte) (s : State) : Host.Outcome State Fault Refusal := takeCommand 1 s (doSetAlertMask mask)

end Sys2Proof.Machine
end

