-- ==== Sys2Proof/Machine/LifeCommands.lean ====
section
/-! DEFINITION. The commands of the Signature Unit: OPEN, CLOSE, RESIGN, VERIFY and REGION_STATUS (R111 to R117, R125). -/

namespace Sys2Proof.Machine

/-- The result of the four life-cycle commands (R111): life state, sub-phase, writes awaited, and the verify outcome. -/
def lifeResult (s : State) (i : Ix) (outcome : Byte) : List Byte :=
  [lifeCode (s.sig.life.get i), subPhaseCode (s.sig.life.get i), BitVec.ofNat 8 (awaitedOf (s.sig.life.get i)), outcome]

/-- The tests of R111 in their order: the index, the entry, and the life state from which the command is allowed; an accepted
command's effect comes with its result. -/
def lifeCommand (index : Byte) (s : State) (allowed : Life → Bool) (effect : Ix → State × List Byte) :
    State × Response :=
  match indexOf index with
  | none => (s, refusedResponse .range 4 [])
  | some i =>
    if !(s.table.active.get i).isChecked then (s, refusedResponse .state 4 [])
    else
      match s.sig.life.get i with
      | some l =>
        if allowed l then ((effect i).1, okResponse (effect i).2)
        else (s, refusedResponse .state 4 [])
      | none => (s, refusedResponse .state 4 [])

/-- OPEN is refused from OPEN alone (R112). -/
def openAllowed : Life → Bool
  | .opened => false
  | .blank | .signing _ | .intact _ | .corrupt _ => true

/-- OPEN (R112): the region is OPEN without a reference, its queued job is removed and its active job abandoned. -/
def openAt (s : State) (i : Ix) : State := settle (abandon (unqueue (setLife s i (some .opened)) i) i)

/-- OPEN. -/
def execOpenRegion (index : Byte) (s : State) : Host.Outcome State Fault Refusal :=
  takeCommand 1 s fun t => lifeCommand index t openAllowed fun i => (openAt t i, lifeResult (openAt t i) i 0)

/-- CLOSE is allowed from OPEN alone (R113). -/
def closeAllowed : Life → Bool
  | .opened => true
  | .blank | .signing _ | .intact _ | .corrupt _ => false

/-- The state a CLOSE or RESIGN goes on from (R113, R114): with no write in flight into the range the SIGN job joins at once, and may fall
together with the expiry of the round timer (R133). -/
def meetSigning (s : State) (i : Ix) : State :=
  if writesInto s.tracker.txns (s.table.active.get i) = 0 then meetRound s else s

/-- CLOSE (R113): with no write awaited the response reports QUEUED, also when an IDLE engine takes the job at once. -/
def execCloseRegion (index : Byte) (s : State) : Host.Outcome State Fault Refusal :=
  takeCommand 1 s fun t => lifeCommand index t closeAllowed fun i =>
    (startWriteDrain (meetSigning t i) i, lifeResult (beginSigning t i) i 0)

/-- RESIGN is allowed from BLANK, INTACT and CORRUPT (R114). -/
def resignAllowed : Life → Bool
  | .blank | .intact _ | .corrupt _ => true
  | .opened | .signing _ => false

/-- RESIGN's effect on the region's VERIFY job (R114): a queued one is removed, an active one abandoned, and an engine left
IDLE by that takes the head of its queue (R146). An engine that was IDLE before takes none: its queue is empty, or holds a round that
fell together with the SIGN job still to join (R133). -/
def dropVerify (s : State) (i : Ix) : State :=
  let t := abandon (unqueue s i) i
  if s.scan.engine = .idle then t else settle t

/-- The region at RESIGN before its write drain: the reference is gone with the life state, and its VERIFY job too (R114). -/
def resignAt (s : State) (i : Ix) : State := dropVerify (setLife s i (some .blank)) i

/-- RESIGN (R114): the reference is dropped, and the write drain starts; the response is as for CLOSE. The SIGN job may fall together
with the expiry of a round timer that runs before, and with that of one that starts as the engine is left IDLE, with round interval 0
(R132, R133, log entry 26). -/
def execResign (index : Byte) (s : State) : Host.Outcome State Fault Refusal :=
  takeCommand 1 s fun t => lifeCommand index t resignAllowed fun i =>
    (startWriteDrain (meetSigning (resignAt (meetSigning t i) i) i) i, lifeResult (beginSigning (resignAt t i) i) i 0)

/-- VERIFY is allowed from INTACT and CORRUPT (R117). -/
def verifyAllowed : Life → Bool
  | .intact _ | .corrupt _ => true
  | .blank | .opened | .signing _ => false

/-- A region's job joins the DEMAND class at its tail, in place of its ROUND job if it has one (R130). -/
def joinDemand (s : State) (i : Ix) : State :=
  settle { s with scan := { s.scan with queue := { s.scan.queue with
    round := s.scan.queue.round.filter (· != i), demand := s.scan.queue.demand ++ [i] } } }

/-- VERIFY's outcome and its effect on the queue (R117, R130): QUEUED 1, CONVERTED 2, ALREADY_QUEUED 3, ALREADY_ACTIVE 4. A job that
joins may fall together with the expiry of the round timer, and then finds a ROUND job of its region to convert (R133). -/
def verifyAt (s : State) (i : Ix) : State × Byte :=
  match activeKind s i, s.scan.queue.jobOf i with
  | some _, _ => (s, 4)
  | none, some .verifyRound => (joinDemand s i, 2)
  | none, some .verifyDemand => (s, 3)
  | none, some .sign => (s, 3)
  | none, none =>
    let t := meetRound s
    (joinDemand t i, if t.scan.queue.round.contains i then 2 else 1)

/-- VERIFY. -/
def execVerify (index : Byte) (s : State) : Host.Outcome State Fault Refusal :=
  takeCommand 1 s fun t => lifeCommand index t verifyAllowed fun i =>
    ((verifyAt t i).1, lifeResult (verifyAt t i).1 i (verifyAt t i).2)

/-- The region's job as REGION_STATUS reports it (R125): job state and job kind. -/
def jobReport (s : State) (i : Ix) : List Byte :=
  match activeKind s i, s.scan.queue.jobOf i with
  | some k, _ => [2, jobKindCode (some k)]
  | none, some k => [1, jobKindCode (some k)]
  | none, none => [0, 0]

/-- REGION_STATUS's result (R125). -/
def regionStatusResult (s : State) (i : Ix) : List Byte :=
  let l := s.sig.life.get i
  [bitByte [l.isSome, (referenceOf l).isSome], lifeCode l, subPhaseCode l, BitVec.ofNat 8 (awaitedOf l)] ++
  leBytes 4 ((referenceOf l).map BitVec.toNat |>.getD 0) ++ jobReport s i ++ [(s.sig.lastResult.get i).code] ++
  leBytes 2 (s.sig.verifyCount.get i).toNat ++ leBytes 2 (s.policy.refusals.get i).toNat ++
  leBytes 2 (s.policy.windows.get i).toNat

/-- REGION_STATUS (R125). -/
def doRegionStatus (index : Byte) (s : State) : State × Response :=
  match indexOf index with
  | none => (s, refusedResponse .range 17 [])
  | some i => (s, okResponse (regionStatusResult s i))

/-- REGION_STATUS. -/
def execRegionStatus (index : Byte) (s : State) : Host.Outcome State Fault Refusal :=
  takeCommand 1 s (doRegionStatus index)

end Sys2Proof.Machine
end

