-- ==== Sys2Proof/Machine/PortCommands.lean ====
section
/-! DEFINITION. PORT_STATUS (R60), and what the Management Port itself does: IDENTIFY, SET_TIMING, fetch frames,
rejected frames and empty frames (R168 to R175). -/

namespace Sys2Proof.Machine

/-! ## PORT_STATUS -/

/-- PORT_STATUS's result (R60). -/
def portStatusResult (s : State) : List Byte :=
  [BitVec.ofNat 8 s.tracker.txns.length, BitVec.ofNat 8 (slotsUsed s.tracker.txns),
    BitVec.ofNat 8 (s.tracker.txns.countP fun x => x.phase == .held .range),
    BitVec.ofNat 8 (s.tracker.txns.countP fun x => x.phase == .held .stream),
    BitVec.ofNat 8 (s.tracker.txns.countP fun x => x.phase == .waitingForward),
    BitVec.ofNat 8 (outstanding s.tracker.txns),
    bitByte [chunkOutstanding s, s.scan.forced, s.pins.prst]] ++
  leBytes 2 s.fwd.memErrors.toNat ++ leBytes 2 s.tracker.malformed.toNat

/-- PORT_STATUS. -/
def execPortStatus (s : State) : Host.Outcome State Fault Refusal :=
  takeCommand 0 s fun t => (t, okResponse (portStatusResult t))

/-! ## IDENTIFY and SET_TIMING -/

/-- The five timing settings, two bytes each (R174, R175). -/
def Timing.bytes (t : Timing) : List Byte :=
  leBytes 2 t.clockMhz.toNat ++ leBytes 2 t.idleHold.toNat ++ leBytes 2 t.starvation.toNat ++ leBytes 2 t.drain.toNat ++
  leBytes 2 t.round.toNat

/-- IDENTIFY's result (R174). -/
def identifyResult (s : State) : List Byte :=
  leBytes 2 Config.partCode ++
  [BitVec.ofNat 8 Config.revision, BitVec.ofNat 8 Config.regions, BitVec.ofNat 8 Config.txnEntries,
    BitVec.ofNat 8 Config.writeSlots, BitVec.ofNat 8 Config.scanJobs, BitVec.ofNat 8 Config.dirtyEntries,
    BitVec.ofNat 8 Config.logRecords] ++
  s.mgmt.timing.bytes

/-- IDENTIFY. -/
def execIdentify (s : State) : Host.Outcome State Fault Refusal :=
  takeCommand 0 s fun t => (t, okResponse (identifyResult t))

/-- The position, 1 to 5, of the first timing value outside its range (R175); 0 when all are inside. -/
def timingFault (t : Timing) : Nat :=
  if t.clockMhz.toNat < 50 || 400 < t.clockMhz.toNat then 1
  else if t.idleHold.toNat < 1 || 1023 < t.idleHold.toNat then 2
  else if t.starvation.toNat < 100 then 3
  else if t.drain.toNat < 1 then 4
  else 0

/-- SET_TIMING (R175). -/
def doSetTiming (timing : Timing) (s : State) : State × Response :=
  if timingFault timing = 0 then
    ({ s with mgmt := { s.mgmt with timing := timing } }, okResponse timing.bytes)
  else (s, refusedResponse .range 10 [BitVec.ofNat 8 (timingFault timing)])

/-- SET_TIMING. -/
def execSetTiming (clockMhz idleHold starvation drain round : BitVec 16) (s : State) : Host.Outcome State Fault Refusal :=
  takeCommand 10 s (doSetTiming
    { clockMhz := clockMhz, idleHold := idleHold, starvation := starvation, drain := drain, round := round })

/-! ## Frames that carry no command -/

/-- The receiver is idle at the deassertion of CS_N (R168). -/
def idleReceiver (s : State) : State := { s with mgmt := { s.mgmt with receiver := .idle } }

/-- What MISO carries in a fetch frame of the length given, after its first two bytes: a response, then 0xFF (R172). -/
def fetchBytes (r : Response) (n : Nat) : List Byte := (r.bytes ++ List.replicate n 0xFF).take n

/-- A correct fetch with no response pending is answered NONE (R172). -/
def noneResponse : Response := { status := .none, result := [] }

/-- The response to a fetch frame whose second byte is damaged (R172). -/
def frameCrcResponse : Response := { status := .frameCrc, result := [] }

/-- The port after a fetch frame, from the bytes after its first one (R172). -/
def fetchFrame (m : Management) : List Byte → Management
  | [] => { m with receiver := .idle, miso := [0xFF] }
  | second :: rest =>
    if second = 0 then
      { m with receiver := .idle, response := none,
               miso := [0xFF, 0xFF] ++ fetchBytes (m.response.getD noneResponse) rest.length }
    else { m with receiver := .idle, miso := [0xFF, 0xFF] ++ fetchBytes frameCrcResponse rest.length }

/-- FETCH. -/
def execFetch (mosi : List Byte) (s : State) : Host.Outcome State Fault Refusal :=
  stepWhen true s { s with mgmt := fetchFrame s.mgmt mosi }

/-- The pending response a frame that carries no command of the table leaves (R150, R170); none for a frame that is a fetch
frame, is empty, or carries such a command. -/
def rejection : FrameJudgement → Option Response
  | .unknown => some { status := .unknown, result := [] }
  | .length => some { status := .length, result := [] }
  | .frameCrc => some { status := .frameCrc, result := [] }
  | .badAction => some (refusedResponse .range 3 [])
  | .notCommand | .command _ => none

/-- COMMAND_FRAME_REJECTED: the frame's rejection becomes the pending response, and nothing else changes (R170). -/
def execCommandFrameRejected (frame : List Byte) (partByte : Bool) (s : State) : Host.Outcome State Fault Refusal :=
  match rejection (judgeFrame frame partByte) with
  | some r =>
    stepWhen true s { s with mgmt := { s.mgmt with
      receiver := .idle, response := some r, miso := List.replicate frame.length 0xFF } }
  | none => .next s

/-- EMPTY_FRAME: the frame is ignored (R168). -/
def execEmptyFrame (s : State) : Host.Outcome State Fault Refusal := stepWhen true s (idleReceiver s)

end Sys2Proof.Machine
end

