-- ==== Sys2Proof/Machine/RegionCommands.lean ====
section
/-! DEFINITION. The commands of the Region Table: STAGE_ENTRY, READ_ENTRY and DISCARD (R13 to R19). -/

namespace Sys2Proof.Machine

/-- Whether an index belongs to the quiesce set of a draining commit (R13). -/
def inQuiesceSet (s : State) (i : Ix) : Bool :=
  match s.commit.draining with
  | some d => d.quiesce.get i
  | none => false

/-- The table with an entry staged and the index's membership of the Pending Set recomputed (R15). -/
def stageAt (t : RegionTable) (i : Ix) (e : Entry) : RegionTable :=
  { t with staged := t.staged.set i e, pendingSet := t.pendingSet.set i (decide (e ≠ t.active.get i)) }

/-- STAGE_ENTRY's tests in their order, and its effects (R13 to R16). -/
def doStageEntry (index : Byte) (raw : RawEntry) (s : State) : State × Response :=
  match indexOf index with
  | none => (s, refusedResponse .range 3 [0])
  | some i =>
    if inQuiesceSet s i then (s, refusedResponse .busy 3 [])
    else
      match fieldChecks raw with
      | .error check => (s, refusedResponse .range 3 [BitVec.ofNat 8 check])
      | .ok e =>
        let t := stageAt s.table i e
        ({ s with table := t }, okResponse (yesNo (t.pendingSet.get i) :: maskBytes t.pendingSet))

/-- STAGE_ENTRY. -/
def execStageEntry (index : Byte) (entry : RawEntry) (s : State) : Host.Outcome State Fault Refusal :=
  takeCommand 17 s (doStageEntry index entry)

/-- READ_ENTRY's result (R19): the entry, its option presence, and whether the index is pending. -/
def entryResult (s : State) (i : Ix) (e : Entry) : List Byte :=
  e.bytes ++ [e.part.presence, yesNo (s.table.pendingSet.get i)]

/-- READ_ENTRY (R19): copy selector 0 is STAGED, 1 is ACTIVE. -/
def doReadEntry (index selector : Byte) (s : State) : State × Response :=
  match indexOf index with
  | none => (s, refusedResponse .range 18 [])
  | some i =>
    if selector = 0 then (s, okResponse (entryResult s i (s.table.staged.get i)))
    else if selector = 1 then (s, okResponse (entryResult s i (s.table.active.get i)))
    else (s, refusedResponse .range 18 [])

/-- READ_ENTRY. -/
def execReadEntry (index selector : Byte) (s : State) : Host.Outcome State Fault Refusal :=
  takeCommand 2 s (doReadEntry index selector)

/-- The table with the active entries of a set copied into the staged ones (R18). -/
def discardAt (t : RegionTable) (which : IxSet) : RegionTable :=
  { t with
    staged := Tab.ofFn fun i => if which.get i then t.active.get i else t.staged.get i
    pendingSet := diffIx t.pendingSet which }

/-- Whether a set names an index of the quiesce set of a draining commit (R18). -/
def touchesQuiesceSet (s : State) (which : IxSet) : Bool := allIx.any fun i => which.get i && inQuiesceSet s i

/-- DISCARD (R18). -/
def doDiscard (mask : BitVec 16) (s : State) : State × Response :=
  if touchesQuiesceSet s (maskSet mask) then (s, refusedResponse .busy 4 [])
  else
    let t := discardAt s.table (maskSet mask)
    ({ s with table := t },
      okResponse (maskBytes (interIx (maskSet mask) s.table.pendingSet) ++ maskBytes t.pendingSet))

/-- DISCARD. -/
def execDiscard (mask : BitVec 16) (s : State) : Host.Outcome State Fault Refusal :=
  takeCommand 2 s (doDiscard mask)

end Sys2Proof.Machine
end

