-- ==== Sys2Proof/Machine/Resets.lean ====
section
/-! DEFINITION. The two reset pins: POWER_ON_RESET and its release, PORT_RESET_ASSERT and PORT_RESET_DEASSERT (R2, R35, R59,
R65, R105, R124, R138, R148). -/

namespace Sys2Proof.Machine

/-- POWER_ON_RESET: every piece of state takes its power-on value (section 3.2, R167). The level of PRST_N is the board's,
the commands still waiting are not the monitor's, and the free value is drawn on from where it stood (log entries 9 and 26). -/
def execPowerOnReset (s : State) : Host.Outcome State Fault Refusal :=
  .next { State.reset with
    pending := s.pending
    pins := { por := true, prst := s.pins.prst }
    scan := { ScanEngine.reset with ties := s.scan.ties } }

/-- POWER_ON_RESET_RELEASE: the ports behave as at the deassertion of PRST_N, unless PRST_N is still asserted (R59). -/
def execPowerOnResetRelease (s : State) : Host.Outcome State Fault Refusal :=
  .next { s with pins := { s.pins with por := false } }

/-- The Scan Engine at the assertion of PRST_N, before an IDLE engine takes a job (R57, R148). -/
def portResetEngine (e : ScanEngine) : ScanEngine :=
  match e.engine with
  | .reading { disposition := .apply, offPending := false, .. } => { e with engine := .waitingGap }
  | .reading { disposition := .apply, offPending := true, .. } => { e with engine := .off }
  | .reading { disposition := .discard, offPending := false, .. } => { e with engine := .idle }
  | .reading { disposition := .discard, offPending := true, .. } => { e with engine := .off }
  | .waitingGap => { e with starvation := none, forced := false }
  | .off | .idle | .halted => e

/-- A region's life state at the assertion of PRST_N: in DRAINING_WRITES, writes awaited becomes 0 (R115, R124). -/
def portResetLife : Option Life → Option Life
  | some (.signing (.drainingWrites _)) => some (.signing (.drainingWrites 0))
  | l => l

/-- The Request Tracker at the assertion of PRST_N: every entry and slot is freed, the host response channel and its
alternation are as at reset (R59, R65). -/
def portResetTracker (t : Tracker) : Tracker :=
  { t with txns := [], hostChan := none, localTurn := false, lastSource := .localAnswer, eligible := [] }

/-- The Forwarder at the assertion of PRST_N (R55, R59, R65): an item the memory kept presented is one of those discarded from then
on. -/
def portResetForwarder (f : Forwarder) : Forwarder :=
  { f with queue := [], sending := [], memReq := none, head := none, idleGap := none }

/-- Everything but the Commit Unit at the assertion of PRST_N (R59, R65, R105, R106, R124, R148): the discarded traffic and the
engine first, and an engine left IDLE takes its head; then the regions that were draining writes pass to QUEUED (R116). -/
def portResetBlocks (s : State) : State :=
  finishWriteDrains (settle { s with
    pins := { s.pins with prst := true }
    tracker := portResetTracker s.tracker
    fwd := portResetForwarder s.fwd
    dirty := { s.dirty with inFlight := 0 }
    sig := { s.sig with life := Tab.ofFn fun i => portResetLife (s.sig.life.get i) }
    scan := portResetEngine s.scan })

/-- A draining commit ends ABORTED with reason PORT_RESET (R35). -/
def portResetCommit (s : State) : State :=
  match s.commit.draining with
  | some d => cutDrain s d .abortedByPortReset
  | none => s

/-- PORT_RESET_ASSERT: nothing when PRST_N is asserted already, and the pin alone while POR_N is asserted. -/
def execPortResetAssert (s : State) : Host.Outcome State Fault Refusal :=
  if s.pins.prst then .next s
  else if s.pins.por then .next { s with pins := { s.pins with prst := true } }
  else .next (portResetCommit (portResetBlocks s))

/-- An engine in WAITING_GAP whose next chunk is not withheld starts its starvation timer (R138, R148). -/
def resumeStarvation (s : State) : State :=
  if s.scan.engine == .waitingGap then startStarvation s else s

/-- PORT_RESET_DEASSERT: nothing when PRST_N is not asserted, and the pin alone while POR_N is asserted (R59, R148). -/
def execPortResetDeassert (s : State) : Host.Outcome State Fault Refusal :=
  if !s.pins.prst then .next s
  else if s.pins.por then .next { s with pins := { s.pins with prst := false } }
  else .next (resumeStarvation { s with pins := { s.pins with prst := false } })

end Sys2Proof.Machine
end

