-- ==== Sys2Proof/Machine/ScanCommands.lean ====
section
/-! DEFINITION. SCAN_CONTROL's five actions and SCAN_STATUS (R142 to R145, R150, R151). -/

namespace Sys2Proof.Machine

/-- The OK result of SCAN_CONTROL (R150): engine state, off pending, round mode. -/
def scanControlResult (s : State) : List Byte :=
  [s.scan.engine.code, yesNo s.scan.engine.offPending, yesNo s.scan.roundMode]

/-- An accepted action, answered OK (R150). -/
def scanAction (t : State) : State × Response := (t, okResponse (scanControlResult t))

/-- The engine replaced. -/
def setEngine (s : State) (e : EngineState) : State := { s with scan := { s.scan with engine := e } }

/-- ENABLE's effect (R144). -/
def enableEngine (s : State) : State :=
  match s.scan.engine, s.scan.context with
  | .off, none => settle (setEngine s .idle)
  | .off, some _ => if s.scan.streak < 3 then enterWaiting s else setEngine s .halted
  | .reading r, _ => setEngine s (.reading { r with offPending := false })
  | .idle, _ | .waitingGap, _ | .halted, _ => s

/-- ENABLE. -/
def execEnable (s : State) : Host.Outcome State Fault Refusal := takeCommand 1 s fun t => scanAction (enableEngine t)

/-- DISABLE's effect (R143). -/
def disableEngine (s : State) : State :=
  match s.scan.engine with
  | .off => s
  | .idle => refreshRound (setEngine s .off)
  | .waitingGap => { s with scan := { s.scan with engine := .off, starvation := none, forced := false } }
  | .reading r => setEngine s (.reading { r with offPending := true })
  | .halted => setEngine s .off

/-- DISABLE. -/
def execDisable (s : State) : Host.Outcome State Fault Refusal := takeCommand 1 s fun t => scanAction (disableEngine t)

/-- Round mode set, and the round timer started or stopped (R132, R145). -/
def setRoundMode (s : State) (on : Bool) : State := refreshRound { s with scan := { s.scan with roundMode := on } }

/-- ROUNDS_ON. -/
def execRoundsOn (s : State) : Host.Outcome State Fault Refusal := takeCommand 1 s fun t => scanAction (setRoundMode t true)

/-- ROUNDS_OFF. -/
def execRoundsOff (s : State) : Host.Outcome State Fault Refusal := takeCommand 1 s fun t => scanAction (setRoundMode t false)

/-- RESUME (R142): refused with STATE unless the engine is HALTED. -/
def doResume (s : State) : State × Response :=
  match s.scan.engine with
  | .halted => scanAction (enterWaiting { s with scan := { s.scan with streak := 0 } })
  | .off | .idle | .waitingGap | .reading _ => (s, refusedResponse .state 3 [])

/-- RESUME. -/
def execResume (s : State) : Host.Outcome State Fault Refusal := takeCommand 1 s doResume

/-- SCAN_STATUS's status bits (R151, section 10.6). In READING, bit 5 speaks of the outstanding chunk (DEDUCED, log entry 25). -/
def scanStatusBits (s : State) : Byte :=
  bitByte [s.scan.engine.offPending, s.scan.engine.discarding, s.scan.roundMode, s.scan.roundTimer.isSome, s.scan.forced,
    withheld s, s.scan.context.isSome]

/-- The context's bytes in SCAN_STATUS (R151): region, job kind, cursor, partial signature, chunks done (saturated); zeros
when there is none. -/
def contextBytes : Option JobContext → List Byte
  | some c =>
    [BitVec.ofNat 8 c.region.val, jobKindCode (some c.kind)] ++ leBytes 4 c.cursor ++ leBytes 4 c.crc.toNat ++
    leBytes 4 (min c.chunksDone.toNat 0xFFFFFFFF)
  | none => List.replicate 14 0

/-- The sixteen queue slots of SCAN_STATUS, the head first (R151). -/
def queueBytes (q : ScanQueue) : List Byte :=
  padTo 32 (q.jobs.flatMap fun j => [BitVec.ofNat 8 j.1.val, jobKindCode (some j.2)])

/-- SCAN_STATUS's result (R151). -/
def scanStatusResult (s : State) : List Byte :=
  [s.scan.engine.code, scanStatusBits s] ++ contextBytes s.scan.context ++
  [BitVec.ofNat 8 s.scan.streak, BitVec.ofNat 8 s.scan.queue.jobs.length] ++ queueBytes s.scan.queue ++
  leBytes 2 s.scan.roundCount.toNat ++ leBytes 2 s.scan.forcedCount.toNat

/-- SCAN_STATUS. -/
def execScanStatus (s : State) : Host.Outcome State Fault Refusal :=
  takeCommand 0 s fun t => (t, okResponse (scanStatusResult t))

end Sys2Proof.Machine
end

