-- ==== Sys2Proof/Machine/Dispatch.lean ====
section
/-! DEFINITION. One arm per row of the opcode table: what a command does to everything but the queue of waiting commands. -/

namespace Sys2Proof.Machine

/-- The meaning of a command. -/
def exec (i : Instr) (s : State) : Host.Outcome State Fault Refusal :=
  match i with
  | .powerOnReset => Sys2Proof.Machine.execPowerOnReset s
  | .powerOnResetRelease => Sys2Proof.Machine.execPowerOnResetRelease s
  | .portResetAssert => Sys2Proof.Machine.execPortResetAssert s
  | .portResetDeassert => Sys2Proof.Machine.execPortResetDeassert s
  | .hostRequestAccept req => Sys2Proof.Machine.execHostRequestAccept req s
  | .hostWriteBeat offer => Sys2Proof.Machine.execHostWriteBeat offer s
  | .hostClaimGrant => Sys2Proof.Machine.execHostClaimGrant s
  | .scanClaimGrant => Sys2Proof.Machine.execScanClaimGrant s
  | .forcedClaimGrant => Sys2Proof.Machine.execForcedClaimGrant s
  | .memoryRequestTaken => Sys2Proof.Machine.execMemoryRequestTaken s
  | .memoryWriteBeatTaken => Sys2Proof.Machine.execMemoryWriteBeatTaken s
  | .idleGapMet => Sys2Proof.Machine.execIdleGapMet s
  | .memoryResponseItemPass offer => Sys2Proof.Machine.execMemoryResponseItemPass offer s
  | .memoryResponseDiscard item => Sys2Proof.Machine.execMemoryResponseDiscard item s
  | .localAnswerSend dir id head => Sys2Proof.Machine.execLocalAnswerSend dir id head s
  | .localAnswerItemTaken => Sys2Proof.Machine.execLocalAnswerItemTaken s
  | .chunkReadReturn data status => Sys2Proof.Machine.execChunkReadReturn data status s
  | .starvationTimerExpiry => Sys2Proof.Machine.execStarvationTimerExpiry s
  | .roundTimerExpiry => Sys2Proof.Machine.execRoundTimerExpiry s
  | .drainTimerExpiry => Sys2Proof.Machine.execDrainTimerExpiry s
  | .drainComplete => Sys2Proof.Machine.execDrainComplete s
  | .writeDrainDone => Sys2Proof.Machine.execWriteDrainDone s
  | .stageEntry index entry => Sys2Proof.Machine.execStageEntry index entry s
  | .readEntry index selector => Sys2Proof.Machine.execReadEntry index selector s
  | .discard mask => Sys2Proof.Machine.execDiscard mask s
  | .commit => Sys2Proof.Machine.execCommit s
  | .abortCommit => Sys2Proof.Machine.execAbortCommit s
  | .commitStatus => Sys2Proof.Machine.execCommitStatus s
  | .openRegion index => Sys2Proof.Machine.execOpenRegion index s
  | .closeRegion index => Sys2Proof.Machine.execCloseRegion index s
  | .resign index => Sys2Proof.Machine.execResign index s
  | .verify index => Sys2Proof.Machine.execVerify index s
  | .regionStatus index => Sys2Proof.Machine.execRegionStatus index s
  | .enable => Sys2Proof.Machine.execEnable s
  | .disable => Sys2Proof.Machine.execDisable s
  | .roundsOn => Sys2Proof.Machine.execRoundsOn s
  | .roundsOff => Sys2Proof.Machine.execRoundsOff s
  | .resume => Sys2Proof.Machine.execResume s
  | .scanStatus => Sys2Proof.Machine.execScanStatus s
  | .readEvent => Sys2Proof.Machine.execReadEvent s
  | .eventStatus => Sys2Proof.Machine.execEventStatus s
  | .clearFlags mask => Sys2Proof.Machine.execClearFlags mask s
  | .setAlertMask mask => Sys2Proof.Machine.execSetAlertMask mask s
  | .takeDirty count => Sys2Proof.Machine.execTakeDirty count s
  | .clearDirty index => Sys2Proof.Machine.execClearDirty index s
  | .dirtyStatus => Sys2Proof.Machine.execDirtyStatus s
  | .setDirtyThreshold threshold => Sys2Proof.Machine.execSetDirtyThreshold threshold s
  | .portStatus => Sys2Proof.Machine.execPortStatus s
  | .softClear => Sys2Proof.Machine.execSoftClear s
  | .identify => Sys2Proof.Machine.execIdentify s
  | .setTiming clockMhz idleHold starvation drain round => Sys2Proof.Machine.execSetTiming clockMhz idleHold starvation drain round s
  | .fetch mosi => Sys2Proof.Machine.execFetch mosi s
  | .commandFrameRejected frame partByte => Sys2Proof.Machine.execCommandFrameRejected frame partByte s
  | .emptyFrame => Sys2Proof.Machine.execEmptyFrame s
  | .chunkReadBeat data status => Sys2Proof.Machine.execChunkReadBeat data status s

end Sys2Proof.Machine
end

