-- ==== Sys2Proof/Safety.lean ====
section
/-! DEFINITION. What a sound state of the monitor is, and the words the statements are made in: the properties of each block
that every step keeps, and how a command's answer and a step's outcome are read off. -/

namespace Sys2Proof.Machine

/-! ## Outcomes and answers -/

/-- A command completes in a state: its meaning answers a next state. -/
def Completes (c : Instr) (s : State) : Prop := ∃ t, exec c s = .next t

/-- The state a supervisor's command leaves that has the response given as pending response, the receiver idle and 0xFF on MISO
in each of the frame's bytes: a code byte, the arguments and a CRC byte (R168, R171). -/
def answered (s : State) (args : Nat) (r : Response) : State :=
  { s with mgmt := { s.mgmt with receiver := .idle, response := some r, miso := List.replicate (args + 2) 0xFF } }

/-- Neither reset pin is asserted. -/
abbrev PinsReleased (s : State) : Prop := s.pins.por = false ∧ s.pins.prst = false

/-! ## Region Table and commits -/

/-- The Pending Set holds exactly the indices at which the two copies differ (R17). -/
def PendingAgrees (t : RegionTable) : Prop := ∀ i, t.pendingSet.get i = decide (t.staged.get i ≠ t.active.get i)

/-- No two entries of a table overlap (R22). -/
def NoOverlap (table : Tab Entry) : Prop := ∀ i j, i ≠ j → overlaps (table.get i) (table.get j) = false

/-- The active copy is free of overlap, and so is the table that the end of a draining commit would leave (R20, R25). -/
def TableLegal (s : State) : Prop :=
  NoOverlap s.table.active ∧ ∀ d, s.commit.draining = some d → NoOverlap (switchedTable s.table d.quiesce)

/-! ## Lists, logs and settings -/

/-- The Dirty List holds at most 64 entries and never the same block twice, and the threshold is 1 to 64 (R93). -/
def DirtyLegal (d : DirtyTracker) : Prop :=
  d.list.Nodup ∧ d.list.length ≤ Config.dirtyEntries ∧ 1 ≤ d.threshold ∧ d.threshold ≤ 64

/-- The log holds at most 32 records, whose seq values increase by one up to next seq, and whose repeats are 1 or more
(R153, R155, R158). -/
def LogLegal (u : EventUnit) : Prop :=
  u.log.length ≤ Config.logRecords ∧
  (u.log.map Record.seq = (List.range u.log.length).map fun k => u.nextSeq - BitVec.ofNat 16 (u.log.length - k)) ∧
  ∀ r ∈ u.log, 1 ≤ r.repeats.toNat

/-- The timing settings lie in their ranges (R167). -/
def TimingLegal (t : Timing) : Prop :=
  50 ≤ t.clockMhz.toNat ∧ t.clockMhz.toNat ≤ 400 ∧ 1 ≤ t.idleHold.toNat ∧ t.idleHold.toNat ≤ 1023 ∧
  100 ≤ t.starvation.toNat ∧ 1 ≤ t.drain.toNat

/-! ## The Transaction Table and the Write Buffer -/

/-- Whether a write holds a slot in the state its phase asks for, and no other transaction holds one (section 4.2): FILLING
while it collects, FULL while it is held or waits to be forwarded, SENDING or none when forwarded, none when answered. -/
def Txn.slotLegal (x : Txn) : Bool :=
  match x.phase, x.slot with
  | .collecting, some { state := .filling, beats := beats } => x.req.dir == .write && decide (beats.length < x.req.beats)
  | .held _, some { state := .full, .. } => x.req.dir == .write
  | .held _, none => x.req.dir == .read
  | .waitingForward, some { state := .full, .. } => x.req.dir == .write
  | .waitingForward, none => x.req.dir == .read
  | .forwarded, some { state := .sending n, .. } => x.req.dir == .write && decide (n < x.req.beats)
  | .forwarded, none => true
  | .localAnswer _ _, none => true
  | .returning _ _, none => true
  | _, _ => false

/-- The Transaction Table holds at most 16 entries, under distinct tags, of which at most 4 hold a slot; every request has 1
to 16 beats and every slot fits its transaction's phase (R42, R44, R45, R61). -/
def TrackerLegal (t : Tracker) : Prop :=
  t.txns.length ≤ Config.txnEntries ∧ slotsUsed t.txns ≤ Config.writeSlots ∧ (t.txns.map Txn.tag).Nodup ∧
  ∀ x ∈ t.txns, x.tag < t.nextTag ∧ x.req.beatsLegal = true ∧ x.slotLegal = true

/-! ## Streams, the memory port and the host response channel -/

/-- How far a transaction has come: 0 while its write collects, 1 at its verdict time or held there, 2 once its verdict is reached
(R44). -/
def Txn.progress (x : Txn) : Nat :=
  match x.phase with
  | .collecting => 0
  | .judging | .held _ => 1
  | .waitingForward | .forwarded | .localAnswer _ _ | .returning _ _ => 2

/-- Whether a transaction's slot is SENDING (R64). -/
def Txn.isSending (x : Txn) : Bool :=
  match x.slot with
  | some { state := .sending _, .. } => true
  | some { state := .filling, .. } | some { state := .full, .. } | none => false

/-- Within a stream, verdicts, forwardings and requests come in acceptance order, and a transaction is held only while a commit
drains (R28, R29, R32, R47, R54). -/
def StreamsLegal (s : State) : Prop :=
  s.tracker.txns.Pairwise (fun x y => x.tag < y.tag) ∧
  s.tracker.txns.Pairwise (fun x y => sameStream x y = true →
    y.progress ≤ x.progress ∧ (y.phase = .forwarded → x.phase ≠ .waitingForward)) ∧
  s.fwd.queue.Pairwise (fun a b => ∀ x ∈ s.tracker.txns, ∀ y ∈ s.tracker.txns, x.tag = a → y.tag = b →
    sameStream x y = true → a < b) ∧
  (s.commit.draining = none → ∀ x ∈ s.tracker.txns, x.isHeld = false)

/-- The Forwarder agrees with the Transaction Table: the forwarding queue holds each transaction in WAITING_FORWARD once and no
other (R54), the sending list each write whose slot is SENDING (R64); a host request presented is that of the queue's head (R56);
and the idle-gap count runs only while the queue is empty and no transaction is FORWARDED, and not beyond its hold (R55). -/
def ForwarderLegal (s : State) : Prop :=
  s.fwd.queue.Nodup ∧
  (∀ tag ∈ s.fwd.queue, ∃ x ∈ s.tracker.txns, x.tag = tag ∧ x.phase = .waitingForward) ∧
  (∀ x ∈ s.tracker.txns, x.phase = .waitingForward → x.tag ∈ s.fwd.queue) ∧
  s.fwd.sending.Nodup ∧
  (∀ tag ∈ s.fwd.sending, ∃ x ∈ s.tracker.txns, x.tag = tag ∧ x.isSending = true) ∧
  (∀ x ∈ s.tracker.txns, x.isSending = true → x.tag ∈ s.fwd.sending) ∧
  (∀ tag, s.fwd.memReq = some (.host tag) → s.fwd.queue.head? = some tag) ∧
  (∀ g, s.fwd.idleGap = some g →
    s.fwd.queue = [] ∧ (∀ x ∈ s.tracker.txns, x.phase ≠ .forwarded) ∧ g.count ≤ g.hold)

/-- The counts of writes in flight agree with the Transaction Table: tracked writes in flight (R106), and the writes awaited of each
region in DRAINING_WRITES, which are those in flight into its range and never 0 (R66, R113, R115, R116). -/
def WritesCounted (s : State) : Prop :=
  s.dirty.inFlight = s.tracker.txns.countP (fun x => x.inFlight && x.tracked) ∧
  ∀ i n, s.sig.life.get i = some (.signing (.drainingWrites n)) →
    0 < n ∧ n = writesInto s.tracker.txns (s.table.active.get i)

/-- The host response channel and the waiting answers agree with the Transaction Table. The eligible local answers are the
transactions in LOCAL_ANSWER that are next in their streams, each once (R51). The channel's holder is next in its stream and is a
memory response or a local answer being sent, as its last use says (R52, R53). A response that has begun, and not ended, has the
channel (R50). A channel given to a local answer is free and an answer is eligible; a free channel that is given to none has no
candidate (R53). An item kept presented has a forwarded transaction of its stream (R58), and with a reset pin asserted there is
neither (R59). -/
def ChannelLegal (s : State) : Prop :=
  s.tracker.eligible.flatten.Nodup ∧
  (∀ group ∈ s.tracker.eligible, group ≠ []) ∧
  (∀ tag ∈ s.tracker.eligible.flatten,
    ∃ x ∈ s.tracker.txns, x.tag = tag ∧ x.isLocal = true ∧ nextInStream s.tracker.txns x = true) ∧
  (∀ x ∈ s.tracker.txns, x.isLocal = true → nextInStream s.tracker.txns x = true → x.tag ∈ s.tracker.eligible.flatten) ∧
  (∀ tag, s.tracker.hostChan = some tag → ∃ x ∈ s.tracker.txns, x.tag = tag ∧ nextInStream s.tracker.txns x = true ∧
    (x.phase = .forwarded ∧ s.tracker.lastSource = .memory ∨
      (∃ verdict status, x.phase = .returning verdict status) ∧ s.tracker.lastSource = .localAnswer)) ∧
  (∀ x ∈ s.tracker.txns, x.delivered < responseItems x.req ∧
    (0 < x.delivered ∨ (∃ verdict status, x.phase = .returning verdict status) → s.tracker.hostChan = some x.tag)) ∧
  (s.tracker.localTurn = true → s.tracker.hostChan = none ∧ s.tracker.eligible ≠ []) ∧
  (s.tracker.hostChan = none → s.tracker.localTurn = false → memoryCandidate s = none ∧ s.tracker.eligible = []) ∧
  (∀ item, s.fwd.head = some item → itemOwner s item ≠ none) ∧
  (s.pins.por = true ∨ s.pins.prst = true → s.tracker.txns = [] ∧ s.fwd.head = none)

/-! ## Life states, jobs and the engine -/

/-- An index has a life state exactly while its active entry is an enabled CHECKED entry (R109). -/
def LifeLegal (s : State) : Prop := ∀ i, (s.sig.life.get i).isSome = (s.table.active.get i).isChecked

/-- Whether an engine state goes with a context or its absence and with an error streak (R128). -/
def EngineState.fits (e : EngineState) (context : Bool) (streak : Nat) : Bool :=
  match e with
  | .off => if context then decide (streak ≤ 3) else decide (streak = 0)
  | .idle => !context && decide (streak = 0)
  | .waitingGap => context && decide (streak < 3)
  | .reading r =>
    (if r.disposition = .apply then context && decide (streak < 3) else !context && decide (streak = 0)) &&
    decide (r.beats.length < 4)
  | .halted => context && decide (streak = 3)

/-- The engine's parts fit one another (R128, R132, R134, R138, R139): an IDLE engine has an empty queue; the starvation timer
and a forced claim are those of an engine in WAITING_GAP; the round timer runs exactly under its three conditions. -/
def EngineLegal (e : ScanEngine) : Prop :=
  e.engine.fits e.context.isSome e.streak = true ∧
  (e.engine = .idle → e.queue = ScanQueue.empty) ∧
  (e.starvation.isSome = true → e.engine = .waitingGap) ∧
  (e.forced = true → e.engine = .waitingGap) ∧
  (e.roundTimer.isSome = roundsDue e)

/-- Whether a life state holds a reference: INTACT or CORRUPT. -/
def signed (l : Option Life) : Bool := (referenceOf l).isSome

/-- Whether the active job fits the life state of its region (R110, R120): a SIGN job's is SIGNING in ACTIVE, a VERIFY job's is
INTACT or CORRUPT. -/
def JobContext.fits (c : JobContext) (l : Option Life) : Bool :=
  match c.kind with
  | .sign => l == some (.signing .active)
  | .verifyRound | .verifyDemand => signed l

/-- Queued and active jobs and life states fit one another (R110, R129): no region has two jobs, SIGN jobs are queued for
exactly the regions in SIGNING, QUEUED, and VERIFY jobs only for INTACT and CORRUPT regions, and a region in SIGNING, ACTIVE is
that of the active job. -/
def JobsLegal (s : State) : Prop :=
  (s.scan.queue.sign ++ s.scan.queue.demand ++ s.scan.queue.round).Nodup ∧
  (∀ i, (i ∈ s.scan.queue.sign ↔ s.sig.life.get i = some (.signing .queued))) ∧
  (∀ i ∈ s.scan.queue.demand ++ s.scan.queue.round, signed (s.sig.life.get i) = true) ∧
  (∀ c, s.scan.context = some c →
    c.fits (s.sig.life.get c.region) = true ∧ c.region ∉ s.scan.queue.demand ++ s.scan.queue.round) ∧
  (∀ i, s.sig.life.get i = some (.signing .active) → ∃ c, s.scan.context = some c ∧ c.region = i ∧ c.kind = .sign)

/-! ## Bytes and regions -/

/-- A byte address lies in a request's burst (R21). -/
def InBurst (r : Request) (a : Nat) : Prop := burstFirst r ≤ a ∧ a ≤ burstLast r

/-- A byte address lies in a write's burst and its strobe is set (R67). -/
abbrev StrobedByte (r : Request) (strobes : List (BitVec 8)) (a : Nat) : Prop :=
  burstFirst r ≤ a ∧ a < burstFirst r + 8 * r.beats ∧ strobeAt strobes (a - burstFirst r) = true

/-- A byte address lies in an enabled GUARD region, or in an enabled CHECKED region that is not OPEN (R69, R70). -/
def ShieldedByte (s : State) (a : Nat) : Prop :=
  ∃ i, regionAt s.table.active a = some i ∧
    ((s.table.active.get i).part = .guard ∨
      ((∃ fc, (s.table.active.get i).part = .checked fc) ∧ s.sig.life.get i ≠ some .opened))

/-- A request's burst has a byte in the region (R20). -/
def MeetsRegion (s : State) (r : Request) (i : Ix) : Prop := ∃ a, InBurst r a ∧ regionAt s.table.active a = some i

/-- A region refuses reads: it is CHECKED with fail closed yes, and CORRUPT (R49). -/
def RefusesReads (s : State) (i : Ix) : Prop :=
  (s.table.active.get i).part = .checked true ∧ ∃ ref, s.sig.life.get i = some (.corrupt ref)

/-! ## Places in the Transaction Table -/

/-- An entry in use stands in the Transaction Table between the entries accepted before it and after it, under its own tag. -/
abbrev Stands (s : State) (before : List Txn) (x : Txn) (after : List Txn) : Prop :=
  s.tracker.txns = before ++ x :: after ∧ (s.tracker.txns.map Txn.tag).Nodup

/-- No entry of a list belongs to a transaction's stream. -/
abbrev NoneOfStream (txns : List Txn) (x : Txn) : Prop := ∀ y ∈ txns, ¬(y.req.dir = x.req.dir ∧ y.req.id = x.req.id)

/-- The entry of an accepted request, in a phase (R45). -/
def entryOfRequest (tag : Nat) (r : Request) (phase : Phase) : Txn :=
  { tag := tag, req := r, phase := phase, slot := none, strobes := [], tracked := false, delivered := 0, errSeen := false
    between := [] }

/-! ## The engine and its timers -/

/-- The starvation timer at its start (R138): none while the next chunk is withheld or PRST_N is asserted. -/
def startedStarvation (s : State) : Option Timer :=
  if withheld s || s.pins.prst then none
  else
    some { limit := s.mgmt.timing.starvation.toNat * s.mgmt.timing.clockMhz.toNat, elapsed := 0
           mhz := s.mgmt.timing.clockMhz.toNat }

/-- The round timer at its start (R132, R175): the round interval in force, in cycles. -/
def startedRound (s : State) : Timer :=
  { limit := s.mgmt.timing.round.toNat * 1000 * s.mgmt.timing.clockMhz.toNat, elapsed := 0
    mhz := s.mgmt.timing.clockMhz.toNat }

/-- The address of the next chunk of a job (R135). -/
def chunkAddr (s : State) (c : JobContext) : Addr :=
  BitVec.ofNat 32 (256 * (s.table.active.get c.region).base.toNat + c.cursor)

end Sys2Proof.Machine
end

