-- ==== Sys2Proof/Certificates/Slice0/Obligations.lean ====
section
/-! DEFINITION. The statements for the provers, each with the rules of the spec it rests on. -/

open Sys2Proof Sys2Proof.Machine

/-! ## Steps and outcomes -/

/-- A step takes the command at the front of the queue and is exec of it with the queue's rest. -/
def Obligations.StepTakesFront : Prop :=
  ∀ (c : Instr) (rest : List Instr) (s : State), step { s with pending := c :: rest } = exec c { s with pending := rest }

/-- On an empty queue a step is one cycle of CLK (the model's choice, log entry 2): none while POR_N is asserted; otherwise the
drains that are due end, the timers that have run out expire, the counts and timers advance, and the arbiter grants. Where
nothing is due, the cycle raises the idle-gap count by one up to the idle hold taken at its start, and does no more (R55). -/
def Obligations.EmptyQueueIsOneCycle : Prop :=
  ∀ s : State, s.pending = [] →
    (s.pins.por = true → step s = .next s) ∧
    (s.pins.por = false → step s = .next (grantClaims (advance (expireTimers (endDrains s))))) ∧
    (PinsReleased s → s.commit.draining = none → s.fwd.queue = [] → s.fwd.memReq = none →
      (∀ x ∈ s.tracker.txns, x.phase ≠ .forwarded) → (∀ i, s.sig.life.get i ≠ some (.signing (.drainingWrites 0))) →
      s.scan.engine = .off → s.scan.starvation = none → s.scan.roundTimer = none → s.scan.forced = false →
      step s = .next { s with fwd := { s.fwd with idleGap :=
        match s.fwd.idleGap with
        | some g => some { hold := g.hold, count := min g.hold (g.count + 1) }
        | none => some { hold := s.mgmt.timing.idleHold.toNat, count := min s.mgmt.timing.idleHold.toNat 1 } } })

/-- Every well-formed command completes in every state, and leaves the waiting commands as they are. All of this is the model's own:
a step or a transfer whose conditions do not hold leaves the state as it was (log entry 1); a request of 0 or more than 16 beats,
which the host port does not carry (R42), is a fault, and the only one (DESIGN CHOICE, log entry 17); the queue of waiting commands
is the model's (DESIGN CHOICE, log entry 18), and POWER_ON_RESET keeps it (DESIGN CHOICE, log entry 9). -/
def Obligations.WellFormedCommandsComplete : Prop :=
  ∀ s : State,
    (∀ c : Instr, c.wellFormed = true → Completes c s) ∧
    (∀ (c : Instr) (f : Fault), exec c s = .fault f ↔ ∃ req, c = .hostRequestAccept req ∧ req.beatsLegal = false) ∧
    (∀ (c : Instr) (r : Refusal), exec c s ≠ .refused r) ∧
    (∀ (c : Instr) (t : State), exec c s = .next t → t.pending = s.pending)

/-- While POR_N is asserted nothing happens but changes of the two reset pins: no transfer, no step of the monitor, no frame
(R59, R167). That items presented then are not counted is the model's reading (DEDUCED, log entry 8), and that PRST_N then changes
its pin alone is its choice (DESIGN CHOICE, log entry 9). While PRST_N is asserted the two ports carry nothing to or from the host,
and no claim is granted (R45, R46, R55, R56, R59, R65). -/
def Obligations.QuietDuringResets : Prop :=
  (∀ (c : Instr) (s t : State), s.pins.por = true → exec c s = .next t →
    c ≠ .powerOnReset → c ≠ .powerOnResetRelease → t = { s with pins := { s.pins with prst := t.pins.prst } }) ∧
  (∀ s : State, s.pins.prst = true →
    (∀ req, req.beatsLegal = true → exec (.hostRequestAccept req) s = .next s) ∧
    (∀ beat between, exec (.hostWriteBeat ⟨beat, between⟩) s = .next s) ∧
    exec .hostClaimGrant s = .next s ∧ exec .scanClaimGrant s = .next s ∧ exec .forcedClaimGrant s = .next s ∧
    exec .memoryRequestTaken s = .next s ∧ exec .memoryWriteBeatTaken s = .next s ∧ exec .idleGapMet s = .next s ∧
    (∀ dir id, exec (.localAnswerSend dir id none) s = .next s) ∧ exec .localAnswerItemTaken s = .next s)

/-! ## Reset -/

/-- POR_N asserted puts every piece of state at its power-on value, whatever it was; its release changes the pin alone (R2, R59,
R167, section 3.2 of the scope). Four points are the model's own: the level of PRST_N and the waiting commands survive (DESIGN
CHOICE, log entry 9), the source that had the host response channel last is a local answer (DEDUCED from R53's first choice, log
entry 7), and the count of draws of the free value goes on (DESIGN CHOICE, log entry 26). The power-on values the spec states stand block by block (R2, R23, R44, R48, R54, R55, R58, R74, R92, R93, R109, R127,
R153, R167). -/
def Obligations.PowerOnReset : Prop :=
  (∀ s : State,
    exec .powerOnReset s = .next { State.reset with
      pending := s.pending, pins := { por := true, prst := s.pins.prst }
      scan := { State.reset.scan with ties := s.scan.ties } } ∧
    exec .powerOnResetRelease s = .next { s with pins := { s.pins with por := false } }) ∧
  let s := State.reset
  (∀ i, s.table.staged.get i =
      { enabled := false, base := 0, size := 1, refusal := .error, quiesce := false, part := .guard } ∧
    s.table.active.get i = s.table.staged.get i ∧ s.table.pendingSet.get i = false ∧
    s.commit.switched.get i = false ∧ s.commit.leftPending.get i = false ∧ s.dirty.overflow.get i = false ∧
    s.sig.life.get i = none ∧ s.sig.lastResult.get i = .none ∧ s.sig.verifyCount.get i = 0 ∧
    s.policy.refusals.get i = 0 ∧ s.policy.windows.get i = 0) ∧
  s.commit.draining = none ∧ s.commit.outcome = .none ∧
  s.tracker.txns = [] ∧ s.tracker.hostChan = none ∧ s.tracker.localTurn = false ∧ s.tracker.eligible = [] ∧
  s.tracker.malformed = 0 ∧
  s.fwd.queue = [] ∧ s.fwd.sending = [] ∧ s.fwd.memReq = none ∧ s.fwd.head = none ∧ s.fwd.idleGap = none ∧
  s.fwd.memErrors = 0 ∧
  s.dirty.list = [] ∧ s.dirty.threshold = 48 ∧ s.dirty.inFlight = 0 ∧
  s.scan.engine = .off ∧ s.scan.context = none ∧ s.scan.roundMode = false ∧ s.scan.queue.jobs = [] ∧ s.scan.streak = 0 ∧
  s.scan.starvation = none ∧ s.scan.roundTimer = none ∧ s.scan.forced = false ∧ s.scan.roundCount = 0 ∧
  s.scan.forcedCount = 0 ∧
  s.events.log = [] ∧ s.events.nextSeq = 0 ∧ s.events.dropped = 0 ∧ s.events.flags.byte = 0 ∧ s.events.mask.byte = 0x3F ∧
  alertLow s = false ∧
  s.mgmt.receiver = .idle ∧ s.mgmt.response = none ∧
  s.mgmt.timing = { clockMhz := 100, idleHold := 64, starvation := 2000, drain := 100, round := 1000 }

/-- The state after power-on reset has every property that the statements below say every step keeps. -/
def Obligations.ResetIsLegal : Prop :=
  PendingAgrees State.reset.table ∧ TableLegal State.reset ∧ DirtyLegal State.reset.dirty ∧ LogLegal State.reset.events ∧
  TimingLegal State.reset.mgmt.timing ∧ TrackerLegal State.reset.tracker ∧ LifeLegal State.reset ∧
  EngineLegal State.reset.scan ∧ JobsLegal State.reset ∧ StreamsLegal State.reset ∧ ForwarderLegal State.reset ∧
  WritesCounted State.reset ∧ ChannelLegal State.reset

/-- The two edges of PRST_N. Its assertion (R35, R57, R59, R65, R105, R106, R124, R148): every transaction, slot and presented item
is discarded and the two ports are as at reset but for their counters; tracked writes and writes awaited become 0, and the regions
that were draining writes pass to QUEUED; an outstanding chunk read is discarded, its job kept, and the engine is OFF, in WAITING_GAP
or IDLE, where it takes the head of its queue; the starvation timer and a forced claim are gone; a draining commit ends ABORTED with
its event; everything else is kept. Its deassertion (R59, R138, R148): an engine in WAITING_GAP starts its starvation timer, unless
its next chunk is withheld, and nothing else changes but the pin. The model's own: the source that had the host response channel
last is a local answer (DEDUCED, log entry 7), and an engine left IDLE takes its head before the drained regions' SIGN jobs join
(DEDUCED, log entry 11). -/
def Obligations.PortResets : Prop :=
  (∀ s : State, PinsReleased s → EngineLegal s.scan →
    let cleared : State := { s with
      pins := { por := false, prst := true }
      tracker := { s.tracker with
        txns := [], hostChan := none, localTurn := false, lastSource := .localAnswer, eligible := [] }
      fwd := { s.fwd with queue := [], sending := [], memReq := none, head := none, idleGap := none }
      dirty := { s.dirty with inFlight := 0 }
      sig := { s.sig with life := Tab.ofFn fun i =>
        match s.sig.life.get i with
        | some (.signing (.drainingWrites _)) => some (.signing (.drainingWrites 0))
        | l => l }
      scan := { s.scan with
        engine := (match s.scan.engine with
          | .reading r => if r.offPending then .off else if r.disposition = .apply then .waitingGap else .idle
          | e => e)
        starvation := none, forced := false } }
    let u := finishWriteDrains (settle cleared)
    (s.commit.draining = none → exec .portResetAssert s = .next u) ∧
    (∀ d, s.commit.draining = some d → exec .portResetAssert s = .next { u with
      commit := { draining := none, outcome := .abortedByPortReset, switched := d.immediate, leftPending := d.quiesce }
      events := s.events.take (commitEvent .commitAborted d.immediate d.quiesce 2) })) ∧
  (∀ s : State, s.pins.por = false → s.pins.prst = true →
    let t : State := { s with pins := { s.pins with prst := false } }
    (s.scan.engine = .waitingGap →
      exec .portResetDeassert s = .next { t with scan := { s.scan with starvation := startedStarvation t } }) ∧
    (s.scan.engine ≠ .waitingGap → exec .portResetDeassert s = .next t))

/-! ## What every step keeps -/

/-- The Pending Set holds exactly the indices at which the two copies differ, after every step (R17). -/
def Obligations.PendingSetStaysExact : Prop :=
  ∀ s t : State, step s = .next t → PendingAgrees s.table → PendingAgrees t.table

/-- The active copy, and the table the draining commit would leave, stay free of overlap (R20, R22, R25, R36). -/
def Obligations.TablesStayFreeOfOverlap : Prop :=
  ∀ s t : State, step s = .next t → TableLegal s → TableLegal t

/-- The Dirty List stays within 64 entries without a block twice, and the threshold stays 1 to 64 (R93, R96). -/
def Obligations.DirtyListStaysLegal : Prop :=
  ∀ s t : State, step s = .next t → DirtyLegal s.dirty → DirtyLegal t.dirty

/-- The Event Log stays within 32 records, with seq values that rise by one up to next seq, and repeats of at least 1 (R153, R155,
R158). -/
def Obligations.EventLogStaysLegal : Prop :=
  ∀ s t : State, step s = .next t → LogLegal s.events → LogLegal t.events

/-- The timing settings stay in their ranges (R167, R175). -/
def Obligations.TimingStaysInRange : Prop :=
  ∀ s t : State, step s = .next t → TimingLegal s.mgmt.timing → TimingLegal t.mgmt.timing

/-- The Transaction Table stays within 16 entries and the Write Buffer within 4 slots, and every slot fits the phase of its write
(R44, R45, R61, and the states of section 4.2). -/
def Obligations.TransactionsStayLegal : Prop :=
  ∀ s t : State, step s = .next t → TrackerLegal s.tracker → TrackerLegal t.tracker

/-- An index has a life state exactly while its active entry is an enabled CHECKED entry (R109). -/
def Obligations.LifeStatesFollowTheTable : Prop :=
  ∀ s t : State, step s = .next t → LifeLegal s → LifeLegal t

/-- The engine's state, context, streak, timers and forced claim go on fitting one another (R128, R132, R134, R138, R139). -/
def Obligations.EngineStaysLegal : Prop :=
  ∀ s t : State, step s = .next t → EngineLegal s.scan → EngineLegal t.scan

/-- Queued jobs, the active job and the life states go on fitting one another (R110, R116, R129, R131). -/
def Obligations.JobsStayLegal : Prop :=
  ∀ s t : State, step s = .next t → EngineLegal s.scan → LifeLegal s → JobsLegal s → JobsLegal t

/-- Within a stream, verdicts and forwardings stay in acceptance order, nothing is held outside a drain, and the forwarding queue, the
list of writes being sent, the presented host request and the idle-gap count go on agreeing with the Transaction Table (R28, R29,
R32, R47, R54, R55, R56, R64). -/
def Obligations.StreamsStayInOrder : Prop :=
  ∀ s t : State, step s = .next t → TrackerLegal s.tracker → StreamsLegal s → ForwarderLegal s →
    StreamsLegal t ∧ ForwarderLegal t

/-- Tracked writes in flight, and the writes awaited of every region in DRAINING_WRITES, go on being the numbers of such writes in the
Transaction Table (R66, R106, R113, R115); no region stays in DRAINING_WRITES with no write awaited (R116, R124). -/
def Obligations.WritesStayCounted : Prop :=
  ∀ s t : State, step s = .next t → TableLegal s → LifeLegal s → TrackerLegal s.tracker → ForwarderLegal s →
    WritesCounted s → WritesCounted t

/-- The record of eligible local answers stays exact, each of them once (R51); the host response channel stays with a response that is
next in its stream until its last item (R50, R52, R53); and a channel that is free and given to none has no candidate (R53). -/
def Obligations.HostChannelStaysLegal : Prop :=
  ∀ s t : State, step s = .next t → TrackerLegal s.tracker → StreamsLegal s → ForwarderLegal s → ChannelLegal s →
    ChannelLegal t

/-! ## Frames, layouts and checks -/

/-- Every supervisor command is read from the frame that carries it (R169, R170, section 10.6). -/
def Obligations.FrameRoundTrip : Prop :=
  ∀ (c : Instr) (frame : List Byte), encodeFrame c = some frame → judgeFrame frame false = .command c

/-- The sixteen bytes READ_ENTRY reports for an entry describe that entry (R19, section 10.6). For any sixteen bytes, the field checks
of R14 answer the lowest check that fails, and accept the entry with the fields the bytes give when all six pass: 1, every
enumerated field holds a listed value; 2, the size; 3, base plus size; 4 and 5, a WATCH entry's bounds; 6, a TRACK entry's
size. -/
def Obligations.EntryRoundTrip : Prop :=
  (∀ e : Entry, ∃ raw : RawEntry, raw.toList = e.bytes ∧ entryOf raw = some e) ∧
  ∀ raw : RawEntry,
    let kind := raw[0].toNat / 2 % 8
    let mode := raw[0].toNat / 16 % 4
    let option := fun k : Nat => raw[1].toNat / 2 ^ k % 4
    let listed := kind ≤ 3 ∧ mode ≤ 1 ∧ (kind = 2 → option 0 ≤ 2 ∧ option 2 ≤ 1 ∧ option 4 ≤ 1) ∧ (kind = 3 → option 0 ≤ 2)
    (¬listed → fieldChecks raw = .error 1) ∧
    (listed → ∃ e : Entry, entryOf raw = some e ∧
      e.enabled = raw[0].getLsbD 0 ∧ e.quiesce = raw[0].getLsbD 6 ∧ e.part.kindCode = kind ∧ e.refusal.code = mode ∧
      e.base = raw[4] ++ raw[3] ++ raw[2] ∧ e.size = raw[7] ++ raw[6] ++ raw[5] ∧
      (∀ failClosed, e.part = .checked failClosed → failClosed = raw[1].getLsbD 0) ∧
      (∀ w, e.part = .watch w → w.width.code = option 0 ∧ w.action.code = option 2 ∧ w.policy.code = option 4 ∧
        w.low = raw[11] ++ raw[10] ++ raw[9] ++ raw[8] ∧ w.high = raw[15] ++ raw[14] ++ raw[13] ++ raw[12]) ∧
      (∀ g, e.part = .track g → g.code = option 0) ∧
      let sized := 1 ≤ e.size.toNat ∧ e.size.toNat ≤ 1048576
      let placed := e.base.toNat + e.size.toNat ≤ 16777216
      let fits := ∀ w, e.part = .watch w → w.low.toNat < 2 ^ (8 * w.width.bytes) ∧ w.high.toNat < 2 ^ (8 * w.width.bytes)
      let ordered := ∀ w, e.part = .watch w → w.low.toNat ≤ w.high.toNat
      let whole := ∀ g, e.part = .track g → e.size.toNat * 256 % g.bytes = 0
      (¬sized → fieldChecks raw = .error 2) ∧ (sized → ¬placed → fieldChecks raw = .error 3) ∧
      (sized → placed → ¬fits → fieldChecks raw = .error 4) ∧
      (sized → placed → fits → ¬ordered → fieldChecks raw = .error 5) ∧
      (sized → placed → fits → ordered → ¬whole → fieldChecks raw = .error 6) ∧
      (sized → placed → fits → ordered → whole → fieldChecks raw = .ok e))

/-! ## The host port -/

/-- HOST_REQUEST_ACCEPT of a write (R42, R45, R62): it joins the table as the youngest entry, collecting, its slot FILLING with no
beat; a request that finds no free entry, or a write that finds no free slot, stays presented. HOST_WRITE_BEAT before the last beat
(R46, R62): the beat goes to the oldest write still collecting, at the position after those it has; with no write collecting it is
not taken. -/
def Obligations.RequestsAndBeatsCollected : Prop :=
  ∀ s : State, PinsReleased s →
    (∀ r : Request, r.beatsLegal = true →
      (s.tracker.txns.length < 16 → slotsUsed s.tracker.txns < 4 → r.dir = .write →
        exec (.hostRequestAccept r) s = .next { s with tracker := { s.tracker with
          txns := s.tracker.txns ++
            [{ entryOfRequest s.tracker.nextTag r .collecting with slot := some { state := .filling, beats := [] } }]
          nextTag := s.tracker.nextTag + 1 } }) ∧
      (16 ≤ s.tracker.txns.length ∨ (r.dir = .write ∧ 4 ≤ slotsUsed s.tracker.txns) →
        exec (.hostRequestAccept r) s = .next s)) ∧
    (∀ (beat : WriteBeat) (between : List DirtyCommand),
      (∀ before x after, Stands s before x after → x.phase = .collecting → (∀ y ∈ before, y.phase ≠ .collecting) →
        x.beatsHeld.length + 1 < x.req.beats →
        exec (.hostWriteBeat ⟨beat, between⟩) s = .next { s with tracker := { s.tracker with txns :=
          before ++ { x with slot := some { state := .filling, beats := x.beatsHeld ++ [beat] } } :: after } }) ∧
      ((∀ y ∈ s.tracker.txns, y.phase ≠ .collecting) → exec (.hostWriteBeat ⟨beat, between⟩) s = .next s))

/-- The verdict of a read at its acceptance (R28, R45, R47, R48, R49, R54, R55), where it is not held: no commit drains, or no earlier
transaction of its stream is held and it is malformed or outside the drain ranges. Malformed: answered ERR, counted, and
reported. Well formed and meeting a region that refuses reads: refused for the lowest such region, counted and reported. Otherwise:
forwarded, at the tail of the forwarding queue, the idle-gap count zero. After a local verdict the answer may be eligible at once and
given the channel (R51, R53). -/
def Obligations.ReadVerdicts : Prop :=
  ∀ (s : State) (r : Request), PinsReleased s → r.beatsLegal = true → r.dir = .read → s.tracker.txns.length < 16 →
    (∀ d, s.commit.draining = some d →
      (∀ y ∈ s.tracker.txns, y.req.dir = r.dir → y.req.id = r.id → y.isHeld = false) ∧
      (requestWellFormed r = true → d.meetsBurst r = false)) →
    let entered := fun phase : Phase => { s.tracker with
      txns := s.tracker.txns ++ [entryOfRequest s.tracker.nextTag r phase], nextTag := s.tracker.nextTag + 1 }
    (requestWellFormed r = false → exec (.hostRequestAccept r) s = .next (takeTurns { s with
      tracker := { entered (.localAnswer .malformed .err) with malformed := satInc s.tracker.malformed }
      events := s.events.take (malformedEvent r) })) ∧
    (requestWellFormed r = true → ∀ i, MeetsRegion s r i → RefusesReads s i →
      (∀ j, MeetsRegion s r j → RefusesReads s j → i ≤ j) → exec (.hostRequestAccept r) s = .next (takeTurns { s with
        tracker := entered (.localAnswer (.refuse i) .err)
        policy := { s.policy with refusals := s.policy.refusals.set i (satInc (s.policy.refusals.get i)) }
        events := s.events.take (readRefusedEvent i r) })) ∧
    (requestWellFormed r = true → (∀ i, MeetsRegion s r i → ¬RefusesReads s i) →
      exec (.hostRequestAccept r) s = .next { s with
        tracker := entered .waitingForward
        fwd := { s.fwd with queue := s.fwd.queue ++ [s.tracker.nextTag], idleGap := none } })

/-- Holding at the verdict time while a commit drains (R28, R29, R47): behind a held transaction of its stream a transaction is
held by stream, well formed or not; otherwise a well-formed one whose burst intersects a drain range is held by range. Stated
for a read at its acceptance and for a write at its last beat. Nothing else changes, but that the commands between the write's
dirty additions are kept with it (DESIGN CHOICE, log entry 13). -/
def Obligations.HeldWhileDraining : Prop :=
  ∀ (s : State) (d : Drain), PinsReleased s → s.commit.draining = some d →
    (∀ (r : Request) (why : Held), r.beatsLegal = true → r.dir = .read → s.tracker.txns.length < 16 →
      ((∃ y ∈ s.tracker.txns, y.req.dir = r.dir ∧ y.req.id = r.id ∧ y.isHeld = true) ∧ why = .stream ∨
        (∀ y ∈ s.tracker.txns, y.req.dir = r.dir → y.req.id = r.id → y.isHeld = false) ∧ requestWellFormed r = true ∧
          d.meetsBurst r = true ∧ why = .range) →
      exec (.hostRequestAccept r) s = .next { s with tracker := { s.tracker with
        txns := s.tracker.txns ++ [entryOfRequest s.tracker.nextTag r (.held why)]
        nextTag := s.tracker.nextTag + 1 } }) ∧
    (∀ (before after : List Txn) (x : Txn) (beat : WriteBeat) (between : List DirtyCommand) (why : Held),
      Stands s before x after → x.phase = .collecting → (∀ y ∈ before, y.phase ≠ .collecting) →
      x.beatsHeld.length + 1 = x.req.beats →
      ((∃ y ∈ before, y.req.dir = x.req.dir ∧ y.req.id = x.req.id ∧ y.isHeld = true) ∧ why = .stream ∨
        (∀ y ∈ before, y.req.dir = x.req.dir → y.req.id = x.req.id → y.isHeld = false) ∧ requestWellFormed x.req = true ∧
          d.meetsBurst x.req = true ∧ why = .range) →
      let held := { x with
        phase := .held why, slot := some { state := .full, beats := x.beatsHeld ++ [beat] }, between := between }
      exec (.hostWriteBeat ⟨beat, between⟩) s =
        .next { s with tracker := { s.tracker with txns := before ++ held :: after } })

/-- The verdict of a write at its last beat (R28, R47, R48, R54, R63, R68, R70, R73, R74, R75, R76, R92), where it is not held: no
commit drains, or no earlier transaction of its stream is held and it is malformed or outside the drain ranges. Malformed: answered
ERR, counted, reported, its slot free. With an empty cause set: the hand-off, then the tail of the forwarding queue with its slot
FULL. With a cause set: answered under the status of R73, every cause's region counted, one event, the slot free. The window counts
of the violating WATCH regions go up in both of the latter. That the commands between the write's two dirty additions (R103) are an
operand of HOST_WRITE_BEAT, kept with the write, and that a tracked write counts in flight from the beginning of its hand-off, is the model's choice
(DESIGN CHOICE, log entry 13). -/
def Obligations.WriteVerdicts : Prop :=
  ∀ (s : State) (before after : List Txn) (x : Txn) (beat : WriteBeat) (between : List DirtyCommand), PinsReleased s →
    Stands s before x after → x.phase = .collecting → (∀ y ∈ before, y.phase ≠ .collecting) →
    x.req.dir = .write → x.beatsHeld.length + 1 = x.req.beats →
    (∀ d, s.commit.draining = some d →
      (∀ y ∈ before, y.req.dir = x.req.dir → y.req.id = x.req.id → y.isHeld = false) ∧
      (requestWellFormed x.req = true → d.meetsBurst x.req = false)) →
    let beats := x.beatsHeld ++ [beat]
    let counted := countWindows s (findings s x.req beats)
    (requestWellFormed x.req = false → exec (.hostWriteBeat ⟨beat, between⟩) s = .next (takeTurns { s with
      tracker := { s.tracker with
        txns := before ++ { x with phase := .localAnswer .malformed .err, slot := none, between := between } :: after
        malformed := satInc s.tracker.malformed }
      events := s.events.take (malformedEvent x.req) })) ∧
    (requestWellFormed x.req = true → causeSet s x.req beats = [] →
      let tracked := trackedBlocks s x.req beats ≠ []
      let flying : State := { counted with dirty := { counted.dirty with
        inFlight := if tracked then s.dirty.inFlight + 1 else s.dirty.inFlight } }
      let handed := handOff flying x.req beats between
      exec (.hostWriteBeat ⟨beat, between⟩) s = .next { handed with
        tracker := { handed.tracker with txns := before ++ { x with
          phase := .waitingForward, slot := some { state := .full, beats := beats }
          strobes := beats.map WriteBeat.strobes, tracked := decide tracked, between := between } :: after }
        fwd := { handed.fwd with queue := handed.fwd.queue ++ [x.tag], idleGap := none } }) ∧
    (requestWellFormed x.req = true → ∀ i cause rest, causeSet s x.req beats = (i, cause) :: rest →
      let causes := (i, cause) :: rest
      let status := if ∀ c ∈ causes, (s.table.active.get c.1).refusal = .silent then RespStatus.ok else RespStatus.err
      exec (.hostWriteBeat ⟨beat, between⟩) s = .next (takeTurns { s with
        tracker := { s.tracker with
          txns := before ++ { x with
            phase := .localAnswer (.refuse i) status, slot := none, between := between } :: after }
        policy := { refusals := causes.foldl (fun t c => t.set c.1 (satInc (t.get c.1))) s.policy.refusals
                    windows := counted.policy.windows }
        events := s.events.take (refusalEvent s x.req beats causes i cause) }))

/-- The Window Comparator (R82, R83, R84, R85, R86, R89, R90, R91, R92). A WATCH piece's elements are its runs of the element width's
bytes at multiples of that width. A full element outside the window violates, BELOW or ABOVE; a partial one under VIOLATE; the
finding of a piece is its lowest violating element, with its value, unstrobed bytes zero, reason and strobes. The findings of a write
are those of its WATCH pieces, lowest address first; the window count of each of their regions goes up by one, saturating, and no
other. The event of a refused write is WINDOW_REFUSED for the lowest index of its cause set, with that region's finding, where every
cause is a window, and WRITE_REFUSED otherwise. Bits of a detail byte that section 10.6 gives no meaning are zero (DESIGN CHOICE, log
entry 23). -/
def Obligations.WindowFindings : Prop :=
  ∀ (s : State) (r : Request) (beats : List WriteBeat), r.beatsLegal = true → requestWellFormed r = true →
    let strobe := fun a : Nat => strobeAt (beats.map WriteBeat.strobes) (a - burstFirst r)
    let data := fun a : Nat => (((beats.map WriteBeat.data).getD ((a - burstFirst r) / 8) 0).extractLsb'
      (8 * ((a - burstFirst r) % 8)) 8).toNat
    let value := fun n a : Nat => ((List.range n).map fun k => if strobe (a + k) then data (a + k) * 256 ^ k else 0).sum
    let full := fun n a : Nat => ∀ k < n, strobe (a + k) = true
    let element := fun (w : WatchPart) (p : Piece) (a : Nat) =>
      p.first ≤ a ∧ a + w.width.bytes ≤ p.last + 1 ∧ a % w.width.bytes = 0
    let violates := fun (w : WatchPart) (a : Nat) (why : Reason) =>
      let n := w.width.bytes
      match why with
      | .below => full n a ∧ value n a < w.low.toNat
      | .above => full n a ∧ w.low.toNat ≤ value n a ∧ w.high.toNat < value n a
      | .someStrobes => ¬full n a ∧ (∃ k < n, strobe (a + k) = true) ∧ w.policy = .violate
    let fs := findings s r beats
    let counted := countWindows s fs
    let shown := fun f : Finding => leBytes 4 f.value ++
      [BitVec.ofNat 8 (8 * f.width.bytes), BitVec.ofNat 8 ((match f.reason with
        | .below => 1
        | .above => 2
        | .someStrobes => 3) + 16 * (bitByte f.pattern).toNat)]
    (∀ p ∈ requestPieces s r, ∀ (w : WatchPart) (f : Finding), firstViolation w r beats p = some f ↔
      ∃ a why, element w p a ∧ violates w a why ∧ (∀ b other, element w p b → b < a → ¬violates w b other) ∧
        f = { addr := a, value := value w.width.bytes a, width := w.width, reason := why
              pattern := (List.range w.width.bytes).map fun k => strobe (a + k) }) ∧
    (∀ i w f, (i, w, f) ∈ fs ↔ ∃ p ∈ requestPieces s r, p.region = some i ∧ (s.table.active.get i).part = .watch w ∧
      firstViolation w r beats p = some f) ∧
    fs.Pairwise (fun f g => f.2.2.addr < g.2.2.addr) ∧
    counted = { s with policy := { s.policy with windows := counted.policy.windows } } ∧
    (∀ i, ((∃ f ∈ fs, f.1 = i) → counted.policy.windows.get i =
        if s.policy.windows.get i = 65535 then 65535 else s.policy.windows.get i + 1) ∧
      ((∀ f ∈ fs, f.1 ≠ i) → counted.policy.windows.get i = s.policy.windows.get i)) ∧
    (∀ i f, windowReportEvent r i f =
      { kind := .windowReport, region := some i, hostId := some r.id, addr := some (BitVec.ofNat 32 f.addr)
        detail := some (detailOf (shown f ++ [0, 0])) }) ∧
    (∀ i cause rest, causeSet s r beats = (i, cause) :: rest →
      let causes := (i, cause) :: rest
      let status : Byte := if ∀ c ∈ causes, (s.table.active.get c.1).refusal = .silent then 0 else 1
      ((∀ c ∈ causes, c.2 = .window) → ∃ w f, (i, w, f) ∈ fs ∧ refusalEvent s r beats causes i cause =
        { kind := .windowRefused, region := some i, hostId := some r.id, addr := some (BitVec.ofNat 32 f.addr)
          detail := some (detailOf (shown f ++ [status, match rest with
            | [] => 0
            | c :: _ => BitVec.ofNat 8 (128 + c.1.val)])) }) ∧
      ((∃ c ∈ causes, c.2 ≠ .window) → refusalEvent s r beats causes i cause =
        { kind := .writeRefused, region := some i, hostId := some r.id, addr := some r.addr
          detail := some (detailOf ([BitVec.ofNat 8 r.beats, status, cause.code,
            if cause = .checked then lifeCode (s.sig.life.get i) else 0] ++ (match rest with
            | [] => [0, 0]
            | c :: _ => [BitVec.ofNat 8 c.1.val, c.2.code]))) }))

/-- The causes of a write's refusal (R69), byte by byte: a GUARD region that holds a strobed byte of it, a CHECKED region that is
not OPEN and holds one, and a WATCH region with action REFUSE in whose piece an element violates; and nothing else. -/
def Obligations.CausesOfRefusal : Prop :=
  ∀ (s : State) (r : Request) (beats : List WriteBeat) (i : Ix), r.beatsLegal = true → requestWellFormed r = true →
    let strobed := ∃ a, StrobedByte r (beats.map WriteBeat.strobes) a ∧ regionAt s.table.active a = some i
    ((i, Cause.guard) ∈ causeSet s r beats ↔ strobed ∧ (s.table.active.get i).part = .guard) ∧
    ((i, Cause.checked) ∈ causeSet s r beats ↔
      strobed ∧ (∃ fc, (s.table.active.get i).part = .checked fc) ∧ s.sig.life.get i ≠ some .opened) ∧
    ((i, Cause.window) ∈ causeSet s r beats ↔
      ∃ p ∈ requestPieces s r, p.region = some i ∧ ∃ w, (s.table.active.get i).part = .watch w ∧ w.action = .refuse ∧
        (firstViolation w r beats p).isSome = true)

/-- No write is forwarded that had, when its verdict was reached, a strobed byte in an enabled GUARD region or in an enabled
CHECKED region that was not OPEN (R70): a write that a step brings to WAITING_FORWARD has no such byte, in the table and life
states the step leaves. -/
def Obligations.ShieldedBytesAreNeverForwarded : Prop :=
  ∀ s t : State, step s = .next t → TrackerLegal s.tracker →
    ∀ y ∈ t.tracker.txns, y.req.dir = .write → y.phase = .waitingForward →
      (∀ x ∈ s.tracker.txns, x.tag = y.tag → x.phase ≠ .waitingForward) →
      ∀ a, StrobedByte y.req y.strobes a → ¬ShieldedByte t a

/-- How local answers become eligible and the host response channel is given (R51, R53). Recording adds one group, if it is not empty:
the transactions in LOCAL_ANSWER that are next in their streams and not recorded yet. Giving does nothing to a channel that a
response has or that is given to a local answer. A free channel goes to the one candidate there is, and of two to the source that did
not have it last: the memory's candidate is the oldest FORWARDED transaction of the stream of the item kept presented, if it is the
oldest of its stream; the other is the oldest eligible local answer. A completion whose write still has beats to send is a candidate
too (DEDUCED, log entry 22). -/
def Obligations.HostChannelIsGiven : Prop :=
  ∀ s : State, (s.tracker.txns.map Txn.tag).Nodup →
    let candidate := fun x : Txn => ∃ before after item, s.tracker.txns = before ++ x :: after ∧ NoneOfStream before x ∧
      x.phase = .forwarded ∧ s.fwd.head = some item ∧ itemDir item = x.req.dir ∧ item.id = x.req.id.setWidth 5 ∧
      s.pins.prst = false
    let answers := s.tracker.eligible ≠ []
    let free := s.tracker.hostChan = none ∧ s.tracker.localTurn = false
    (∃ group : List Nat,
      (∀ tag, tag ∈ group ↔ ∃ before x after, s.tracker.txns = before ++ x :: after ∧ NoneOfStream before x ∧ x.tag = tag ∧
        (∃ verdict status, x.phase = .localAnswer verdict status) ∧ tag ∉ s.tracker.eligible.flatten) ∧
      group.Nodup ∧
      noteEligible s = { s with tracker := { s.tracker with
        eligible := s.tracker.eligible ++ (if group = [] then [] else [group]) } }) ∧
    takeTurns s = giveChannel (noteEligible s) ∧
    (¬free → giveChannel s = s) ∧
    (∀ x, free → candidate x → (¬answers ∨ s.tracker.lastSource = .localAnswer) →
      giveChannel s = { s with tracker := { s.tracker with hostChan := some x.tag, lastSource := .memory } }) ∧
    (free → answers → ((∀ x, ¬candidate x) ∨ s.tracker.lastSource = .memory) →
      giveChannel s = { s with tracker := { s.tracker with localTurn := true } }) ∧
    (free → ¬answers → (∀ x, ¬candidate x) → giveChannel s = s)

/-- A local answer begins when it is next in its stream and the host response channel is given to the oldest eligible one, and ends
with its last item (R50, R51, R53): LOCAL_ANSWER_SEND for a stream whose next transaction's answer is in the oldest group of
eligible ones, the channel given to a local answer; otherwise, or with no answer next in the stream, nothing happens.
LOCAL_ANSWER_ITEM_TAKEN for one item of zero data; with the last one the entry is freed, the next of its stream may become eligible,
and the channel is given again. An item that the memory comes to present as the answer is sent is presented first, as MEMORY_RESPONSE_ITEM_PASS
presents it to a host that is not ready. Which of a group that became eligible together goes first is open (R51); that the stream
operand says it is the model's choice (DESIGN CHOICE, log entry 6). -/
def Obligations.LocalAnswers : Prop :=
  ∀ s : State, PinsReleased s →
    (∀ (before after : List Txn) (x : Txn) (verdict : LocalVerdict) (status : RespStatus), Stands s before x after →
      let item := if x.req.dir = .read then HostItem.readBeat 0 status else HostItem.writeDone status
      let items := if x.req.dir = .read then x.req.beats else 1
      let wires := { s.wires with hostItem := some item }
      let given := s.tracker.hostChan = none ∧ s.tracker.localTurn = true ∧
        ∃ group groups, s.tracker.eligible = group :: groups ∧ x.tag ∈ group
      (NoneOfStream before x → x.phase = .localAnswer verdict status →
        (given → exec (.localAnswerSend x.req.dir x.req.id none) s = .next { s with tracker := { s.tracker with
          txns := before ++ { x with phase := .returning verdict status } :: after
          hostChan := some x.tag, localTurn := false, lastSource := .localAnswer
          eligible := (s.tracker.eligible.map fun group => group.filter (· ≠ x.tag)).filter (· ≠ []) } }) ∧
        (¬given → exec (.localAnswerSend x.req.dir x.req.id none) s = .next s)) ∧
      (NoneOfStream before x → (∀ v st, x.phase ≠ .localAnswer v st) →
        exec (.localAnswerSend x.req.dir x.req.id none) s = .next s) ∧
      (x.phase = .returning verdict status → s.tracker.hostChan = some x.tag → x.delivered + 1 < items →
        exec .localAnswerItemTaken s = .next { s with
          tracker := { s.tracker with txns := before ++ { x with delivered := x.delivered + 1 } :: after }
          wires := wires }) ∧
      (x.phase = .returning verdict status → s.tracker.hostChan = some x.tag → items ≤ x.delivered + 1 →
        exec .localAnswerItemTaken s = .next (takeTurns { s with
          tracker := { s.tracker with txns := before ++ after, hostChan := none }, wires := wires })) ∧
      (x.phase = .forwarded → s.tracker.hostChan = some x.tag → exec .localAnswerItemTaken s = .next s)) ∧
    (∀ dir id, (∀ y ∈ s.tracker.txns, ¬(y.req.dir = dir ∧ y.req.id = id)) → exec (.localAnswerSend dir id none) s = .next s) ∧
    (∀ dir id item t, exec (.memoryResponseItemPass ⟨item, false⟩) s = .next t →
      exec (.localAnswerSend dir id (some item)) s = exec (.localAnswerSend dir id none) t) ∧
    (s.tracker.hostChan = none → exec .localAnswerItemTaken s = .next s)

/-! ## The memory port -/

/-- The arbiter's grants (R54, R56, R57, R135, R139): on a free channel each claim is granted under its conditions, and the grant
presents the request, puts the engine in READING for a chunk, and changes nothing else. That a forced claim is gone at its grant, the
outstanding read keeping host claims waiting until its return, is the model's reading (DEDUCED, log entry 12). When the arbiter
grants nothing (R56, R57, R128): a presented request keeps the channel from every claim; a chunk read outstanding keeps out every
claim; a forced claim keeps out host claims and takes the scan claim's place, and waits for the outstanding host transactions; a scan
claim waits for the idle gap and is not made for a withheld chunk; an engine outside WAITING_GAP makes no claim; and without a claim
there is no grant. -/
def Obligations.ClaimsGrantedOrKeptWaiting : Prop :=
  ∀ s : State,
    let granted := fun (c : JobContext) => ({ s with
      scan := { s.scan with
        engine := .reading { addr := chunkAddr s c, disposition := .apply, offPending := false, beats := [] }
        starvation := none, forced := false }
      fwd := { s.fwd with memReq := some (.chunk (chunkAddr s c)) } } : State)
    (PinsReleased s → s.fwd.memReq = none →
      (∀ tag rest, s.fwd.queue = tag :: rest → (∀ r, s.scan.engine ≠ .reading r) → s.scan.forced = false →
        exec .hostClaimGrant s = .next { s with fwd := { s.fwd with memReq := some (.host tag) } }) ∧
      (∀ c g, s.scan.context = some c → s.scan.engine = .waitingGap → withheld s = false → s.scan.forced = false →
        s.fwd.idleGap = some g → g.hold ≤ g.count → exec .scanClaimGrant s = .next (granted c)) ∧
      (∀ c, s.scan.context = some c → s.scan.engine = .waitingGap → s.scan.forced = true →
        (∀ x ∈ s.tracker.txns, x.phase ≠ .forwarded) → exec .forcedClaimGrant s = .next (granted c))) ∧
    (s.fwd.memReq ≠ none ∨ (∃ r, s.scan.engine = .reading r) →
      exec .hostClaimGrant s = .next s ∧ exec .scanClaimGrant s = .next s ∧ exec .forcedClaimGrant s = .next s) ∧
    (s.scan.forced = true → exec .hostClaimGrant s = .next s ∧ exec .scanClaimGrant s = .next s) ∧
    (s.scan.forced = false ∨ (∃ x ∈ s.tracker.txns, x.phase = .forwarded) → exec .forcedClaimGrant s = .next s) ∧
    (s.fwd.queue = [] → exec .hostClaimGrant s = .next s) ∧
    (s.fwd.idleGap = none ∨ (∃ g, s.fwd.idleGap = some g ∧ g.count < g.hold) ∨ withheld s = true →
      exec .scanClaimGrant s = .next s) ∧
    (s.scan.engine ≠ .waitingGap ∨ s.scan.context = none →
      exec .scanClaimGrant s = .next s ∧ exec .forcedClaimGrant s = .next s)

/-- MEMORY_REQUEST_TAKEN and MEMORY_WRITE_BEAT_TAKEN (R43, R54, R64): a host transaction becomes FORWARDED and leaves the queue,
its slot SENDING; a chunk read goes out as a READ of 4 beats with id 16; the beats of a write go out in order as collected, and
its slot is free with the last. -/
def Obligations.MemoryTakes : Prop :=
  ∀ s : State, PinsReleased s →
    (∀ before x after, Stands s before x after → s.fwd.memReq = some (.host x.tag) →
      exec .memoryRequestTaken s = .next { s with
        tracker := { s.tracker with txns := before ++ { x with
          phase := .forwarded, slot := x.slot.map fun sl => { state := .sending 0, beats := sl.beats } } :: after }
        fwd := { s.fwd with
          queue := s.fwd.queue.filter (· ≠ x.tag)
          sending := s.fwd.sending ++ (if x.req.dir = .write then [x.tag] else [])
          memReq := none }
        wires := { s.wires with
          memRequest := some { dir := x.req.dir, id := x.req.id.setWidth 5, addr := x.req.addr, beats := x.req.beats } } }) ∧
    (∀ a, s.fwd.memReq = some (.chunk a) →
      exec .memoryRequestTaken s = .next { s with
        fwd := { s.fwd with memReq := none }
        wires := { s.wires with memRequest := some { dir := .read, id := 16, addr := a, beats := 4 } } }) ∧
    (∀ before x after rest beats sent, Stands s before x after → s.fwd.sending = x.tag :: rest →
      x.slot = some { state := .sending sent, beats := beats } → sent + 1 < x.req.beats →
      exec .memoryWriteBeatTaken s = .next { s with
        tracker := { s.tracker with txns :=
          before ++ { x with slot := some { state := .sending (sent + 1), beats := beats } } :: after }
        wires := { s.wires with memBeat := beats[sent]? } }) ∧
    (∀ before x after rest beats sent, Stands s before x after → s.fwd.sending = x.tag :: rest → x.tag ∉ rest →
      x.slot = some { state := .sending sent, beats := beats } → x.req.beats ≤ sent + 1 →
      exec .memoryWriteBeatTaken s = .next { s with
        tracker := { s.tracker with txns := before ++ { x with slot := none } :: after }
        fwd := { s.fwd with sending := rest }
        wires := { s.wires with memBeat := beats[sent]? } })

/-- MEMORY_RESPONSE_ITEM_PASS of an item the host is ready for (R50, R52, R53, R58, R66, R79, R106, R115, R116): it goes unchanged to the
host when its transaction, the oldest forwarded one of its stream, is the oldest of its stream, the memory has all its beats, and it
has or is given the channel. The first ERR of a response is counted. With the last item the entry and the channel are free; a write
is then no longer in flight: tracked writes, and the writes awaited of every draining region it is into, go down by one, and the
regions that then await none pass to QUEUED; and the channel is given again. -/
def Obligations.MemoryItemsPass : Prop :=
  ∀ (s : State) (before after : List Txn) (x : Txn) (item : MemItem), PinsReleased s → Stands s before x after →
    NoneOfStream before x → x.phase = .forwarded → x.slot = none → itemDir item = x.req.dir →
    item.id = x.req.id.setWidth 5 → (s.fwd.head = none ∨ s.fwd.head = some item) →
    (s.tracker.hostChan = some x.tag ∨
      s.tracker.hostChan = none ∧ s.tracker.localTurn = false ∧
        (s.tracker.eligible = [] ∨ s.tracker.lastSource = .localAnswer)) →
    let held := { s.tracker with
      hostChan := some x.tag, lastSource := if s.tracker.hostChan = none then .memory else s.tracker.lastSource }
    let passed : State := { s with
      tracker := held
      wires := { s.wires with hostItem := some (passedItem item) }
      fwd := { s.fwd with
        head := none
        memErrors := if itemStatus item = .err ∧ x.errSeen = false then satInc s.fwd.memErrors else s.fwd.memErrors } }
    let items := if x.req.dir = .read then x.req.beats else 1
    (x.delivered + 1 < items → exec (.memoryResponseItemPass ⟨item, true⟩) s = .next { passed with
      tracker := { held with txns := before ++
        { x with delivered := x.delivered + 1, errSeen := x.errSeen || itemStatus item == .err } :: after } }) ∧
    (items ≤ x.delivered + 1 → x.req.dir = .read → exec (.memoryResponseItemPass ⟨item, true⟩) s =
      .next (takeTurns { passed with tracker := { held with txns := before ++ after, hostChan := none } })) ∧
    (items ≤ x.delivered + 1 → x.req.dir = .write →
      let landed := finishWriteDrains { passed with
        dirty := { s.dirty with inFlight := s.dirty.inFlight - (if x.tracked then 1 else 0) }
        sig := { s.sig with life := Tab.ofFn fun i =>
          match s.sig.life.get i with
          | some (.signing (.drainingWrites n)) =>
            some (.signing (.drainingWrites (n - (if x.isInto (s.table.active.get i) then 1 else 0))))
          | l => l } }
      exec (.memoryResponseItemPass ⟨item, true⟩) s =
        .next (takeTurns { landed with tracker := { held with txns := before ++ after, hostChan := none } }))

/-- Items that do not pass (R52, R53, R58, R59, R79). An item with no owner is discarded and counted: an id of 17 to 31, a write
completion with id 16, a beat with id 16 and no chunk read outstanding, a host id with no forwarded transaction of its stream, and
any item while PRST_N is asserted (that it is counted then, DEDUCED, log entry 8). An item whose write still has beats to send, whose
transaction is not the oldest of its stream or has not the channel, because another response has it or a local answer is given it or
has its turn, or that the host is not ready for, is kept presented, and a free channel is given. While an item is kept presented no
other item comes, the beats of a chunk read among them (DEDUCED from R42 and R52, log entry 8). -/
def Obligations.ItemsDiscardedOrKeptWaiting : Prop :=
  ∀ s : State, s.pins.por = false →
    let counted : State := { s with fwd := { s.fwd with memErrors := satInc s.fwd.memErrors } }
    (s.fwd.head = none →
      (∀ item : MemItem, (s.pins.prst = true ∨ 17 ≤ item.id.toNat ∨ (item.id = 16 ∧ itemDir item = .write) ∨
          (item.id = 16 ∧ ∀ r, s.scan.engine ≠ .reading r) ∨
          (item.id.toNat < 16 ∧ ∀ x ∈ s.tracker.txns, x.req.dir = itemDir item → x.req.id.setWidth 5 = item.id →
            x.phase ≠ .forwarded)) →
        exec (.memoryResponseDiscard item) s = .next counted ∧
        ∀ ready, exec (.memoryResponseItemPass ⟨item, ready⟩) s = .next counted) ∧
      ((∀ r, s.scan.engine ≠ .reading r) → ∀ data status,
        exec (.chunkReadBeat data status) s = .next counted ∧ exec (.chunkReadReturn data status) s = .next counted)) ∧
    (∀ before x after item (ready : Bool), Stands s before x after → x.phase = .forwarded → itemDir item = x.req.dir →
      item.id = x.req.id.setWidth 5 → s.pins.prst = false →
      (∀ y ∈ before, y.req.dir = x.req.dir → y.req.id = x.req.id → y.phase ≠ .forwarded) →
      (s.fwd.head = none ∨ s.fwd.head = some item) →
      (ready = false ∨ x.slot ≠ none ∨ (∃ tag, s.tracker.hostChan = some tag ∧ tag ≠ x.tag) ∨
        s.tracker.hostChan = none ∧ (¬NoneOfStream before x ∨ s.tracker.localTurn = true ∨
          s.tracker.eligible ≠ [] ∧ s.tracker.lastSource = .memory)) →
      exec (.memoryResponseItemPass ⟨item, ready⟩) s =
        .next (giveChannel { s with fwd := { s.fwd with head := some item } }) ∧
      exec (.memoryResponseDiscard item) s = .next s) ∧
    (∀ kept item, s.fwd.head = some kept → kept ≠ item →
      (∀ ready, exec (.memoryResponseItemPass ⟨item, ready⟩) s = .next s) ∧ exec (.memoryResponseDiscard item) s = .next s ∧
      ∀ data status, exec (.chunkReadBeat data status) s = .next s ∧ exec (.chunkReadReturn data status) s = .next s)

/-! ## Chunk reads -/

/-- CHUNK_READ_BEAT keeps one of the first three beats of the outstanding chunk read, and CHUNK_READ_RETURN is the fourth (R136); that a
CHUNK_READ_BEAT with three beats kept, and a CHUNK_READ_RETURN before three, are not taken is the model's reading of the table's two
rows (DEDUCED, log entry 8). The return of a read whose job was abandoned folds nothing, raises nothing, and leaves the engine OFF or
IDLE, where it takes the head of its queue (R147). An OK return before the last chunk (R134, R136, R138): the 32 bytes are folded into
the partial signature in ascending address order, the cursor goes up by 32, chunks done by one, staying at 1,099,511,627,775, and the
streak to 0, and the engine waits for its next gap, its starvation timer started, or goes OFF with its context when off pending is
set. -/
def Obligations.ChunksReturnAndAreFolded : Prop :=
  ∀ (s : State) (r : ChunkRead), s.pins.por = false → s.fwd.head = none → s.scan.engine = .reading r →
    (∀ data status,
      (r.beats.length < 3 → exec (.chunkReadBeat data status) s = .next { s with scan := { s.scan with
        engine := .reading { r with beats := r.beats ++ [(data, status)] } } }) ∧
      (r.beats.length = 3 → r.disposition = .discard →
        exec (.chunkReadReturn data status) s =
          .next (settle { s with scan := { s.scan with engine := if r.offPending then .off else .idle } })) ∧
      (r.beats.length = 3 → exec (.chunkReadBeat data status) s = .next s) ∧
      (r.beats.length < 3 → exec (.chunkReadReturn data status) s = .next s)) ∧
    (∀ (c : JobContext) (d0 d1 d2 d3 : BitVec 64), s.scan.context = some c → r.disposition = .apply →
      r.beats = [(d0, .ok), (d1, .ok), (d2, .ok)] →
      c.cursor + 32 ≠ 256 * (s.table.active.get c.region).size.toNat →
      let after := { c with
        cursor := c.cursor + 32
        crc := crc32Fold c.crc (beatBytes d0 ++ beatBytes d1 ++ beatBytes d2 ++ beatBytes d3)
        chunksDone := if c.chunksDone = 1099511627775#40 then c.chunksDone else c.chunksDone + 1 }
      let t : State := { s with scan := { s.scan with context := some after, streak := 0 } }
      (r.offPending = true →
        exec (.chunkReadReturn d3 .ok) s = .next { t with scan := { t.scan with engine := .off } }) ∧
      (r.offPending = false → exec (.chunkReadReturn d3 .ok) s = .next { t with scan := { t.scan with
        engine := .waitingGap, starvation := startedStarvation t } }))

/-- The end of a job (R107, R118, R119, R120, R126, R134, R137): the signature is the register after the last chunk under its final
exclusive-or. A SIGN job makes it the reference and the region INTACT; a VERIFY job compares it with the reference, counts, and
makes an INTACT region CORRUPT where they differ; with the results and events of the two rules. The job is gone, and the engine is
OFF when off pending is set, and otherwise IDLE, where it takes the head of its queue. -/
def Obligations.JobsEnd : Prop :=
  ∀ (s : State) (r : ChunkRead) (c : JobContext) (d0 d1 d2 d3 : BitVec 64), s.pins.por = false → s.fwd.head = none →
    s.scan.engine = .reading r → s.scan.context = some c → r.disposition = .apply →
    r.beats = [(d0, .ok), (d1, .ok), (d2, .ok)] →
    c.cursor + 32 = 256 * (s.table.active.get c.region).size.toNat →
    let i := c.region
    let sig := crc32Fold c.crc (beatBytes d0 ++ beatBytes d1 ++ beatBytes d2 ++ beatBytes d3) ^^^ 0xFFFFFFFF#32
    let start := regionAddr s i
    let finish := fun (life : Option Life) (result : JobResult) (count : BitVec 16) (events : EventUnit) =>
      (settle { s with
        sig := { life := s.sig.life.set i life, lastResult := s.sig.lastResult.set i result
                 verifyCount := s.sig.verifyCount.set i count }
        events := events
        scan := { s.scan with engine := if r.offPending then .off else .idle, context := none, streak := 0 } } : State)
    let count := s.sig.verifyCount.get i
    let demand := c.kind = .verifyDemand
    (∀ sub, c.kind = .sign → s.sig.life.get i = some (.signing sub) → exec (.chunkReadReturn d3 .ok) s =
      .next (finish (some (.intact sig)) .pass count (s.events.take (signDoneEvent i start sig)))) ∧
    (∀ ref, c.kind ≠ .sign → s.sig.life.get i = some (.intact ref) → sig = ref → exec (.chunkReadReturn d3 .ok) s =
      .next (finish (some (.intact ref)) .pass (count + 1)
        (if demand then s.events.take (verifyResultEvent i start sig false (.intact ref)) else s.events))) ∧
    (∀ ref, c.kind ≠ .sign → s.sig.life.get i = some (.intact ref) → sig ≠ ref → exec (.chunkReadReturn d3 .ok) s =
      .next (finish (some (.corrupt ref)) .mismatch (count + 1)
        (let noted := s.events.take (mismatchEvent i start ref sig)
         if demand then noted.take (verifyResultEvent i start sig true (.corrupt ref)) else noted))) ∧
    (∀ ref, c.kind ≠ .sign → s.sig.life.get i = some (.corrupt ref) → exec (.chunkReadReturn d3 .ok) s =
      .next (finish (some (.corrupt ref)) (if sig = ref then .pass else .mismatch) (count + 1)
        (if demand then s.events.take (verifyResultEvent i start sig (decide (sig ≠ ref)) (.corrupt ref)) else s.events)))

/-- An ERR return (R134, R140, R141, R152): with any beat ERR all four are dropped, cursor and partial signature stay, the streak goes
up by one, and chunks done by one, staying at 1,099,511,627,775; the result is ERROR_RETRYING and SCAN_READ_ERROR is raised. Below a streak of 3 the engine waits to claim
the same chunk again; at 3 it raises SCAN_HALTED and is HALTED; with off pending it is OFF, its context kept. -/
def Obligations.ReadErrorsRetryThenHalt : Prop :=
  ∀ (s : State) (r : ChunkRead) (c : JobContext) (data : BitVec 64) (status : RespStatus), s.pins.por = false →
    s.fwd.head = none → s.scan.engine = .reading r → s.scan.context = some c → r.disposition = .apply → r.beats.length = 3 →
    (status = .err ∨ ∃ b ∈ r.beats, b.2 = .err) →
    let kept := { c with chunksDone := if c.chunksDone = 1099511627775#40 then c.chunksDone else c.chunksDone + 1 }
    let t : State := { s with
      sig := { s.sig with lastResult := s.sig.lastResult.set c.region .errorRetrying }
      events := s.events.take (scanReadErrorEvent kept r.addr (s.scan.streak + 1))
      scan := { s.scan with context := some kept, streak := s.scan.streak + 1 } }
    (s.scan.streak < 2 → r.offPending = false → exec (.chunkReadReturn data status) s =
      .next { t with scan := { t.scan with engine := .waitingGap, starvation := startedStarvation t } }) ∧
    (s.scan.streak < 2 → r.offPending = true → exec (.chunkReadReturn data status) s =
      .next { t with scan := { t.scan with engine := .off } }) ∧
    (s.scan.streak = 2 → exec (.chunkReadReturn data status) s = .next { t with
      events := t.events.take (scanHaltedEvent kept r.addr)
      scan := { t.scan with engine := if r.offPending then .off else .halted } })

/-- What follows every change of the engine and its queue (R129, R132, R134): an IDLE engine takes the head of the queue, SIGN jobs
before DEMAND before ROUND, forms its context, goes to WAITING_GAP and starts its starvation timer, a SIGN job's region going to
ACTIVE; an engine in another state, or with an empty queue, takes nothing, and only the round timer starts or stops. -/
def Obligations.IdleEngineTakesTheHead : Prop :=
  ∀ s : State,
    let context := fun (i : Ix) (k : JobKind) =>
      ({ region := i, kind := k, cursor := 0, crc := 0xFFFFFFFF#32, chunksDone := 0 } : JobContext)
    let taken := fun (i : Ix) (k : JobKind) (q : ScanQueue) (life : Tab (Option Life)) =>
      let t : State := { s with
        sig := { s.sig with life := life }
        scan := { s.scan with queue := q, context := some (context i k), streak := 0 } }
      ({ t with scan := { t.scan with engine := .waitingGap, starvation := startedStarvation t, roundTimer := none } } : State)
    let timed := fun (timer : Option Timer) => ({ s with scan := { s.scan with roundTimer := timer } } : State)
    s.pins.por = false →
    (∀ i rest sub, s.scan.engine = .idle → s.scan.queue.sign = i :: rest → s.sig.life.get i = some (.signing sub) →
      settle s = taken i .sign { s.scan.queue with sign := rest } (s.sig.life.set i (some (.signing .active)))) ∧
    (∀ i rest, s.scan.engine = .idle → s.scan.queue.sign = [] → s.scan.queue.demand = i :: rest →
      settle s = taken i .verifyDemand { s.scan.queue with demand := rest } s.sig.life) ∧
    (∀ i rest, s.scan.engine = .idle → s.scan.queue.sign = [] → s.scan.queue.demand = [] →
      s.scan.queue.round = i :: rest → settle s = taken i .verifyRound { s.scan.queue with round := rest } s.sig.life) ∧
    (s.scan.engine = .idle → s.scan.queue.jobs = [] → settle s =
      timed (if s.scan.roundMode then some (s.scan.roundTimer.getD (startedRound s)) else none)) ∧
    (s.scan.engine ≠ .idle → settle s = timed none)

/-- The abandonment of a region's active job (R121, R146): its last job result becomes ABANDONED, the context is dropped and the
streak is 0; the engine goes from WAITING_GAP or HALTED to IDLE with no claim left, stays OFF, and an outstanding read will be
discarded. A region whose job is not the active one is left alone. -/
def Obligations.JobsAreAbandoned : Prop :=
  ∀ (s : State) (i : Ix),
    let dropped := fun (engine : EngineState) (starvation : Option Timer) (forced : Bool) => ({ s with
      sig := { s.sig with lastResult := s.sig.lastResult.set i .abandoned }
      scan := { s.scan with
        engine := engine, context := none, streak := 0, starvation := starvation, forced := forced } } : State)
    (∀ c, s.scan.context = some c → c.region = i →
      (s.scan.engine = .waitingGap → abandon s i = dropped .idle none false) ∧
      (s.scan.engine = .halted → abandon s i = dropped .idle s.scan.starvation s.scan.forced) ∧
      (s.scan.engine = .off → abandon s i = dropped .off s.scan.starvation s.scan.forced) ∧
      (∀ r, s.scan.engine = .reading r →
        abandon s i = dropped (.reading { r with disposition := .discard }) s.scan.starvation s.scan.forced)) ∧
    ((∀ c, s.scan.context = some c → c.region ≠ i) → abandon s i = s)

/-! ## Timers and drains -/

/-- The steps of the two scan timers and of the idle-gap detector (R55, R133, R139). The starvation timer's expiry puts a forced
claim in the scan claim's place and counts it. The round timer's expiry queues a ROUND VERIFY job for each INTACT region with no
queued job, in ascending order, counts the round, and the engine takes the head; with no such region the timer starts again. IDLE_GAP_MET
brings the count to the hold taken at its start. None of them comes about while its timer or count stands
still. A job that joins the queue of an IDLE engine whose round timer has run its length falls together with the expiry (R133): either may
be first; when the expiry is, the round is enqueued and counted before the job joins, and the engine has not yet taken the head. That
a free value, drawn once for each such case, says which is first, is the model's choice (DESIGN CHOICE, log entry 26). That an expiry, or
IDLE_GAP_MET, comes only after the timer has run its length, or the count has reached its hold, is for the command's sender: each
acts whatever the cycles counted so far (DEDUCED, log entry 3). -/
def Obligations.TimersExpire : Prop :=
  ∀ s : State, s.pins.por = false →
    (∀ timer, s.scan.starvation = some timer → exec .starvationTimerExpiry s = .next { s with scan := { s.scan with
      starvation := none, forced := true, forcedCount := satInc s.scan.forcedCount } }) ∧
    (s.scan.starvation = none → exec .starvationTimerExpiry s = .next s) ∧
    (∀ timer, s.scan.roundTimer = some timer →
      let jobs := allIx.filter fun i => (s.scan.queue.jobOf i).isNone &&
        (match s.sig.life.get i with
          | some (.intact _) => true
          | _ => false)
      (jobs ≠ [] → exec .roundTimerExpiry s = .next (settle { s with scan := { s.scan with
        queue := { s.scan.queue with round := s.scan.queue.round ++ jobs }
        roundCount := s.scan.roundCount + 1, roundTimer := none } })) ∧
      (jobs = [] → exec .roundTimerExpiry s =
        .next { s with scan := { s.scan with roundTimer := some (startedRound s) } })) ∧
    (s.scan.roundTimer = none → exec .roundTimerExpiry s = .next s) ∧
    (let due := s.scan.engine = .idle ∧ ∃ timer, s.scan.roundTimer = some timer ∧ timer.limit ≤ timer.elapsed
     let jobs := allIx.filter fun i => (s.scan.queue.jobOf i).isNone &&
        (match s.sig.life.get i with
          | some (.intact _) => true
          | _ => false)
     let drawn : State := { s with scan := { s.scan with ties := s.scan.ties + 1 } }
     (¬due → meetRound s = s) ∧
     (due → jobs ≠ [] → meetRound s = if Config.roundFirst s.scan.ties = true then { drawn with scan := { drawn.scan with
        queue := { s.scan.queue with round := s.scan.queue.round ++ jobs }
        roundCount := s.scan.roundCount + 1, roundTimer := none } } else drawn) ∧
     (due → jobs = [] → meetRound s = if Config.roundFirst s.scan.ties = true then
        { drawn with scan := { drawn.scan with roundTimer := some (startedRound s) } } else drawn)) ∧
    (s.pins.prst = false → s.fwd.queue = [] → (∀ x ∈ s.tracker.txns, x.phase ≠ .forwarded) →
      (∀ g, s.fwd.idleGap = some g → exec .idleGapMet s =
        .next { s with fwd := { s.fwd with idleGap := some { hold := g.hold, count := g.hold } } }) ∧
      (s.fwd.idleGap = none →
        let hold := s.mgmt.timing.idleHold.toNat
        exec .idleGapMet s = .next { s with fwd := { s.fwd with idleGap := some { hold := hold, count := hold } } })) ∧
    (s.fwd.queue ≠ [] ∨ (∃ x ∈ s.tracker.txns, x.phase = .forwarded) → exec .idleGapMet s = .next s)

/-- The two ends of a drain without a switch (R30, R33, R34, R41): the expiry of the drain timer and ABORT_COMMIT. The unit is
IDLE, the outcome and its masks are written, the one commit event is raised, both copies and the Pending Set stay, an engine
whose next chunk was withheld starts its starvation timer, and the held transactions are released and judged, in ABORT_COMMIT while
the port is busy with that command. In IDLE there is no expiry, and ABORT_COMMIT is refused with STATE. That DRAIN_TIMER_EXPIRY acts in DRAINING whatever the drain timer has counted is for the
command's sender (DEDUCED, log entry 3). -/
def Obligations.DrainsCutShort : Prop :=
  ∀ s : State, s.pins.por = false →
    (∀ d, s.commit.draining = some d →
      let ended := fun (outcome : LastOutcome) (kind : EventKind) (reason : Byte) (portFree : Bool) =>
        let t : State := { s with
          commit := { draining := none, outcome := outcome, switched := d.immediate, leftPending := d.quiesce }
          events := s.events.take (commitEvent kind d.immediate d.quiesce reason) }
        (releaseHeld (if withheld s = true ∧ s.scan.engine = .waitingGap then
          { t with scan := { s.scan with starvation := startedStarvation t } } else t) portFree : State)
      exec .drainTimerExpiry s = .next (ended .timeout .commitTimeout 0 true) ∧
      exec .abortCommit s =
        .next (answered (ended .abortedByCommand .commitAborted 1 false) 0 { status := .ok, result := maskBytes d.quiesce })) ∧
    (s.commit.draining = none →
      exec .drainTimerExpiry s = .next s ∧
      exec .abortCommit s = .next (answered s 0 { status := .state, result := [0, 0] }))

/-- DRAIN_COMPLETE (R30, R31, R32, R37, R41): when no forwarded transaction and no chunk read that meets a drain range is left,
the unit is IDLE, the quiesce set is switched, the commit ends DONE with its event, and the held transactions are released and judged
against the final table. While one is left, nothing happens. R156 leaves open which of the events of different producers is taken first;
that the SIGN_FAILED of the switch comes before COMMIT_DONE is the model's order (DEDUCED, log entry 11). -/
def Obligations.DrainsComplete : Prop :=
  ∀ (s : State) (d : Drain), s.pins.por = false → s.commit.draining = some d →
    let clear := (∀ x ∈ s.tracker.txns, (x.phase = .waitingForward ∨ x.phase = .forwarded) → d.meetsBurst x.req = false) ∧
      ∀ r, s.scan.engine = .reading r → d.meetsChunk r.addr.toNat = false
    (clear → ∃ t u : State,
      t = switchSet (closeDrain s) d.quiesce ∧
      u = { t with
        commit := { draining := none, outcome := .done, switched := unionIx d.immediate d.quiesce, leftPending := noIx }
        events := t.events.take (commitEvent .commitDone (unionIx d.immediate d.quiesce) noIx 0) } ∧
      exec .drainComplete s = .next (releaseHeld u true)) ∧
    (¬clear → exec .drainComplete s = .next s)

/-- The release of held transactions after a drain (R32, R33, R78): while one is held, the oldest leaves HELD, judged whole by the
table then in force with the commands between its dirty additions, and the rest follows from the state that leaves; with none held,
what follows is the recording of eligible answers and the giving of the channel. The judgment (R32, R47, R48, R49, R54, R55, R63,
R68 to R76): malformed, answered ERR, counted and reported; a read refused for the lowest region that refuses reads, or forwarded; a
write refused for its cause set, or handed on and forwarded. That the commands between are kept with the write from its last beat on, and come
only where the port is free to take them, and that none comes between the additions of two writes released together, is the model's
choice (DESIGN CHOICE, log entry 13). -/
def Obligations.HeldAreReleased : Prop :=
  (∀ (s : State) (portFree : Bool),
    ((∀ x ∈ s.tracker.txns, x.isHeld = false) → releaseHeld s portFree = takeTurns s) ∧
    (∀ (before after : List Txn) (x : Txn), s.tracker.txns = before ++ x :: after → (∀ y ∈ before, y.isHeld = false) →
      x.isHeld = true →
      let judged := judge s { x with phase := .judging } (if portFree then x.between else [])
      releaseHeld s portFree = releaseHeld { judged.1 with
        tracker := { judged.1.tracker with txns := before ++ judged.2 :: after } } portFree)) ∧
  ∀ (s : State) (x : Txn) (between : List DirtyCommand), x.req.beatsLegal = true →
    let beats := x.beatsHeld
    let counted := countWindows s (findings s x.req beats)
    (requestWellFormed x.req = false → judge s x between =
      ({ s with
          tracker := { s.tracker with malformed := satInc s.tracker.malformed }
          events := s.events.take (malformedEvent x.req) },
        { x with phase := .localAnswer .malformed .err, slot := none })) ∧
    (requestWellFormed x.req = true → x.req.dir = .read → ∀ i, MeetsRegion s x.req i → RefusesReads s i →
      (∀ j, MeetsRegion s x.req j → RefusesReads s j → i ≤ j) → judge s x between =
        ({ s with
            policy := { s.policy with refusals := s.policy.refusals.set i (satInc (s.policy.refusals.get i)) }
            events := s.events.take (readRefusedEvent i x.req) },
          { x with phase := .localAnswer (.refuse i) .err })) ∧
    (requestWellFormed x.req = true → x.req.dir = .read → (∀ i, MeetsRegion s x.req i → ¬RefusesReads s i) →
      judge s x between =
        ({ s with fwd := { s.fwd with queue := s.fwd.queue ++ [x.tag], idleGap := none } },
          { x with phase := .waitingForward })) ∧
    (requestWellFormed x.req = true → x.req.dir = .write → causeSet s x.req beats = [] →
      let tracked := trackedBlocks s x.req beats ≠ []
      let flying : State := { counted with dirty := { counted.dirty with
        inFlight := if tracked then s.dirty.inFlight + 1 else s.dirty.inFlight } }
      let handed := handOff flying x.req beats between
      judge s x between =
        ({ handed with fwd := { handed.fwd with queue := handed.fwd.queue ++ [x.tag], idleGap := none } },
          { x with
            phase := .waitingForward, strobes := beats.map WriteBeat.strobes, tracked := decide tracked })) ∧
    (requestWellFormed x.req = true → x.req.dir = .write → ∀ i cause rest, causeSet s x.req beats = (i, cause) :: rest →
      let causes := (i, cause) :: rest
      let status := if ∀ c ∈ causes, (s.table.active.get c.1).refusal = .silent then RespStatus.ok else RespStatus.err
      judge s x between =
        ({ s with
            policy := { refusals := causes.foldl (fun t c => t.set c.1 (satInc (t.get c.1))) s.policy.refusals
                        windows := counted.policy.windows }
            events := s.events.take (refusalEvent s x.req beats causes i cause) },
          { x with phase := .localAnswer (.refuse i) status, slot := none }))

/-- The end of write drains (R110, R115, R116): each region in DRAINING_WRITES that awaits no write goes to QUEUED, its SIGN job joining
the SIGN class at its tail, the lowest index first, and an IDLE engine takes the head as it joins. Stated region by region; for all
at once where the engine is not IDLE; and with no such region nothing happens. It comes with the step that brings writes awaited to 0,
which leaves no such region behind, so that WRITE_DRAIN_DONE, which does the same, finds none (DEDUCED, log entry 4). The first job may
fall together with the expiry of the round timer (R133, `meetRound` in TimersExpire, DESIGN CHOICE, log entry 26). -/
def Obligations.WriteDrainsEnd : Prop :=
  ∀ s : State,
    let done := fun i : Ix => s.sig.life.get i = some (.signing (.drainingWrites 0))
    (s.pins.por = false → exec .writeDrainDone s = .next (finishWriteDrains s)) ∧
    ((∀ i, ¬done i) → finishWriteDrains s = s) ∧
    (s.scan.engine ≠ .idle → (∃ i, done i) → finishWriteDrains s = { s with
      sig := { s.sig with life := Tab.ofFn fun i => if done i then some (.signing .queued) else s.sig.life.get i }
      scan := { s.scan with
        queue := { s.scan.queue with sign := s.scan.queue.sign ++ allIx.filter (fun i => decide (done i)) }
        roundTimer := none } }) ∧
    (∀ i, done i → (∀ j, done j → i ≤ j) →
      (∀ j ∈ s.scan.queue.sign, s.sig.life.get j = some (.signing .queued)) →
      let met := meetRound s
      finishWriteDrains s = finishWriteDrains (settle { met with
        sig := { met.sig with life := met.sig.life.set i (some (.signing .queued)) }
        scan := { met.scan with queue := { met.scan.queue with sign := met.scan.queue.sign ++ [i] } } }))

/-! ## Commands of the Region Table and the Commit Unit -/

/-- STAGE_ENTRY and DISCARD (R13, R15, R18): the tests in their order, a refusal changing nothing; an accepted entry replaces the
staged one and the index is pending exactly when it then differs from the active one; a discard copies the active entries of its
mask into the staged ones, and its indices are not pending. -/
def Obligations.StagingCommands : Prop :=
  ∀ (s : State) (i : Ix) (raw : RawEntry) (mask : BitVec 16), s.pins.por = false →
    let index := BitVec.ofNat 8 i.val
    let quiesced := fun j : Ix => ∃ d, s.commit.draining = some d ∧ d.quiesce.get j = true
    (∀ b : Byte, 15 < b.toNat →
      exec (.stageEntry b raw) s = .next (answered s 17 { status := .range, result := [0, 0, 0] })) ∧
    (quiesced i → exec (.stageEntry index raw) s = .next (answered s 17 { status := .busy, result := [0, 0, 0] })) ∧
    (∀ check, ¬quiesced i → fieldChecks raw = .error check → exec (.stageEntry index raw) s =
      .next (answered s 17 { status := .range, result := [BitVec.ofNat 8 check, 0, 0] })) ∧
    (∀ e, ¬quiesced i → fieldChecks raw = .ok e →
      let differs := decide (e ≠ s.table.active.get i)
      let set := s.table.pendingSet.set i differs
      exec (.stageEntry index raw) s = .next (answered
        { s with table := { s.table with staged := s.table.staged.set i e, pendingSet := set } } 17
        { status := .ok, result := (if differs then 1 else 0) :: maskBytes set })) ∧
    ((∃ j, (maskSet mask).get j = true ∧ quiesced j) →
      exec (.discard mask) s = .next (answered s 2 { status := .busy, result := [0, 0, 0, 0] })) ∧
    ((∀ j, (maskSet mask).get j = true → ¬quiesced j) →
      let named := fun j : Ix => mask.getLsbD j.val
      let left := Tab.ofFn fun j => s.table.pendingSet.get j && !named j
      let gone := Tab.ofFn fun j => named j && s.table.pendingSet.get j
      exec (.discard mask) s = .next (answered
        { s with table := { s.table with
          staged := Tab.ofFn fun j => if named j then s.table.active.get j else s.table.staged.get j
          pendingSet := left } } 2
        { status := .ok, result := maskBytes gone ++ maskBytes left }))

/-- COMMIT (R24, R25, R26, R27, R30, R41): BUSY while a commit drains, EMPTY with nothing pending, INVALID for an overlap in the
intermediate or else in the final table, naming the lowest index; a refusal changes nothing. Otherwise the pending entries without
quiesce are switched at once; with no other the commit ends DONE; with one the unit is DRAINING on the old and new ranges of the
quiesce set, its timer started, and a drain that has nothing to wait for completes at once: it is entered and left, and the response reports IDLE together with the
quiesce set that was switched (DEDUCED from R26, R30 and R41, log entry 10). R156 leaves open which of the events of different producers
is taken first; that the SIGN_FAILED of a switch comes before COMMIT_DONE is the model's order (DEDUCED, log entry 11). A drain that
completes at once is stated where nothing is held, as in every state a run reaches while no commit drains (StreamsStayInOrder). -/
def Obligations.CommitCommand : Prop :=
  ∀ s : State, s.pins.por = false →
    let refuse := fun (status : Status) (own : List Byte) =>
      exec .commit s = .next (answered s 0 { status := status, result := own })
    let immediate := Tab.ofFn fun i => s.table.pendingSet.get i && !(s.table.staged.get i).quiesce
    let quiesce := Tab.ofFn fun i => s.table.pendingSet.get i && (s.table.staged.get i).quiesce
    let withStaged := fun which : IxSet => Tab.ofFn fun i =>
      if which.get i then s.table.staged.get i else s.table.active.get i
    let clashes := fun (table : Tab Entry) (i : Ix) => ∃ j, j ≠ i ∧ overlaps (table.get i) (table.get j) = true
    let lowest := fun (table : Tab Entry) (i : Ix) => clashes table i ∧ ∀ j, clashes table j → i ≤ j
    let switched := switchSet s immediate
    let timer : Timer := { limit := s.mgmt.timing.drain.toNat * s.mgmt.timing.clockMhz.toNat, elapsed := 0
                           mhz := s.mgmt.timing.clockMhz.toNat }
    let drain : Drain :=
      { quiesce := quiesce, immediate := immediate, ranges := drainRanges s.table quiesce, timer := timer }
    let t : State := { switched with commit := { switched.commit with draining := some drain } }
    let waiting : State := if t.scan.engine = .waitingGap ∧ withheld t = true then
      { t with scan := { t.scan with starvation := none, forced := false } } else t
    let free := s.commit.draining = none ∧ (∃ i, s.table.pendingSet.get i = true) ∧
      (∀ i, ¬clashes (withStaged immediate) i) ∧ ∀ i, ¬clashes (withStaged s.table.pendingSet) i
    (s.commit.draining ≠ none → refuse .busy [0, 0, 0, 0, 0]) ∧
    (s.commit.draining = none → (∀ i, s.table.pendingSet.get i = false) → refuse .empty [0, 0, 0, 0, 0]) ∧
    (∀ i, s.commit.draining = none → (∃ j, s.table.pendingSet.get j = true) → lowest (withStaged immediate) i →
      refuse .invalid [0, BitVec.ofNat 8 i.val, 0, 0, 0]) ∧
    (∀ i, s.commit.draining = none → (∃ j, s.table.pendingSet.get j = true) → (∀ j, ¬clashes (withStaged immediate) j) →
      lowest (withStaged s.table.pendingSet) i → refuse .invalid [1, BitVec.ofNat 8 i.val, 0, 0, 0]) ∧
    (free → (∀ i, quiesce.get i = false) → exec .commit s = .next (answered
      { switched with
        commit := { draining := none, outcome := .done, switched := immediate, leftPending := noIx }
        events := switched.events.take (commitEvent .commitDone immediate noIx 0) } 0
      { status := .ok, result := 0 :: (maskBytes immediate ++ [0, 0]) })) ∧
    (free → (∃ i, quiesce.get i = true) → drainMet waiting drain = false → exec .commit s = .next (answered waiting 0
      { status := .ok, result := 1 :: (maskBytes immediate ++ maskBytes quiesce) })) ∧
    (free → (∃ i, quiesce.get i = true) → drainMet waiting drain = true → (∀ x ∈ s.tracker.txns, x.isHeld = false) →
      ∃ u, exec .drainComplete waiting = .next u ∧
      exec .commit s = .next (answered u 0
        { status := .ok, result := 0 :: (maskBytes immediate ++ maskBytes quiesce) }))

/-- What a switch does (R37, R38, R39), for every engine state: the staged entries of its indices are active and the indices no longer
pending; at an index whose enabled, kind, base or size changes, the life state is BLANK under an enabled CHECKED entry and gone
otherwise, its queued job is gone, and the Dirty List entries and overflow flag of an enabled TRACK entry are gone; the active job of
such an index is abandoned, with SIGN_FAILED for a SIGN job: the engine drops it from WAITING_GAP or HALTED into IDLE, stays OFF, or
discards its outstanding read; an IDLE engine takes the head of its queue; everything else is kept. For several indices R37 to R39 give
the effects of the switch no order: that the queued jobs of all of them go first, that the active job is then abandoned, and that an
IDLE engine then takes its head, is the model's order (DEDUCED, log entry 11). -/
def Obligations.SwitchEffects : Prop :=
  ∀ (s : State) (which : IxSet),
    let old := s.table.active
    let new : Tab Entry := Tab.ofFn fun i => if which.get i then s.table.staged.get i else old.get i
    let changed := fun i : Ix => which.get i && identityChange (old.get i) (s.table.staged.get i)
    let untracked := fun i : Ix => changed i && (old.get i).isTrack
    let kept := fun jobs : List Ix => jobs.filter fun i => !changed i
    let t : State := { s with
      table := { s.table with
        active := new, pendingSet := Tab.ofFn fun i => s.table.pendingSet.get i && !which.get i }
      sig := { s.sig with
        life := Tab.ofFn fun i =>
          if changed i then (if (new.get i).isChecked then some .blank else none) else s.sig.life.get i }
      dirty := { s.dirty with
        list := s.dirty.list.filter fun e => !untracked e.region
        overflow := Tab.ofFn fun i => s.dirty.overflow.get i && !untracked i }
      scan := { s.scan with
        queue :=
          { sign := kept s.scan.queue.sign, demand := kept s.scan.queue.demand, round := kept s.scan.queue.round } } }
    ((∀ c, s.scan.context = some c → changed c.region = false) → switchSet s which = settle t) ∧
    (∀ c, s.scan.context = some c → changed c.region = true → s.scan.engine ≠ .idle → switchSet s which = settle { t with
      sig := { t.sig with lastResult := s.sig.lastResult.set c.region .abandoned }
      events := if c.kind = .sign then
          s.events.take (signFailedEvent c.region (BitVec.ofNat 32 (256 * (old.get c.region).base.toNat)))
        else s.events
      scan := { t.scan with
        engine := (match s.scan.engine with
          | .reading r => .reading { r with disposition := .discard }
          | .waitingGap | .halted | .idle => .idle
          | .off => .off)
        context := none, streak := 0
        starvation := if s.scan.engine = .waitingGap then none else s.scan.starvation
        forced := if s.scan.engine = .waitingGap then false else s.scan.forced } }) ∧
    (∀ i, identityChange (old.get i) (s.table.staged.get i) = true ↔
      (s.table.staged.get i).enabled ≠ (old.get i).enabled ∨
      (s.table.staged.get i).part.kindCode ≠ (old.get i).part.kindCode ∨
      (s.table.staged.get i).base ≠ (old.get i).base ∨ (s.table.staged.get i).size ≠ (old.get i).size)

/-! ## Commands of the Signature Unit -/

/-- OPEN (R111, R112): from every life state but OPEN the region is OPEN without a reference, its queued job is gone and its active
job abandoned, and an engine left IDLE takes the head of its queue. -/
def Obligations.OpenCommand : Prop :=
  ∀ (s : State) (i : Ix) (life : Life), s.pins.por = false → (s.table.active.get i).isChecked = true →
    s.sig.life.get i = some life → life ≠ .opened →
    let others := fun jobs : List Ix => jobs.filter (· ≠ i)
    let t : State := { s with
      sig := { s.sig with life := s.sig.life.set i (some .opened) }
      scan := { s.scan with queue :=
        { sign := others s.scan.queue.sign, demand := others s.scan.queue.demand, round := others s.scan.queue.round } } }
    exec (.openRegion (BitVec.ofNat 8 i.val)) s =
      .next (answered (settle (abandon t i)) 1 { status := .ok, result := [2, 0, 0, 0] })

/-- CLOSE and RESIGN (R111, R113, R114, R116): CLOSE from OPEN; RESIGN from BLANK, INTACT and CORRUPT, the reference dropped and the
region's VERIFY job removed or abandoned first. With writes in flight into the range the region is in DRAINING_WRITES, awaiting
them; with none its SIGN job joins the queue, the response reports QUEUED, and an IDLE engine takes the head. That the response reports QUEUED
also when an IDLE engine takes the job within the command is the model's reading (DEDUCED, log entry 19), and so is the order of
RESIGN's effects: the abandonment, an engine left IDLE taking its head, and then the SIGN job joining (DEDUCED, log entry 11). A SIGN
job that joins may fall together with the expiry of the round timer (R133, `meetRound` in TimersExpire), at RESIGN one that runs before it
or, with round interval 0, one that starts as the engine is left IDLE; a round enqueued before RESIGN loses its region again, and the
engine takes the SIGN job (DESIGN CHOICE, log entry 26). -/
def Obligations.CloseAndResign : Prop :=
  ∀ (s : State) (i : Ix) (life : Life), s.pins.por = false → (s.table.active.get i).isChecked = true →
    s.sig.life.get i = some life →
    let others := fun jobs : List Ix => jobs.filter (· ≠ i)
    let signing := fun (c : Instr) (prepared joining : State → State) =>
      let n := (s.tracker.txns.filter fun x => x.inFlight && x.isInto (s.table.active.get i)).length
      (0 < n → exec c s = .next (answered
        (let t := prepared s
         { t with sig := { t.sig with life := t.sig.life.set i (some (.signing (.drainingWrites n))) } }) 1
        { status := .ok, result := [3, 1, BitVec.ofNat 8 n, 0] })) ∧
      (n = 0 → exec c s = .next (answered (let t := joining (prepared (meetRound s)); settle
        { t with
          sig := { t.sig with life := t.sig.life.set i (some (.signing .queued)) }
          scan := { t.scan with queue := { t.scan.queue with sign := t.scan.queue.sign ++ [i] } } }) 1
        { status := .ok, result := [3, 2, 0, 0] }))
    (life = .opened → signing (.closeRegion (BitVec.ofNat 8 i.val)) (fun t => t) fun t => t) ∧
    (life = .blank ∨ (∃ ref, life = .intact ref) ∨ (∃ ref, life = .corrupt ref) →
      let dropped := fun t : State =>
        let left := abandon { t with
          sig := { t.sig with life := t.sig.life.set i (some .blank) }
          scan := { t.scan with queue :=
            { sign := others t.scan.queue.sign, demand := others t.scan.queue.demand
              round := others t.scan.queue.round } } } i
        if t.scan.engine = .idle then left else settle left
      signing (.resign (BitVec.ofNat 8 i.val)) dropped meetRound)

/-- VERIFY's outcomes (R117, R130) from INTACT and CORRUPT, and the refusals of the four life-cycle commands (R111): RANGE for an
index above 15, STATE where the active entry is not an enabled CHECKED entry, or where the life state is not one the command is
allowed from. A refusal changes nothing. A job that joins may fall together with the expiry of the round timer (R133, `meetRound` in
TimersExpire, DESIGN CHOICE, log entry 26): it then converts the ROUND job that a round enqueued first gave its region. -/
def Obligations.VerifyAndRefusals : Prop :=
  ∀ (s : State) (i : Ix), s.pins.por = false →
    let b := BitVec.ofNat 8 i.val
    let refuse := fun (c : Instr) (status : Status) =>
      exec c s = .next (answered s 1 { status := status, result := [0, 0, 0, 0] })
    let allowed := fun (c : Instr) (l : Life) =>
      (c = .openRegion b ∧ l ≠ .opened) ∨ (c = .closeRegion b ∧ l = .opened) ∨
      (c = .resign b ∧ l ≠ .opened ∧ ∀ sub, l ≠ .signing sub) ∨
      (c = .verify b ∧ ((∃ ref, l = .intact ref) ∨ ∃ ref, l = .corrupt ref))
    let four : List Instr := [.openRegion b, .closeRegion b, .resign b, .verify b]
    (∀ k : Byte, 15 < k.toNat → refuse (.openRegion k) .range ∧ refuse (.closeRegion k) .range ∧
      refuse (.resign k) .range ∧ refuse (.verify k) .range) ∧
    (∀ c ∈ four, (s.table.active.get i).isChecked = false → refuse c .state) ∧
    (∀ c ∈ four, ∀ l, (s.table.active.get i).isChecked = true → s.sig.life.get i = some l → ¬allowed c l →
      refuse c .state) ∧
    (∀ l, (s.table.active.get i).isChecked = true → s.sig.life.get i = some l →
      ((∃ ref, l = .intact ref) ∨ ∃ ref, l = .corrupt ref) →
      let code : Byte := match l with
        | .intact _ => 4
        | _ => 5
      let ok := fun (t : State) (outcome : Byte) =>
        exec (.verify b) s = .next (answered t 1 { status := .ok, result := [code, 0, 0, outcome] })
      (∀ c, s.scan.context = some c → c.region = i → ok s 4) ∧
      ((∀ c, s.scan.context = some c → c.region ≠ i) → s.scan.queue.jobOf i = some .verifyDemand → ok s 3) ∧
      ((∀ c, s.scan.context = some c → c.region ≠ i) → s.scan.queue.jobOf i = some .verifyRound →
        ok (settle { s with scan := { s.scan with queue := { s.scan.queue with
          round := s.scan.queue.round.filter (· ≠ i), demand := s.scan.queue.demand ++ [i] } } }) 2) ∧
      ((∀ c, s.scan.context = some c → c.region ≠ i) → s.scan.queue.jobOf i = none →
        let met := meetRound s
        ok (settle { met with scan := { met.scan with queue := { met.scan.queue with
          round := met.scan.queue.round.filter (· ≠ i), demand := met.scan.queue.demand ++ [i] } } })
          (if i ∈ met.scan.queue.round then 2 else 1)))

/-! ## Status commands -/

/-- IDENTIFY, DIRTY_STATUS and EVENT_STATUS change nothing but the port's own state, and answer with the values they name (R101,
R164, R174), the last two also as they stand after power-on reset. Bits 6 and 7 of a flag mask reported, to which section 10.6 gives no
meaning, are zero, the 0 and 0x3F after power-on reset among them: this is the model's choice (DESIGN CHOICE, log entry 23). -/
def Obligations.IdentityAndUnitStatus : Prop :=
  (∀ s : State, s.pins.por = false →
    let two := fun x : BitVec 16 => [x.extractLsb' 0 8, x.extractLsb' 8 8]
    let timing := s.mgmt.timing
    let alert := s.events.flags.meets s.events.mask
    exec .identify s = .next (answered s 0
      { status := .ok
        result := [0x40, 0x03, 1, 16, 16, 4, 16, 64, 32] ++ two timing.clockMhz ++ two timing.idleHold ++
          two timing.starvation ++ two timing.drain ++ two timing.round }) ∧
    exec .dirtyStatus s = .next (answered s 0
      { status := .ok
        result := [BitVec.ofNat 8 s.dirty.list.length, BitVec.ofNat 8 s.dirty.threshold] ++
          maskBytes s.dirty.overflow ++ [BitVec.ofNat 8 s.dirty.inFlight] }) ∧
    exec .eventStatus s = .next (answered s 0
      { status := .ok
        result := [s.events.flags.byte, s.events.mask.byte, if alert then 1 else 0,
          BitVec.ofNat 8 s.events.log.length, s.events.dropped] ++ two s.events.nextSeq })) ∧
  exec .dirtyStatus State.reset = .next (answered State.reset 0 { status := .ok, result := [0, 48, 0, 0, 0] }) ∧
  exec .eventStatus State.reset = .next (answered State.reset 0 { status := .ok, result := [0, 0x3F, 0, 0, 0, 0, 0] })

/-- READ_ENTRY, COMMIT_STATUS, REGION_STATUS, SCAN_STATUS and PORT_STATUS change nothing but the port's own state, and answer with
the values they name in the layouts of section 10.6 (R19, R40, R60, R125, R151, R177, R179); a bad index or selector gets RANGE.
After power-on reset PORT_STATUS reports zero throughout. Two points are the model's own. Bits of a byte of indications that section 10.6
gives no meaning, bits 3 to 7 of PORT_STATUS among them, are zero (DESIGN CHOICE, log entry 23). SCAN_STATUS takes the chunk at the
cursor as the next chunk in every engine state, READING among them (DEDUCED, log entry 25). -/
def Obligations.StatusReports : Prop :=
  exec .portStatus State.reset = .next (answered State.reset 0 { status := .ok, result := List.replicate 11 0 }) ∧
  ∀ (s : State) (i : Ix), s.pins.por = false →
    let index := BitVec.ofNat 8 i.val
    let ok := fun (args : Nat) (result : List Byte) => answered s args { status := .ok, result := result }
    let count := fun (p : Txn → Bool) => BitVec.ofNat 8 (s.tracker.txns.filter p).length
    let entry := fun (e : Entry) => e.bytes ++ [e.part.presence, if s.table.pendingSet.get i then 1 else 0]
    let life := s.sig.life.get i
    let commitTail := maskBytes s.table.pendingSet ++ [s.commit.outcome.code, s.commit.outcome.reason] ++
      maskBytes s.commit.switched ++ maskBytes s.commit.leftPending
    let flag := fun (b : Bool) (k : Nat) => if b then 2 ^ k else 0
    let context : List Byte := match s.scan.context with
      | some c => [BitVec.ofNat 8 c.region.val, jobKindCode (some c.kind)] ++ leBytes 4 c.cursor ++ leBytes 4 c.crc.toNat ++
          leBytes 4 (min c.chunksDone.toNat 4294967295)
      | none => List.replicate 14 0
    let jobs := s.scan.queue.sign.map (fun j => (j, 1)) ++ s.scan.queue.demand.map (fun j => (j, 3)) ++
      s.scan.queue.round.map (fun j => (j, 2))
    (∀ b sel : Byte, 15 < b.toNat ∨ 1 < sel.toNat → exec (.readEntry b sel) s =
      .next (answered s 2 { status := .range, result := List.replicate 18 0 })) ∧
    exec (.readEntry index 0) s = .next (ok 2 (entry (s.table.staged.get i))) ∧
    exec (.readEntry index 1) s = .next (ok 2 (entry (s.table.active.get i))) ∧
    (s.commit.draining = none → exec .commitStatus s = .next (ok 0 (List.replicate 8 0 ++ commitTail))) ∧
    (∀ d, s.commit.draining = some d → exec .commitStatus s = .next (ok 0
      ([1] ++ maskBytes d.quiesce ++ leBytes 2 (d.timer.elapsed / d.timer.mhz) ++
        [count fun x => x.isForward && d.meetsBurst x.req, BitVec.ofNat 8 (countedChunk s d), count Txn.isHeld] ++
        commitTail))) ∧
    (∀ b : Byte, 15 < b.toNat → exec (.regionStatus b) s =
      .next (answered s 1 { status := .range, result := List.replicate 17 0 })) ∧
    exec (.regionStatus index) s = .next (ok 1
      ([BitVec.ofNat 8 (flag life.isSome 0 + flag (referenceOf life).isSome 1), lifeCode life, subPhaseCode life,
          BitVec.ofNat 8 (awaitedOf life)] ++
        leBytes 4 ((referenceOf life).getD 0).toNat ++ jobReport s i ++ [(s.sig.lastResult.get i).code] ++
        leBytes 2 (s.sig.verifyCount.get i).toNat ++ leBytes 2 (s.policy.refusals.get i).toNat ++
        leBytes 2 (s.policy.windows.get i).toNat)) ∧
    exec .scanStatus s = .next (ok 0
      ([s.scan.engine.code, BitVec.ofNat 8 (flag s.scan.engine.offPending 0 + flag s.scan.engine.discarding 1 +
          flag s.scan.roundMode 2 + flag s.scan.roundTimer.isSome 3 + flag s.scan.forced 4 + flag (withheld s) 5 +
          flag s.scan.context.isSome 6)] ++
        context ++ [BitVec.ofNat 8 s.scan.streak, BitVec.ofNat 8 jobs.length] ++
        padTo 32 (jobs.flatMap fun j => [BitVec.ofNat 8 j.1.val, j.2]) ++ leBytes 2 s.scan.roundCount.toNat ++
        leBytes 2 s.scan.forcedCount.toNat)) ∧
    exec .portStatus s = .next (ok 0
      ([BitVec.ofNat 8 s.tracker.txns.length, count fun x => x.slot.isSome, count (·.phase = .held .range),
          count (·.phase = .held .stream), count (·.phase = .waitingForward), count (·.phase = .forwarded),
          BitVec.ofNat 8 (flag (chunkOutstanding s) 0 + flag s.scan.forced 1 + flag s.pins.prst 2)] ++
        leBytes 2 s.fwd.memErrors.toNat ++ leBytes 2 s.tracker.malformed.toNat))

/-! ## Commands of the Scan Engine -/

/-- SCAN_CONTROL's five actions (R132, R138, R142, R143, R144, R145, R150), for every engine state; the response carries the engine
state, off pending and round mode after the command. RESUME outside HALTED is refused with STATE and changes nothing. -/
def Obligations.ScanControl : Prop :=
  ∀ s : State, s.pins.por = false →
    let ok := fun (c : Instr) (t : State) => exec c s = .next (answered t 1
      { status := .ok
        result := [t.scan.engine.code, if t.scan.engine.offPending then 1 else 0, if t.scan.roundMode then 1 else 0] })
    let moved := fun (engine : EngineState) => ({ s with scan := { s.scan with engine := engine } } : State)
    let waiting := fun (streak : Nat) => ({ s with scan := { s.scan with
      engine := .waitingGap, streak := streak, starvation := startedStarvation s } } : State)
    let mode := fun (on : Bool) (timer : Option Timer) =>
      ({ s with scan := { s.scan with roundMode := on, roundTimer := timer } } : State)
    (s.scan.engine = .off → s.scan.context = none → ok .enable (settle (moved .idle))) ∧
    (s.scan.engine = .off → s.scan.context.isSome = true → s.scan.streak < 3 → ok .enable (waiting s.scan.streak)) ∧
    (s.scan.engine = .off → s.scan.context.isSome = true → 3 ≤ s.scan.streak → ok .enable (moved .halted)) ∧
    (∀ r, s.scan.engine = .reading r → ok .enable (moved (.reading { r with offPending := false })) ∧
      ok .disable (moved (.reading { r with offPending := true }))) ∧
    (s.scan.engine = .idle ∨ s.scan.engine = .waitingGap ∨ s.scan.engine = .halted → ok .enable s) ∧
    (s.scan.engine = .off → ok .disable s) ∧
    (s.scan.engine = .idle →
      ok .disable { s with scan := { s.scan with engine := .off, roundTimer := none } }) ∧
    (s.scan.engine = .waitingGap →
      ok .disable { s with scan := { s.scan with engine := .off, starvation := none, forced := false } }) ∧
    (s.scan.engine = .halted → ok .disable (moved .off)) ∧
    (s.scan.engine = .idle → s.scan.queue.round = [] →
      ok .roundsOn (mode true (some (s.scan.roundTimer.getD (startedRound s))))) ∧
    (s.scan.engine ≠ .idle ∨ s.scan.queue.round ≠ [] → ok .roundsOn (mode true none)) ∧
    ok .roundsOff (mode false none) ∧
    (s.scan.engine = .halted → ok .resume (waiting 0)) ∧
    (s.scan.engine ≠ .halted → exec .resume s = .next (answered s 1 { status := .state, result := [0, 0, 0] }))

/-! ## The Event Unit -/

/-- How an event is taken (R154, R156, R157, R158, R159, R160): the flag of its class is set; a POLICY event that matches the newest
record, whose repeat is below 255, is merged into it; any other is stored in a log with room, with next seq and the dropped
count, and otherwise dropped, counted, and the LOG flag set. -/
def Obligations.EventsAreTaken : Prop :=
  ∀ (u : EventUnit) (e : Event),
    let code := e.kind.code.toNat
    let flagged : Flags := { u.flags with
      policy := u.flags.policy || decide (code ≤ 5)
      integrity := u.flags.integrity || decide (code = 6)
      scan := u.flags.scan || decide (7 ≤ code ∧ code ≤ 11)
      config := u.flags.config || decide (12 ≤ code ∧ code ≤ 14)
      dirty := u.flags.dirty || decide (15 ≤ code) }
    let matching := fun r : Record => code ≤ 5 ∧ r.event.kind = e.kind ∧ r.event.region = e.region ∧
      r.event.hostId = e.hostId ∧ r.repeats.toNat < 255
    (∀ older newest, u.log = older ++ [newest] → matching newest →
      u.take e = { u with log := older ++ [{ newest with repeats := newest.repeats + 1 }], flags := flagged }) ∧
    ((∀ older newest, u.log = older ++ [newest] → ¬matching newest) → u.log.length < 32 →
      u.take e = { u with
        log := u.log ++ [{ seq := u.nextSeq, event := e, repeats := 1, droppedBefore := u.dropped }]
        nextSeq := u.nextSeq + 1, dropped := 0, flags := flagged }) ∧
    ((∀ older newest, u.log = older ++ [newest] → ¬matching newest) → 32 ≤ u.log.length →
      u.take e = { u with
        dropped := if u.dropped = 255 then 255 else u.dropped + 1, flags := { flagged with log := true } })

/-- READ_EVENT, CLEAR_FLAGS and SET_ALERT_MASK (R161, R162, R163, R165, R177): the oldest record leaves the log with its answer; the
named flags are cleared; the mask is replaced, and tells with the flags whether ALERT_N is low. EMPTY and RANGE change nothing. Bits of a
reported flag mask and of a record's presence byte to which section 10.6 gives no meaning are zero (DESIGN CHOICE, log entry 23). -/
def Obligations.EventCommands : Prop :=
  ∀ (s : State) (m : Byte), s.pins.por = false →
    let named : Flags := { policy := m.getLsbD 0, integrity := m.getLsbD 1, scan := m.getLsbD 2, config := m.getLsbD 3,
                           dirty := m.getLsbD 4, log := m.getLsbD 5 }
    let f := s.events.flags
    let left : Flags := { policy := f.policy && !named.policy, integrity := f.integrity && !named.integrity,
                          scan := f.scan && !named.scan, config := f.config && !named.config,
                          dirty := f.dirty && !named.dirty, log := f.log && !named.log }
    let low := (f.policy && named.policy) || (f.integrity && named.integrity) || (f.scan && named.scan) ||
      (f.config && named.config) || (f.dirty && named.dirty) || (f.log && named.log)
    (s.events.log = [] →
      exec .readEvent s = .next (answered s 0 { status := .empty, result := List.replicate 21 0 })) ∧
    (∀ r rest, s.events.log = r :: rest → exec .readEvent s = .next (answered
      { s with events := { s.events with log := rest } } 0
      { status := .ok, result := r.bytes ++ [BitVec.ofNat 8 rest.length] })) ∧
    (64 ≤ m.toNat →
      exec (.clearFlags m) s = .next (answered s 1 { status := .range, result := [0] }) ∧
      exec (.setAlertMask m) s = .next (answered s 1 { status := .range, result := [0, 0] })) ∧
    (m.toNat < 64 →
      exec (.clearFlags m) s = .next (answered { s with events := { s.events with flags := left } } 1
        { status := .ok, result := [left.byte] }) ∧
      exec (.setAlertMask m) s = .next (answered { s with events := { s.events with mask := named } } 1
        { status := .ok, result := [m, if low then 1 else 0] }))

/-! ## The Dirty Tracker -/

/-- The addition of a dirty block (R96, R97, R98): a block in the list merges and changes nothing; otherwise it is appended where
the list has room, with DIRTY_THRESHOLD when its length becomes the threshold; and otherwise it is lost, the region's overflow
flag set, with DIRTY_OVERFLOW when it was clear. The blocks of a write (R94, R95): those of its TRACK regions that hold a strobed byte
of it, counted from the region's base, in ascending address order, at most two. The hand-off (R76, R88, R95, R103): a WINDOW_REPORT
for each finding of a REPORT region, lowest address first, then the blocks one after the other, and between two the commands that
come between, each carried out whole as that command. That a tracked write counts in flight from the beginning of its hand-off, and
that the commands between are an operand, with no fetch and no command of the Event Unit among them, is the model's choice (DESIGN
CHOICE, log entries 13 and 27). -/
def Obligations.DirtyBlocksAndHandOff : Prop :=
  (∀ (s : State) (host : HostId) (i : Ix) (e : Entry) (g : Granule) (block : Nat),
    let entry : DirtyEntry := { region := i, block := block }
    let added : State := { s with dirty := { s.dirty with list := s.dirty.list ++ [entry] } }
    (entry ∈ s.dirty.list → addBlock s host i e g block = s) ∧
    (entry ∉ s.dirty.list → s.dirty.list.length < 64 → addBlock s host i e g block =
      if s.dirty.list.length + 1 = s.dirty.threshold then
        { added with events := s.events.take (dirtyThresholdEvent host i e g block s.dirty.threshold) }
      else added) ∧
    (entry ∉ s.dirty.list → 64 ≤ s.dirty.list.length → s.dirty.overflow.get i = false → addBlock s host i e g block =
      { s with dirty := { s.dirty with overflow := s.dirty.overflow.set i true }
               events := s.events.take (dirtyOverflowEvent host i e g block) }) ∧
    (entry ∉ s.dirty.list → 64 ≤ s.dirty.list.length → s.dirty.overflow.get i = true →
      addBlock s host i e g block = s)) ∧
  (∀ (s : State) (r : Request) (beats : List WriteBeat) (between : List DirtyCommand), r.beatsLegal = true →
    requestWellFormed r = true → NoOverlap s.table.active →
    let blocks := trackedBlocks s r beats
    let first := fun b : Ix × Entry × Granule × Nat => 256 * b.2.1.base.toNat + b.2.2.2 * b.2.2.1.bytes
    let add := fun (t : State) (b : Ix × Entry × Granule × Nat) => addBlock t r.id b.1 b.2.1 b.2.2.1 b.2.2.2
    let reported : State := { s with
      events := ((findings s r beats).filter fun f => f.2.1.action = .report).foldl
        (fun u f => u.take (windowReportEvent r f.1 f.2.2)) s.events }
    (∀ i e g n, (i, e, g, n) ∈ blocks ↔ e = s.table.active.get i ∧ e.part = .track g ∧
      ∃ a, StrobedByte r (beats.map WriteBeat.strobes) a ∧ regionAt s.table.active a = some i ∧
        n = (a - 256 * e.base.toNat) / g.bytes) ∧
    blocks.Pairwise (fun b c => first b < first c) ∧ blocks.length ≤ 2 ∧
    (blocks = [] → handOff s r beats between = reported) ∧
    (∀ b, blocks = [b] → handOff s r beats between = add reported b) ∧
    (∀ b c, blocks = [b, c] →
      handOff s r beats between = add (between.foldl takeBetween (add reported b)) c)) ∧
  ∀ s : State, s.pins.por = false →
    (∀ n, exec (.takeDirty n) s = .next (takeBetween s (.takeDirty n))) ∧
    (∀ n, exec (.clearDirty n) s = .next (takeBetween s (.clearDirty n))) ∧
    (∀ n, exec (.setDirtyThreshold n) s = .next (takeBetween s (.setDirtyThreshold n))) ∧
    exec .dirtyStatus s = .next (takeBetween s .dirtyStatus) ∧ exec .softClear s = .next (takeBetween s .softClear)

/-- TAKE_DIRTY, CLEAR_DIRTY and SET_DIRTY_THRESHOLD (R99, R100, R102): the oldest entries are taken; a region's entries and overflow
flag are cleared; the threshold is replaced. A count of 0 or above 8, an index above 15, and a threshold of 0 or above 64 are
refused with RANGE, and change nothing. -/
def Obligations.DirtyCommands : Prop :=
  ∀ (s : State) (n : Byte), s.pins.por = false →
    let list := s.dirty.list
    (n.toNat = 0 ∨ 8 < n.toNat →
      exec (.takeDirty n) s = .next (answered s 1 { status := .range, result := List.replicate 36 0 })) ∧
    (1 ≤ n.toNat → n.toNat ≤ 8 →
      let taken := list.take n.toNat
      let bytes := taken.flatMap fun e => BitVec.ofNat 8 e.region.val :: leBytes 3 e.block
      exec (.takeDirty n) s = .next (answered
        { s with dirty := { s.dirty with list := list.drop n.toNat } } 1
        { status := .ok
          result := [BitVec.ofNat 8 taken.length] ++ bytes ++ List.replicate (32 - bytes.length) 0 ++
            [BitVec.ofNat 8 (list.length - taken.length)] ++ maskBytes s.dirty.overflow })) ∧
    (15 < n.toNat → exec (.clearDirty n) s = .next (answered s 1 { status := .range, result := [0, 0] })) ∧
    (∀ i : Ix, n = BitVec.ofNat 8 i.val →
      let left := list.filter fun e => e.region ≠ i
      exec (.clearDirty n) s = .next (answered
        { s with dirty := { s.dirty with list := left, overflow := s.dirty.overflow.set i false } } 1
        { status := .ok, result := [BitVec.ofNat 8 (list.length - left.length), BitVec.ofNat 8 left.length] })) ∧
    (n.toNat = 0 ∨ 64 < n.toNat →
      exec (.setDirtyThreshold n) s = .next (answered s 1 { status := .range, result := [0, 0] })) ∧
    (1 ≤ n.toNat → n.toNat ≤ 64 → exec (.setDirtyThreshold n) s = .next (answered
      { s with dirty := { s.dirty with threshold := n.toNat } } 1
      { status := .ok, result := [n, BitVec.ofNat 8 list.length] }))

/-! ## SOFT_CLEAR and the management port -/

/-- SOFT_CLEAR (R176): refused with BUSY while a commit drains, and changing nothing then. Otherwise, as one step, the log, the
lists, the counters and the flags are cleared, every SIGNING region is BLANK, the queue is empty and the active job gone, the
engine is OFF, at once or at the return of its outstanding read, and everything else is kept. No event is raised. That the count of draws
of the free value is kept is the model's choice (DESIGN CHOICE, log entry 26). -/
def Obligations.SoftClear : Prop :=
  ∀ s : State, s.pins.por = false →
    (s.commit.draining ≠ none → exec .softClear s = .next (answered s 0 { status := .busy, result := [] })) ∧
    (s.commit.draining = none → exec .softClear s = .next (answered
      { s with
        events := { log := [], nextSeq := 0, dropped := 0, flags := Flags.none, mask := s.events.mask }
        dirty := { list := [], overflow := Tab.const false, threshold := s.dirty.threshold, inFlight := s.dirty.inFlight }
        sig :=
          { life := Tab.ofFn fun i =>
              match s.sig.life.get i with
              | some (.signing _) => some .blank
              | l => l
            lastResult := Tab.const .none, verifyCount := Tab.const 0 }
        policy := { refusals := Tab.const 0, windows := Tab.const 0 }
        tracker := { s.tracker with malformed := 0 }
        fwd := { s.fwd with memErrors := 0 }
        scan :=
          { engine := (match s.scan.engine with
              | .reading r => .reading { r with disposition := .discard, offPending := true }
              | _ => .off)
            context := none, roundMode := false, queue := { sign := [], demand := [], round := [] }, streak := 0
            starvation := none, forced := false, roundTimer := none, roundCount := 0, forcedCount := 0
            ties := s.scan.ties } } 0
      { status := .ok, result := [] }))

/-- SET_TIMING (R175): five values inside their ranges replace the settings together; the first outside its range is named by its
position, with RANGE, and no setting changes. Running timers and counts keep their length: the scan, commit and forwarding blocks
stay as they are. -/
def Obligations.SetTiming : Prop :=
  ∀ (s : State) (clock hold starvation drain round : BitVec 16), s.pins.por = false →
    let two := fun x : BitVec 16 => [x.extractLsb' 0 8, x.extractLsb' 8 8]
    let c := Instr.setTiming clock hold starvation drain round
    let refuse := fun (n : Byte) =>
      exec c s = .next (answered s 10 { status := .range, result := n :: List.replicate 9 0 })
    let clockIn := 50 ≤ clock.toNat ∧ clock.toNat ≤ 400
    let holdIn := 1 ≤ hold.toNat ∧ hold.toNat ≤ 1023
    (clockIn → holdIn → 100 ≤ starvation.toNat → 1 ≤ drain.toNat →
      let timing : Timing :=
        { clockMhz := clock, idleHold := hold, starvation := starvation, drain := drain, round := round }
      exec c s = .next (answered { s with mgmt := { s.mgmt with timing := timing } } 10
        { status := .ok, result := two clock ++ two hold ++ two starvation ++ two drain ++ two round })) ∧
    (¬clockIn → refuse 1) ∧ (clockIn → ¬holdIn → refuse 2) ∧ (clockIn → holdIn → starvation.toNat < 100 → refuse 3) ∧
    (clockIn → holdIn → 100 ≤ starvation.toNat → drain.toNat = 0 → refuse 4)

/-- Frames that carry no command (R150, R168, R169, R170, R172, R177): a fetch takes the pending response, or NONE, and MISO carries it and then
0xFF; a damaged fetch keeps it, and one cut after its first byte changes nothing; a frame with an unknown code, a wrong length or a
wrong CRC, tested in that order, leaves UNKNOWN, LENGTH or FRAME_CRC pending; a correct SCAN_CONTROL frame with an action other than 1 to 5 leaves RANGE with zeros
(R150, R177); an empty frame is ignored. No other state changes. That a frame with no whole byte is of the wrong length, and that
COMMAND_FRAME_REJECTED given a correct frame, or a fetch frame, changes nothing, is the model's reading (DEDUCED, log entry 14). -/
def Obligations.FramesWithoutCommand : Prop :=
  ∀ s : State, s.pins.por = false →
    let filled := fun (r : Response) (n : Nat) =>
      let bytes := r.status.code :: r.result ++ [crc8 (r.status.code :: r.result)]
      ([0xFF, 0xFF] ++ bytes.take n ++ List.replicate (n - bytes.length) 0xFF : List Byte)
    let carried := fun (response : Option Response) (miso : List Byte) =>
      ({ s with mgmt := { s.mgmt with receiver := .idle, response := response, miso := miso } } : State)
    let codes : List (Nat × Nat) :=
      [(0x01, 0), (0x02, 10), (0x03, 17), (0x04, 2), (0x05, 2), (0x06, 0), (0x07, 0), (0x08, 0), (0x10, 1), (0x11, 1),
        (0x12, 1), (0x13, 1), (0x14, 1), (0x18, 1), (0x19, 0), (0x20, 0), (0x21, 0), (0x22, 1), (0x23, 1), (0x28, 1),
        (0x29, 1), (0x2A, 0), (0x2B, 1), (0x30, 0), (0x31, 0)]
    exec (.fetch []) s = .next (carried s.mgmt.response [0xFF]) ∧
    (∀ rest : List Byte, exec (.fetch (0 :: rest)) s =
      .next (carried none (filled (s.mgmt.response.getD { status := .none, result := [] }) rest.length))) ∧
    (∀ (second : Byte) (rest : List Byte), second ≠ 0 → exec (.fetch (second :: rest)) s =
      .next (carried s.mgmt.response (filled { status := .frameCrc, result := [] } rest.length))) ∧
    exec .emptyFrame s = .next { s with mgmt := { s.mgmt with receiver := .idle } } ∧
    exec (.commandFrameRejected [] true) s = .next (carried (some { status := .length, result := [] }) []) ∧
    (∀ action : Byte, action.toNat = 0 ∨ 5 < action.toNat →
      exec (.commandFrameRejected [0x18, action, crc8 [0x18, action]] false) s =
        .next (carried (some { status := .range, result := [0, 0, 0] }) [0xFF, 0xFF, 0xFF])) ∧
    (∀ (frame : List Byte) (c : Instr), encodeFrame c = some frame →
      exec (.commandFrameRejected frame false) s = .next s) ∧
    (∀ (rest : List Byte) (part : Bool), exec (.commandFrameRejected (0 :: rest) part) s = .next s) ∧
    ∀ (code : Byte) (rest : List Byte) (part : Bool), code ≠ 0 →
      let rejected := fun (status : Status) => exec (.commandFrameRejected (code :: rest) part) s =
        .next (carried (some { status := status, result := [] }) (List.replicate (rest.length + 1) 0xFF))
      ((∀ n, (code.toNat, n) ∉ codes) → rejected .unknown) ∧
      (∀ n, (code.toNat, n) ∈ codes → (part = true ∨ rest.length ≠ n + 1) → rejected .length) ∧
      (∀ n args crc, (code.toNat, n) ∈ codes → part = false → rest = args ++ [crc] → args.length = n →
        crc ≠ crc8 (code :: args) → rejected .frameCrc)
end

