-- ==== Sys2Proof/Laws/State.lean ====
section
/-! SUPPORT. The small lemmas of the state: the sixteen-row table, and one lemma per field per named update of State, each true
by unfolding that update alone. -/

namespace Sys2Proof

/-! ## The sixteen-row table -/

@[simp] theorem Tab.get_ofFn {α : Type} (f : Ix → α) (i : Ix) : (Tab.ofFn f).get i = f i := by
  fin_cases i <;> rfl

@[simp] theorem Tab.get_const {α : Type} (x : α) (i : Ix) : (Tab.const x).get i = x := by simp [Tab.const]

theorem Tab.get_set {α : Type} (t : Tab α) (i j : Ix) (x : α) : (t.set i x).get j = if j = i then x else t.get j := by
  simp [Tab.set]

@[simp] theorem Tab.get_set_self {α : Type} (t : Tab α) (i : Ix) (x : α) : (t.set i x).get i = x := by simp [Tab.get_set]

theorem Tab.get_set_of_ne {α : Type} (t : Tab α) {i j : Ix} (x : α) (h : j ≠ i) : (t.set i x).get j = t.get j := by
  simp [Tab.get_set, h]

/-- Two tables are equal when their rows are. -/
theorem Tab.ext_get {α : Type} {a b : Tab α} (h : ∀ i, a.get i = b.get i) : a = b := by
  cases a with
  | mk ra =>
    cases b with
    | mk rb =>
      congr 1
      ext k hk
      exact h ⟨k, hk⟩

theorem mem_allIx (i : Ix) : i ∈ allIx := by fin_cases i <;> decide

namespace Machine

/-! ## Named updates of State -/

@[simp] theorem raise_pending (s : State) (e : Event) : (raise s e).pending = s.pending := rfl
@[simp] theorem raise_pins (s : State) (e : Event) : (raise s e).pins = s.pins := rfl
@[simp] theorem raise_table (s : State) (e : Event) : (raise s e).table = s.table := rfl
@[simp] theorem raise_commit (s : State) (e : Event) : (raise s e).commit = s.commit := rfl
@[simp] theorem raise_tracker (s : State) (e : Event) : (raise s e).tracker = s.tracker := rfl
@[simp] theorem raise_fwd (s : State) (e : Event) : (raise s e).fwd = s.fwd := rfl
@[simp] theorem raise_policy (s : State) (e : Event) : (raise s e).policy = s.policy := rfl
@[simp] theorem raise_dirty (s : State) (e : Event) : (raise s e).dirty = s.dirty := rfl
@[simp] theorem raise_sig (s : State) (e : Event) : (raise s e).sig = s.sig := rfl
@[simp] theorem raise_scan (s : State) (e : Event) : (raise s e).scan = s.scan := rfl
@[simp] theorem raise_mgmt (s : State) (e : Event) : (raise s e).mgmt = s.mgmt := rfl
@[simp] theorem raise_wires (s : State) (e : Event) : (raise s e).wires = s.wires := rfl

@[simp] theorem setTxn_pending (s : State) (x : Txn) : (setTxn s x).pending = s.pending := rfl
@[simp] theorem setTxn_pins (s : State) (x : Txn) : (setTxn s x).pins = s.pins := rfl
@[simp] theorem setTxn_table (s : State) (x : Txn) : (setTxn s x).table = s.table := rfl
@[simp] theorem setTxn_commit (s : State) (x : Txn) : (setTxn s x).commit = s.commit := rfl
@[simp] theorem setTxn_fwd (s : State) (x : Txn) : (setTxn s x).fwd = s.fwd := rfl
@[simp] theorem setTxn_policy (s : State) (x : Txn) : (setTxn s x).policy = s.policy := rfl
@[simp] theorem setTxn_dirty (s : State) (x : Txn) : (setTxn s x).dirty = s.dirty := rfl
@[simp] theorem setTxn_sig (s : State) (x : Txn) : (setTxn s x).sig = s.sig := rfl
@[simp] theorem setTxn_scan (s : State) (x : Txn) : (setTxn s x).scan = s.scan := rfl
@[simp] theorem setTxn_events (s : State) (x : Txn) : (setTxn s x).events = s.events := rfl
@[simp] theorem setTxn_mgmt (s : State) (x : Txn) : (setTxn s x).mgmt = s.mgmt := rfl
@[simp] theorem setTxn_wires (s : State) (x : Txn) : (setTxn s x).wires = s.wires := rfl

@[simp] theorem appendTxn_pending (s : State) (x : Txn) : (appendTxn s x).pending = s.pending := rfl
@[simp] theorem appendTxn_pins (s : State) (x : Txn) : (appendTxn s x).pins = s.pins := rfl
@[simp] theorem appendTxn_table (s : State) (x : Txn) : (appendTxn s x).table = s.table := rfl
@[simp] theorem appendTxn_commit (s : State) (x : Txn) : (appendTxn s x).commit = s.commit := rfl
@[simp] theorem appendTxn_fwd (s : State) (x : Txn) : (appendTxn s x).fwd = s.fwd := rfl
@[simp] theorem appendTxn_policy (s : State) (x : Txn) : (appendTxn s x).policy = s.policy := rfl
@[simp] theorem appendTxn_dirty (s : State) (x : Txn) : (appendTxn s x).dirty = s.dirty := rfl
@[simp] theorem appendTxn_sig (s : State) (x : Txn) : (appendTxn s x).sig = s.sig := rfl
@[simp] theorem appendTxn_scan (s : State) (x : Txn) : (appendTxn s x).scan = s.scan := rfl
@[simp] theorem appendTxn_events (s : State) (x : Txn) : (appendTxn s x).events = s.events := rfl
@[simp] theorem appendTxn_mgmt (s : State) (x : Txn) : (appendTxn s x).mgmt = s.mgmt := rfl
@[simp] theorem appendTxn_wires (s : State) (x : Txn) : (appendTxn s x).wires = s.wires := rfl

@[simp] theorem bumpTag_pending (s : State) : (bumpTag s).pending = s.pending := rfl
@[simp] theorem bumpTag_pins (s : State) : (bumpTag s).pins = s.pins := rfl
@[simp] theorem bumpTag_table (s : State) : (bumpTag s).table = s.table := rfl
@[simp] theorem bumpTag_commit (s : State) : (bumpTag s).commit = s.commit := rfl
@[simp] theorem bumpTag_fwd (s : State) : (bumpTag s).fwd = s.fwd := rfl
@[simp] theorem bumpTag_policy (s : State) : (bumpTag s).policy = s.policy := rfl
@[simp] theorem bumpTag_dirty (s : State) : (bumpTag s).dirty = s.dirty := rfl
@[simp] theorem bumpTag_sig (s : State) : (bumpTag s).sig = s.sig := rfl
@[simp] theorem bumpTag_scan (s : State) : (bumpTag s).scan = s.scan := rfl
@[simp] theorem bumpTag_events (s : State) : (bumpTag s).events = s.events := rfl
@[simp] theorem bumpTag_mgmt (s : State) : (bumpTag s).mgmt = s.mgmt := rfl
@[simp] theorem bumpTag_wires (s : State) : (bumpTag s).wires = s.wires := rfl

@[simp] theorem countRefusal_pending (s : State) (i : Ix) : (countRefusal s i).pending = s.pending := rfl
@[simp] theorem countRefusal_pins (s : State) (i : Ix) : (countRefusal s i).pins = s.pins := rfl
@[simp] theorem countRefusal_table (s : State) (i : Ix) : (countRefusal s i).table = s.table := rfl
@[simp] theorem countRefusal_commit (s : State) (i : Ix) : (countRefusal s i).commit = s.commit := rfl
@[simp] theorem countRefusal_tracker (s : State) (i : Ix) : (countRefusal s i).tracker = s.tracker := rfl
@[simp] theorem countRefusal_fwd (s : State) (i : Ix) : (countRefusal s i).fwd = s.fwd := rfl
@[simp] theorem countRefusal_dirty (s : State) (i : Ix) : (countRefusal s i).dirty = s.dirty := rfl
@[simp] theorem countRefusal_sig (s : State) (i : Ix) : (countRefusal s i).sig = s.sig := rfl
@[simp] theorem countRefusal_scan (s : State) (i : Ix) : (countRefusal s i).scan = s.scan := rfl
@[simp] theorem countRefusal_events (s : State) (i : Ix) : (countRefusal s i).events = s.events := rfl
@[simp] theorem countRefusal_mgmt (s : State) (i : Ix) : (countRefusal s i).mgmt = s.mgmt := rfl
@[simp] theorem countRefusal_wires (s : State) (i : Ix) : (countRefusal s i).wires = s.wires := rfl

@[simp] theorem countWindow_pending (s : State) (i : Ix) : (countWindow s i).pending = s.pending := rfl
@[simp] theorem countWindow_pins (s : State) (i : Ix) : (countWindow s i).pins = s.pins := rfl
@[simp] theorem countWindow_table (s : State) (i : Ix) : (countWindow s i).table = s.table := rfl
@[simp] theorem countWindow_commit (s : State) (i : Ix) : (countWindow s i).commit = s.commit := rfl
@[simp] theorem countWindow_tracker (s : State) (i : Ix) : (countWindow s i).tracker = s.tracker := rfl
@[simp] theorem countWindow_fwd (s : State) (i : Ix) : (countWindow s i).fwd = s.fwd := rfl
@[simp] theorem countWindow_dirty (s : State) (i : Ix) : (countWindow s i).dirty = s.dirty := rfl
@[simp] theorem countWindow_sig (s : State) (i : Ix) : (countWindow s i).sig = s.sig := rfl
@[simp] theorem countWindow_scan (s : State) (i : Ix) : (countWindow s i).scan = s.scan := rfl
@[simp] theorem countWindow_events (s : State) (i : Ix) : (countWindow s i).events = s.events := rfl
@[simp] theorem countWindow_mgmt (s : State) (i : Ix) : (countWindow s i).mgmt = s.mgmt := rfl
@[simp] theorem countWindow_wires (s : State) (i : Ix) : (countWindow s i).wires = s.wires := rfl

@[simp] theorem enqueue_pending (s : State) (tag : Nat) : (enqueue s tag).pending = s.pending := rfl
@[simp] theorem enqueue_pins (s : State) (tag : Nat) : (enqueue s tag).pins = s.pins := rfl
@[simp] theorem enqueue_table (s : State) (tag : Nat) : (enqueue s tag).table = s.table := rfl
@[simp] theorem enqueue_commit (s : State) (tag : Nat) : (enqueue s tag).commit = s.commit := rfl
@[simp] theorem enqueue_tracker (s : State) (tag : Nat) : (enqueue s tag).tracker = s.tracker := rfl
@[simp] theorem enqueue_policy (s : State) (tag : Nat) : (enqueue s tag).policy = s.policy := rfl
@[simp] theorem enqueue_dirty (s : State) (tag : Nat) : (enqueue s tag).dirty = s.dirty := rfl
@[simp] theorem enqueue_sig (s : State) (tag : Nat) : (enqueue s tag).sig = s.sig := rfl
@[simp] theorem enqueue_scan (s : State) (tag : Nat) : (enqueue s tag).scan = s.scan := rfl
@[simp] theorem enqueue_events (s : State) (tag : Nat) : (enqueue s tag).events = s.events := rfl
@[simp] theorem enqueue_mgmt (s : State) (tag : Nat) : (enqueue s tag).mgmt = s.mgmt := rfl
@[simp] theorem enqueue_wires (s : State) (tag : Nat) : (enqueue s tag).wires = s.wires := rfl

@[simp] theorem setLife_pending (s : State) (i : Ix) (l : Option Life) : (setLife s i l).pending = s.pending := rfl
@[simp] theorem setLife_pins (s : State) (i : Ix) (l : Option Life) : (setLife s i l).pins = s.pins := rfl
@[simp] theorem setLife_table (s : State) (i : Ix) (l : Option Life) : (setLife s i l).table = s.table := rfl
@[simp] theorem setLife_commit (s : State) (i : Ix) (l : Option Life) : (setLife s i l).commit = s.commit := rfl
@[simp] theorem setLife_tracker (s : State) (i : Ix) (l : Option Life) : (setLife s i l).tracker = s.tracker := rfl
@[simp] theorem setLife_fwd (s : State) (i : Ix) (l : Option Life) : (setLife s i l).fwd = s.fwd := rfl
@[simp] theorem setLife_policy (s : State) (i : Ix) (l : Option Life) : (setLife s i l).policy = s.policy := rfl
@[simp] theorem setLife_dirty (s : State) (i : Ix) (l : Option Life) : (setLife s i l).dirty = s.dirty := rfl
@[simp] theorem setLife_scan (s : State) (i : Ix) (l : Option Life) : (setLife s i l).scan = s.scan := rfl
@[simp] theorem setLife_events (s : State) (i : Ix) (l : Option Life) : (setLife s i l).events = s.events := rfl
@[simp] theorem setLife_mgmt (s : State) (i : Ix) (l : Option Life) : (setLife s i l).mgmt = s.mgmt := rfl
@[simp] theorem setLife_wires (s : State) (i : Ix) (l : Option Life) : (setLife s i l).wires = s.wires := rfl

@[simp] theorem setResult_pending (s : State) (i : Ix) (r : JobResult) : (setResult s i r).pending = s.pending := rfl
@[simp] theorem setResult_pins (s : State) (i : Ix) (r : JobResult) : (setResult s i r).pins = s.pins := rfl
@[simp] theorem setResult_table (s : State) (i : Ix) (r : JobResult) : (setResult s i r).table = s.table := rfl
@[simp] theorem setResult_commit (s : State) (i : Ix) (r : JobResult) : (setResult s i r).commit = s.commit := rfl
@[simp] theorem setResult_tracker (s : State) (i : Ix) (r : JobResult) : (setResult s i r).tracker = s.tracker := rfl
@[simp] theorem setResult_fwd (s : State) (i : Ix) (r : JobResult) : (setResult s i r).fwd = s.fwd := rfl
@[simp] theorem setResult_policy (s : State) (i : Ix) (r : JobResult) : (setResult s i r).policy = s.policy := rfl
@[simp] theorem setResult_dirty (s : State) (i : Ix) (r : JobResult) : (setResult s i r).dirty = s.dirty := rfl
@[simp] theorem setResult_scan (s : State) (i : Ix) (r : JobResult) : (setResult s i r).scan = s.scan := rfl
@[simp] theorem setResult_events (s : State) (i : Ix) (r : JobResult) : (setResult s i r).events = s.events := rfl
@[simp] theorem setResult_mgmt (s : State) (i : Ix) (r : JobResult) : (setResult s i r).mgmt = s.mgmt := rfl
@[simp] theorem setResult_wires (s : State) (i : Ix) (r : JobResult) : (setResult s i r).wires = s.wires := rfl

@[simp] theorem startStarvation_pending (s : State) : (startStarvation s).pending = s.pending := rfl
@[simp] theorem startStarvation_pins (s : State) : (startStarvation s).pins = s.pins := rfl
@[simp] theorem startStarvation_table (s : State) : (startStarvation s).table = s.table := rfl
@[simp] theorem startStarvation_commit (s : State) : (startStarvation s).commit = s.commit := rfl
@[simp] theorem startStarvation_tracker (s : State) : (startStarvation s).tracker = s.tracker := rfl
@[simp] theorem startStarvation_fwd (s : State) : (startStarvation s).fwd = s.fwd := rfl
@[simp] theorem startStarvation_policy (s : State) : (startStarvation s).policy = s.policy := rfl
@[simp] theorem startStarvation_dirty (s : State) : (startStarvation s).dirty = s.dirty := rfl
@[simp] theorem startStarvation_sig (s : State) : (startStarvation s).sig = s.sig := rfl
@[simp] theorem startStarvation_events (s : State) : (startStarvation s).events = s.events := rfl
@[simp] theorem startStarvation_mgmt (s : State) : (startStarvation s).mgmt = s.mgmt := rfl
@[simp] theorem startStarvation_wires (s : State) : (startStarvation s).wires = s.wires := rfl

@[simp] theorem enterWaiting_pending (s : State) : (enterWaiting s).pending = s.pending := rfl
@[simp] theorem enterWaiting_pins (s : State) : (enterWaiting s).pins = s.pins := rfl
@[simp] theorem enterWaiting_table (s : State) : (enterWaiting s).table = s.table := rfl
@[simp] theorem enterWaiting_commit (s : State) : (enterWaiting s).commit = s.commit := rfl
@[simp] theorem enterWaiting_tracker (s : State) : (enterWaiting s).tracker = s.tracker := rfl
@[simp] theorem enterWaiting_fwd (s : State) : (enterWaiting s).fwd = s.fwd := rfl
@[simp] theorem enterWaiting_policy (s : State) : (enterWaiting s).policy = s.policy := rfl
@[simp] theorem enterWaiting_dirty (s : State) : (enterWaiting s).dirty = s.dirty := rfl
@[simp] theorem enterWaiting_sig (s : State) : (enterWaiting s).sig = s.sig := rfl
@[simp] theorem enterWaiting_events (s : State) : (enterWaiting s).events = s.events := rfl
@[simp] theorem enterWaiting_mgmt (s : State) : (enterWaiting s).mgmt = s.mgmt := rfl
@[simp] theorem enterWaiting_wires (s : State) : (enterWaiting s).wires = s.wires := rfl

@[simp] theorem refreshRound_pending (s : State) : (refreshRound s).pending = s.pending := rfl
@[simp] theorem refreshRound_pins (s : State) : (refreshRound s).pins = s.pins := rfl
@[simp] theorem refreshRound_table (s : State) : (refreshRound s).table = s.table := rfl
@[simp] theorem refreshRound_commit (s : State) : (refreshRound s).commit = s.commit := rfl
@[simp] theorem refreshRound_tracker (s : State) : (refreshRound s).tracker = s.tracker := rfl
@[simp] theorem refreshRound_fwd (s : State) : (refreshRound s).fwd = s.fwd := rfl
@[simp] theorem refreshRound_policy (s : State) : (refreshRound s).policy = s.policy := rfl
@[simp] theorem refreshRound_dirty (s : State) : (refreshRound s).dirty = s.dirty := rfl
@[simp] theorem refreshRound_sig (s : State) : (refreshRound s).sig = s.sig := rfl
@[simp] theorem refreshRound_events (s : State) : (refreshRound s).events = s.events := rfl
@[simp] theorem refreshRound_mgmt (s : State) : (refreshRound s).mgmt = s.mgmt := rfl
@[simp] theorem refreshRound_wires (s : State) : (refreshRound s).wires = s.wires := rfl

@[simp] theorem unqueue_pending (s : State) (i : Ix) : (unqueue s i).pending = s.pending := rfl
@[simp] theorem unqueue_pins (s : State) (i : Ix) : (unqueue s i).pins = s.pins := rfl
@[simp] theorem unqueue_table (s : State) (i : Ix) : (unqueue s i).table = s.table := rfl
@[simp] theorem unqueue_commit (s : State) (i : Ix) : (unqueue s i).commit = s.commit := rfl
@[simp] theorem unqueue_tracker (s : State) (i : Ix) : (unqueue s i).tracker = s.tracker := rfl
@[simp] theorem unqueue_fwd (s : State) (i : Ix) : (unqueue s i).fwd = s.fwd := rfl
@[simp] theorem unqueue_policy (s : State) (i : Ix) : (unqueue s i).policy = s.policy := rfl
@[simp] theorem unqueue_dirty (s : State) (i : Ix) : (unqueue s i).dirty = s.dirty := rfl
@[simp] theorem unqueue_sig (s : State) (i : Ix) : (unqueue s i).sig = s.sig := rfl
@[simp] theorem unqueue_events (s : State) (i : Ix) : (unqueue s i).events = s.events := rfl
@[simp] theorem unqueue_mgmt (s : State) (i : Ix) : (unqueue s i).mgmt = s.mgmt := rfl
@[simp] theorem unqueue_wires (s : State) (i : Ix) : (unqueue s i).wires = s.wires := rfl

@[simp] theorem lowerAwaited_pending (s : State) (x : Txn) : (lowerAwaited s x).pending = s.pending := rfl
@[simp] theorem lowerAwaited_pins (s : State) (x : Txn) : (lowerAwaited s x).pins = s.pins := rfl
@[simp] theorem lowerAwaited_table (s : State) (x : Txn) : (lowerAwaited s x).table = s.table := rfl
@[simp] theorem lowerAwaited_commit (s : State) (x : Txn) : (lowerAwaited s x).commit = s.commit := rfl
@[simp] theorem lowerAwaited_tracker (s : State) (x : Txn) : (lowerAwaited s x).tracker = s.tracker := rfl
@[simp] theorem lowerAwaited_fwd (s : State) (x : Txn) : (lowerAwaited s x).fwd = s.fwd := rfl
@[simp] theorem lowerAwaited_policy (s : State) (x : Txn) : (lowerAwaited s x).policy = s.policy := rfl
@[simp] theorem lowerAwaited_dirty (s : State) (x : Txn) : (lowerAwaited s x).dirty = s.dirty := rfl
@[simp] theorem lowerAwaited_scan (s : State) (x : Txn) : (lowerAwaited s x).scan = s.scan := rfl
@[simp] theorem lowerAwaited_events (s : State) (x : Txn) : (lowerAwaited s x).events = s.events := rfl
@[simp] theorem lowerAwaited_mgmt (s : State) (x : Txn) : (lowerAwaited s x).mgmt = s.mgmt := rfl
@[simp] theorem lowerAwaited_wires (s : State) (x : Txn) : (lowerAwaited s x).wires = s.wires := rfl

@[simp] theorem countVerify_pending (s : State) (i : Ix) : (countVerify s i).pending = s.pending := rfl
@[simp] theorem countVerify_pins (s : State) (i : Ix) : (countVerify s i).pins = s.pins := rfl
@[simp] theorem countVerify_table (s : State) (i : Ix) : (countVerify s i).table = s.table := rfl
@[simp] theorem countVerify_commit (s : State) (i : Ix) : (countVerify s i).commit = s.commit := rfl
@[simp] theorem countVerify_tracker (s : State) (i : Ix) : (countVerify s i).tracker = s.tracker := rfl
@[simp] theorem countVerify_fwd (s : State) (i : Ix) : (countVerify s i).fwd = s.fwd := rfl
@[simp] theorem countVerify_policy (s : State) (i : Ix) : (countVerify s i).policy = s.policy := rfl
@[simp] theorem countVerify_dirty (s : State) (i : Ix) : (countVerify s i).dirty = s.dirty := rfl
@[simp] theorem countVerify_scan (s : State) (i : Ix) : (countVerify s i).scan = s.scan := rfl
@[simp] theorem countVerify_events (s : State) (i : Ix) : (countVerify s i).events = s.events := rfl
@[simp] theorem countVerify_mgmt (s : State) (i : Ix) : (countVerify s i).mgmt = s.mgmt := rfl
@[simp] theorem countVerify_wires (s : State) (i : Ix) : (countVerify s i).wires = s.wires := rfl

@[simp] theorem discardItem_pending (s : State) : (discardItem s).pending = s.pending := rfl
@[simp] theorem discardItem_pins (s : State) : (discardItem s).pins = s.pins := rfl
@[simp] theorem discardItem_table (s : State) : (discardItem s).table = s.table := rfl
@[simp] theorem discardItem_commit (s : State) : (discardItem s).commit = s.commit := rfl
@[simp] theorem discardItem_tracker (s : State) : (discardItem s).tracker = s.tracker := rfl
@[simp] theorem discardItem_policy (s : State) : (discardItem s).policy = s.policy := rfl
@[simp] theorem discardItem_dirty (s : State) : (discardItem s).dirty = s.dirty := rfl
@[simp] theorem discardItem_sig (s : State) : (discardItem s).sig = s.sig := rfl
@[simp] theorem discardItem_scan (s : State) : (discardItem s).scan = s.scan := rfl
@[simp] theorem discardItem_events (s : State) : (discardItem s).events = s.events := rfl
@[simp] theorem discardItem_mgmt (s : State) : (discardItem s).mgmt = s.mgmt := rfl
@[simp] theorem discardItem_wires (s : State) : (discardItem s).wires = s.wires := rfl

@[simp] theorem putHostItem_pending (s : State) (item : HostItem) : (putHostItem s item).pending = s.pending := rfl
@[simp] theorem putHostItem_pins (s : State) (item : HostItem) : (putHostItem s item).pins = s.pins := rfl
@[simp] theorem putHostItem_table (s : State) (item : HostItem) : (putHostItem s item).table = s.table := rfl
@[simp] theorem putHostItem_commit (s : State) (item : HostItem) : (putHostItem s item).commit = s.commit := rfl
@[simp] theorem putHostItem_tracker (s : State) (item : HostItem) : (putHostItem s item).tracker = s.tracker := rfl
@[simp] theorem putHostItem_fwd (s : State) (item : HostItem) : (putHostItem s item).fwd = s.fwd := rfl
@[simp] theorem putHostItem_policy (s : State) (item : HostItem) : (putHostItem s item).policy = s.policy := rfl
@[simp] theorem putHostItem_dirty (s : State) (item : HostItem) : (putHostItem s item).dirty = s.dirty := rfl
@[simp] theorem putHostItem_sig (s : State) (item : HostItem) : (putHostItem s item).sig = s.sig := rfl
@[simp] theorem putHostItem_scan (s : State) (item : HostItem) : (putHostItem s item).scan = s.scan := rfl
@[simp] theorem putHostItem_events (s : State) (item : HostItem) : (putHostItem s item).events = s.events := rfl
@[simp] theorem putHostItem_mgmt (s : State) (item : HostItem) : (putHostItem s item).mgmt = s.mgmt := rfl

@[simp] theorem holdChannel_pending (s : State) (tag : Nat) : (holdChannel s tag).pending = s.pending := rfl
@[simp] theorem holdChannel_pins (s : State) (tag : Nat) : (holdChannel s tag).pins = s.pins := rfl
@[simp] theorem holdChannel_table (s : State) (tag : Nat) : (holdChannel s tag).table = s.table := rfl
@[simp] theorem holdChannel_commit (s : State) (tag : Nat) : (holdChannel s tag).commit = s.commit := rfl
@[simp] theorem holdChannel_fwd (s : State) (tag : Nat) : (holdChannel s tag).fwd = s.fwd := rfl
@[simp] theorem holdChannel_policy (s : State) (tag : Nat) : (holdChannel s tag).policy = s.policy := rfl
@[simp] theorem holdChannel_dirty (s : State) (tag : Nat) : (holdChannel s tag).dirty = s.dirty := rfl
@[simp] theorem holdChannel_sig (s : State) (tag : Nat) : (holdChannel s tag).sig = s.sig := rfl
@[simp] theorem holdChannel_scan (s : State) (tag : Nat) : (holdChannel s tag).scan = s.scan := rfl
@[simp] theorem holdChannel_events (s : State) (tag : Nat) : (holdChannel s tag).events = s.events := rfl
@[simp] theorem holdChannel_mgmt (s : State) (tag : Nat) : (holdChannel s tag).mgmt = s.mgmt := rfl
@[simp] theorem holdChannel_wires (s : State) (tag : Nat) : (holdChannel s tag).wires = s.wires := rfl

@[simp] theorem setHead_pending (s : State) (h : Option MemItem) : (setHead s h).pending = s.pending := rfl
@[simp] theorem setHead_pins (s : State) (h : Option MemItem) : (setHead s h).pins = s.pins := rfl
@[simp] theorem setHead_table (s : State) (h : Option MemItem) : (setHead s h).table = s.table := rfl
@[simp] theorem setHead_commit (s : State) (h : Option MemItem) : (setHead s h).commit = s.commit := rfl
@[simp] theorem setHead_tracker (s : State) (h : Option MemItem) : (setHead s h).tracker = s.tracker := rfl
@[simp] theorem setHead_policy (s : State) (h : Option MemItem) : (setHead s h).policy = s.policy := rfl
@[simp] theorem setHead_dirty (s : State) (h : Option MemItem) : (setHead s h).dirty = s.dirty := rfl
@[simp] theorem setHead_sig (s : State) (h : Option MemItem) : (setHead s h).sig = s.sig := rfl
@[simp] theorem setHead_scan (s : State) (h : Option MemItem) : (setHead s h).scan = s.scan := rfl
@[simp] theorem setHead_events (s : State) (h : Option MemItem) : (setHead s h).events = s.events := rfl
@[simp] theorem setHead_mgmt (s : State) (h : Option MemItem) : (setHead s h).mgmt = s.mgmt := rfl
@[simp] theorem setHead_wires (s : State) (h : Option MemItem) : (setHead s h).wires = s.wires := rfl

@[simp] theorem giveLocal_pending (s : State) : (giveLocal s).pending = s.pending := rfl
@[simp] theorem giveLocal_pins (s : State) : (giveLocal s).pins = s.pins := rfl
@[simp] theorem giveLocal_table (s : State) : (giveLocal s).table = s.table := rfl
@[simp] theorem giveLocal_commit (s : State) : (giveLocal s).commit = s.commit := rfl
@[simp] theorem giveLocal_fwd (s : State) : (giveLocal s).fwd = s.fwd := rfl
@[simp] theorem giveLocal_policy (s : State) : (giveLocal s).policy = s.policy := rfl
@[simp] theorem giveLocal_dirty (s : State) : (giveLocal s).dirty = s.dirty := rfl
@[simp] theorem giveLocal_sig (s : State) : (giveLocal s).sig = s.sig := rfl
@[simp] theorem giveLocal_scan (s : State) : (giveLocal s).scan = s.scan := rfl
@[simp] theorem giveLocal_events (s : State) : (giveLocal s).events = s.events := rfl
@[simp] theorem giveLocal_mgmt (s : State) : (giveLocal s).mgmt = s.mgmt := rfl
@[simp] theorem giveLocal_wires (s : State) : (giveLocal s).wires = s.wires := rfl

@[simp] theorem setEngine_pending (s : State) (e : EngineState) : (setEngine s e).pending = s.pending := rfl
@[simp] theorem setEngine_pins (s : State) (e : EngineState) : (setEngine s e).pins = s.pins := rfl
@[simp] theorem setEngine_table (s : State) (e : EngineState) : (setEngine s e).table = s.table := rfl
@[simp] theorem setEngine_commit (s : State) (e : EngineState) : (setEngine s e).commit = s.commit := rfl
@[simp] theorem setEngine_tracker (s : State) (e : EngineState) : (setEngine s e).tracker = s.tracker := rfl
@[simp] theorem setEngine_fwd (s : State) (e : EngineState) : (setEngine s e).fwd = s.fwd := rfl
@[simp] theorem setEngine_policy (s : State) (e : EngineState) : (setEngine s e).policy = s.policy := rfl
@[simp] theorem setEngine_dirty (s : State) (e : EngineState) : (setEngine s e).dirty = s.dirty := rfl
@[simp] theorem setEngine_sig (s : State) (e : EngineState) : (setEngine s e).sig = s.sig := rfl
@[simp] theorem setEngine_events (s : State) (e : EngineState) : (setEngine s e).events = s.events := rfl
@[simp] theorem setEngine_mgmt (s : State) (e : EngineState) : (setEngine s e).mgmt = s.mgmt := rfl
@[simp] theorem setEngine_wires (s : State) (e : EngineState) : (setEngine s e).wires = s.wires := rfl

@[simp] theorem endCommit_pending (s : State) (o : LastOutcome) (a b : IxSet) : (endCommit s o a b).pending = s.pending := rfl
@[simp] theorem endCommit_pins (s : State) (o : LastOutcome) (a b : IxSet) : (endCommit s o a b).pins = s.pins := rfl
@[simp] theorem endCommit_table (s : State) (o : LastOutcome) (a b : IxSet) : (endCommit s o a b).table = s.table := rfl
@[simp] theorem endCommit_tracker (s : State) (o : LastOutcome) (a b : IxSet) : (endCommit s o a b).tracker = s.tracker := rfl
@[simp] theorem endCommit_fwd (s : State) (o : LastOutcome) (a b : IxSet) : (endCommit s o a b).fwd = s.fwd := rfl
@[simp] theorem endCommit_policy (s : State) (o : LastOutcome) (a b : IxSet) : (endCommit s o a b).policy = s.policy := rfl
@[simp] theorem endCommit_dirty (s : State) (o : LastOutcome) (a b : IxSet) : (endCommit s o a b).dirty = s.dirty := rfl
@[simp] theorem endCommit_sig (s : State) (o : LastOutcome) (a b : IxSet) : (endCommit s o a b).sig = s.sig := rfl
@[simp] theorem endCommit_scan (s : State) (o : LastOutcome) (a b : IxSet) : (endCommit s o a b).scan = s.scan := rfl
@[simp] theorem endCommit_mgmt (s : State) (o : LastOutcome) (a b : IxSet) : (endCommit s o a b).mgmt = s.mgmt := rfl
@[simp] theorem endCommit_wires (s : State) (o : LastOutcome) (a b : IxSet) : (endCommit s o a b).wires = s.wires := rfl

@[simp] theorem answered_pending (s : State) (n : Nat) (r : Response) : (answered s n r).pending = s.pending := rfl
@[simp] theorem answered_pins (s : State) (n : Nat) (r : Response) : (answered s n r).pins = s.pins := rfl
@[simp] theorem answered_table (s : State) (n : Nat) (r : Response) : (answered s n r).table = s.table := rfl
@[simp] theorem answered_commit (s : State) (n : Nat) (r : Response) : (answered s n r).commit = s.commit := rfl
@[simp] theorem answered_tracker (s : State) (n : Nat) (r : Response) : (answered s n r).tracker = s.tracker := rfl
@[simp] theorem answered_fwd (s : State) (n : Nat) (r : Response) : (answered s n r).fwd = s.fwd := rfl
@[simp] theorem answered_policy (s : State) (n : Nat) (r : Response) : (answered s n r).policy = s.policy := rfl
@[simp] theorem answered_dirty (s : State) (n : Nat) (r : Response) : (answered s n r).dirty = s.dirty := rfl
@[simp] theorem answered_sig (s : State) (n : Nat) (r : Response) : (answered s n r).sig = s.sig := rfl
@[simp] theorem answered_scan (s : State) (n : Nat) (r : Response) : (answered s n r).scan = s.scan := rfl
@[simp] theorem answered_events (s : State) (n : Nat) (r : Response) : (answered s n r).events = s.events := rfl
@[simp] theorem answered_wires (s : State) (n : Nat) (r : Response) : (answered s n r).wires = s.wires := rfl

@[simp] theorem idleReceiver_pending (s : State) : (idleReceiver s).pending = s.pending := rfl
@[simp] theorem idleReceiver_pins (s : State) : (idleReceiver s).pins = s.pins := rfl
@[simp] theorem idleReceiver_table (s : State) : (idleReceiver s).table = s.table := rfl
@[simp] theorem idleReceiver_commit (s : State) : (idleReceiver s).commit = s.commit := rfl
@[simp] theorem idleReceiver_tracker (s : State) : (idleReceiver s).tracker = s.tracker := rfl
@[simp] theorem idleReceiver_fwd (s : State) : (idleReceiver s).fwd = s.fwd := rfl
@[simp] theorem idleReceiver_policy (s : State) : (idleReceiver s).policy = s.policy := rfl
@[simp] theorem idleReceiver_dirty (s : State) : (idleReceiver s).dirty = s.dirty := rfl
@[simp] theorem idleReceiver_sig (s : State) : (idleReceiver s).sig = s.sig := rfl
@[simp] theorem idleReceiver_scan (s : State) : (idleReceiver s).scan = s.scan := rfl
@[simp] theorem idleReceiver_events (s : State) : (idleReceiver s).events = s.events := rfl
@[simp] theorem idleReceiver_wires (s : State) : (idleReceiver s).wires = s.wires := rfl

@[simp] theorem grantChunk_pending (s : State) (a : Nat) : (grantChunk s a).pending = s.pending := rfl
@[simp] theorem grantChunk_pins (s : State) (a : Nat) : (grantChunk s a).pins = s.pins := rfl
@[simp] theorem grantChunk_table (s : State) (a : Nat) : (grantChunk s a).table = s.table := rfl
@[simp] theorem grantChunk_commit (s : State) (a : Nat) : (grantChunk s a).commit = s.commit := rfl
@[simp] theorem grantChunk_tracker (s : State) (a : Nat) : (grantChunk s a).tracker = s.tracker := rfl
@[simp] theorem grantChunk_policy (s : State) (a : Nat) : (grantChunk s a).policy = s.policy := rfl
@[simp] theorem grantChunk_dirty (s : State) (a : Nat) : (grantChunk s a).dirty = s.dirty := rfl
@[simp] theorem grantChunk_sig (s : State) (a : Nat) : (grantChunk s a).sig = s.sig := rfl
@[simp] theorem grantChunk_events (s : State) (a : Nat) : (grantChunk s a).events = s.events := rfl
@[simp] theorem grantChunk_mgmt (s : State) (a : Nat) : (grantChunk s a).mgmt = s.mgmt := rfl
@[simp] theorem grantChunk_wires (s : State) (a : Nat) : (grantChunk s a).wires = s.wires := rfl

@[simp] theorem starve_pending (s : State) : (starve s).pending = s.pending := rfl
@[simp] theorem starve_pins (s : State) : (starve s).pins = s.pins := rfl
@[simp] theorem starve_table (s : State) : (starve s).table = s.table := rfl
@[simp] theorem starve_commit (s : State) : (starve s).commit = s.commit := rfl
@[simp] theorem starve_tracker (s : State) : (starve s).tracker = s.tracker := rfl
@[simp] theorem starve_fwd (s : State) : (starve s).fwd = s.fwd := rfl
@[simp] theorem starve_policy (s : State) : (starve s).policy = s.policy := rfl
@[simp] theorem starve_dirty (s : State) : (starve s).dirty = s.dirty := rfl
@[simp] theorem starve_sig (s : State) : (starve s).sig = s.sig := rfl
@[simp] theorem starve_events (s : State) : (starve s).events = s.events := rfl
@[simp] theorem starve_mgmt (s : State) : (starve s).mgmt = s.mgmt := rfl
@[simp] theorem starve_wires (s : State) : (starve s).wires = s.wires := rfl

@[simp] theorem softClearState_pending (s : State) : (softClearState s).pending = s.pending := rfl
@[simp] theorem softClearState_pins (s : State) : (softClearState s).pins = s.pins := rfl
@[simp] theorem softClearState_table (s : State) : (softClearState s).table = s.table := rfl
@[simp] theorem softClearState_commit (s : State) : (softClearState s).commit = s.commit := rfl
@[simp] theorem softClearState_mgmt (s : State) : (softClearState s).mgmt = s.mgmt := rfl
@[simp] theorem softClearState_wires (s : State) : (softClearState s).wires = s.wires := rfl

@[simp] theorem answered_timing (s : State) (n : Nat) (r : Response) :
    (answered s n r).mgmt.timing = s.mgmt.timing := rfl

@[simp] theorem answered_response (s : State) (n : Nat) (r : Response) :
    (answered s n r).mgmt.response = some r := rfl

@[simp] theorem idleReceiver_timing (s : State) : (idleReceiver s).mgmt.timing = s.mgmt.timing := rfl

/-- What raising an event does to the Event Unit. -/
@[simp] theorem raise_events (s : State) (e : Event) : (raise s e).events = s.events.take e := rfl

@[simp] theorem setTxn_txns (s : State) (x : Txn) : (setTxn s x).tracker.txns = putTxn s.tracker.txns x := rfl

@[simp] theorem setLife_life (s : State) (i : Ix) (l : Option Life) : (setLife s i l).sig.life = s.sig.life.set i l := rfl

@[simp] theorem setLife_lastResult (s : State) (i : Ix) (l : Option Life) :
    (setLife s i l).sig.lastResult = s.sig.lastResult := rfl

@[simp] theorem setResult_life (s : State) (i : Ix) (r : JobResult) : (setResult s i r).sig.life = s.sig.life := rfl

@[simp] theorem countVerify_life (s : State) (i : Ix) : (countVerify s i).sig.life = s.sig.life := rfl

@[simp] theorem endCommit_draining (s : State) (o : LastOutcome) (a b : IxSet) :
    (endCommit s o a b).commit.draining = s.commit.draining := rfl

@[simp] theorem endCommit_events (s : State) (o : LastOutcome) (a b : IxSet) :
    (endCommit s o a b).events = s.events.take (commitEvent o.event a b o.reason) := rfl

/-- The state a command leaves is its owner's state, answered (R168, R171). -/
theorem commanded_eq (n : Nat) (s : State) (owner : State → State × Response) :
    commanded n s owner = answered (owner s).1 n (owner s).2 := rfl

/-- Taking a command while the port takes frames: the owner's state, answered. -/
theorem takeCommand_taken (n : Nat) (s : State) (owner : State → State × Response) (h : s.pins.por = false) :
    takeCommand n s owner = .next (answered (owner s).1 n (owner s).2) := by
  simp [takeCommand, commanded, h, answered]

/-- While POR_N is asserted the port takes no frame (R167). -/
theorem takeCommand_held (n : Nat) (s : State) (owner : State → State × Response) (h : s.pins.por = true) :
    takeCommand n s owner = .next s := by
  simp [takeCommand, h]

/-- A step whose conditions hold is taken. -/
theorem stepWhen_taken {ready : Bool} {s t : State} (hp : s.pins.por = false) (hr : ready = true) :
    stepWhen ready s t = .next t := by
  simp [stepWhen, hp, hr]

/-- All that a step with conditions can do: nothing, or its effect. -/
theorem stepWhen_cases (ready : Bool) (s t : State) :
    stepWhen ready s t = .next s ∨ (s.pins.por = false ∧ ready = true ∧ stepWhen ready s t = .next t) := by
  by_cases h : s.pins.por = false ∧ ready = true
  · exact .inr ⟨h.1, h.2, stepWhen_taken h.1 h.2⟩
  · left
    cases hp : s.pins.por <;> cases ready <;> simp_all [stepWhen]

/-- All that giving the host response channel can do: nothing, give it to a memory response, or give it to a local answer. -/
theorem giveChannel_cases (s : State) :
    giveChannel s = s ∨ (∃ tag, giveChannel s = holdChannel s tag) ∨ giveChannel s = giveLocal s := by
  unfold giveChannel
  split
  · exact .inl rfl
  · split
    · exact .inl rfl
    · exact .inr (.inl ⟨_, rfl⟩)
    · exact .inr (.inr rfl)
    · split
      · exact .inr (.inl ⟨_, rfl⟩)
      · exact .inr (.inr rfl)

/-- All that recording the eligible local answers can do: nothing, or add one group. -/
theorem noteEligible_cases (s : State) : noteEligible s = s ∨ noteEligible s =
    { s with tracker := { s.tracker with eligible := s.tracker.eligible ++ [freshlyEligible s.tracker] } } := by
  unfold noteEligible
  split
  · exact .inl rfl
  · exact .inr rfl

end Machine

end Sys2Proof
end

