-- ==== Sys2Proof/Laws/Frames.lean ====
section
/-! SUPPORT. What the shared operations leave alone: for each, one lemma per block of the state it does not touch. -/

namespace Sys2Proof.Machine

/-- What `noteEligible` leaves alone. -/
theorem noteEligible_frame (s : State) : (noteEligible s).pending = s.pending ∧
    (noteEligible s).pins = s.pins ∧
    (noteEligible s).table = s.table ∧
    (noteEligible s).commit = s.commit ∧
    (noteEligible s).fwd = s.fwd ∧
    (noteEligible s).policy = s.policy ∧
    (noteEligible s).dirty = s.dirty ∧
    (noteEligible s).sig = s.sig ∧
    (noteEligible s).scan = s.scan ∧
    (noteEligible s).events = s.events ∧
    (noteEligible s).mgmt = s.mgmt ∧
    (noteEligible s).wires = s.wires := by
  unfold noteEligible; split <;> simp
@[simp] theorem noteEligible_pending (s : State) : (noteEligible s).pending = s.pending := (noteEligible_frame s).1
@[simp] theorem noteEligible_pins (s : State) : (noteEligible s).pins = s.pins := (noteEligible_frame s).2.1
@[simp] theorem noteEligible_table (s : State) : (noteEligible s).table = s.table := (noteEligible_frame s).2.2.1
@[simp] theorem noteEligible_commit (s : State) : (noteEligible s).commit = s.commit := (noteEligible_frame s).2.2.2.1
@[simp] theorem noteEligible_fwd (s : State) : (noteEligible s).fwd = s.fwd := (noteEligible_frame s).2.2.2.2.1
@[simp] theorem noteEligible_policy (s : State) : (noteEligible s).policy = s.policy := (noteEligible_frame s).2.2.2.2.2.1
@[simp] theorem noteEligible_dirty (s : State) : (noteEligible s).dirty = s.dirty := (noteEligible_frame s).2.2.2.2.2.2.1
@[simp] theorem noteEligible_sig (s : State) : (noteEligible s).sig = s.sig := (noteEligible_frame s).2.2.2.2.2.2.2.1
@[simp] theorem noteEligible_scan (s : State) : (noteEligible s).scan = s.scan := (noteEligible_frame s).2.2.2.2.2.2.2.2.1
@[simp] theorem noteEligible_events (s : State) : (noteEligible s).events = s.events := (noteEligible_frame s).2.2.2.2.2.2.2.2.2.1
@[simp] theorem noteEligible_mgmt (s : State) : (noteEligible s).mgmt = s.mgmt := (noteEligible_frame s).2.2.2.2.2.2.2.2.2.2.1
@[simp] theorem noteEligible_wires (s : State) : (noteEligible s).wires = s.wires := (noteEligible_frame s).2.2.2.2.2.2.2.2.2.2.2

/-- What `giveChannel` leaves alone. -/
theorem giveChannel_frame (s : State) : (giveChannel s).pending = s.pending ∧
    (giveChannel s).pins = s.pins ∧
    (giveChannel s).table = s.table ∧
    (giveChannel s).commit = s.commit ∧
    (giveChannel s).fwd = s.fwd ∧
    (giveChannel s).policy = s.policy ∧
    (giveChannel s).dirty = s.dirty ∧
    (giveChannel s).sig = s.sig ∧
    (giveChannel s).scan = s.scan ∧
    (giveChannel s).events = s.events ∧
    (giveChannel s).mgmt = s.mgmt ∧
    (giveChannel s).wires = s.wires := by
  unfold giveChannel; split <;> (try split) <;> (try split) <;> simp
@[simp] theorem giveChannel_pending (s : State) : (giveChannel s).pending = s.pending := (giveChannel_frame s).1
@[simp] theorem giveChannel_pins (s : State) : (giveChannel s).pins = s.pins := (giveChannel_frame s).2.1
@[simp] theorem giveChannel_table (s : State) : (giveChannel s).table = s.table := (giveChannel_frame s).2.2.1
@[simp] theorem giveChannel_commit (s : State) : (giveChannel s).commit = s.commit := (giveChannel_frame s).2.2.2.1
@[simp] theorem giveChannel_fwd (s : State) : (giveChannel s).fwd = s.fwd := (giveChannel_frame s).2.2.2.2.1
@[simp] theorem giveChannel_policy (s : State) : (giveChannel s).policy = s.policy := (giveChannel_frame s).2.2.2.2.2.1
@[simp] theorem giveChannel_dirty (s : State) : (giveChannel s).dirty = s.dirty := (giveChannel_frame s).2.2.2.2.2.2.1
@[simp] theorem giveChannel_sig (s : State) : (giveChannel s).sig = s.sig := (giveChannel_frame s).2.2.2.2.2.2.2.1
@[simp] theorem giveChannel_scan (s : State) : (giveChannel s).scan = s.scan := (giveChannel_frame s).2.2.2.2.2.2.2.2.1
@[simp] theorem giveChannel_events (s : State) : (giveChannel s).events = s.events := (giveChannel_frame s).2.2.2.2.2.2.2.2.2.1
@[simp] theorem giveChannel_mgmt (s : State) : (giveChannel s).mgmt = s.mgmt := (giveChannel_frame s).2.2.2.2.2.2.2.2.2.2.1
@[simp] theorem giveChannel_wires (s : State) : (giveChannel s).wires = s.wires := (giveChannel_frame s).2.2.2.2.2.2.2.2.2.2.2

/-- What `takeTurns` leaves alone. -/
theorem takeTurns_frame (s : State) : (takeTurns s).pending = s.pending ∧
    (takeTurns s).pins = s.pins ∧
    (takeTurns s).table = s.table ∧
    (takeTurns s).commit = s.commit ∧
    (takeTurns s).fwd = s.fwd ∧
    (takeTurns s).policy = s.policy ∧
    (takeTurns s).dirty = s.dirty ∧
    (takeTurns s).sig = s.sig ∧
    (takeTurns s).scan = s.scan ∧
    (takeTurns s).events = s.events ∧
    (takeTurns s).mgmt = s.mgmt ∧
    (takeTurns s).wires = s.wires := by
  simp [takeTurns]
@[simp] theorem takeTurns_pending (s : State) : (takeTurns s).pending = s.pending := (takeTurns_frame s).1
@[simp] theorem takeTurns_pins (s : State) : (takeTurns s).pins = s.pins := (takeTurns_frame s).2.1
@[simp] theorem takeTurns_table (s : State) : (takeTurns s).table = s.table := (takeTurns_frame s).2.2.1
@[simp] theorem takeTurns_commit (s : State) : (takeTurns s).commit = s.commit := (takeTurns_frame s).2.2.2.1
@[simp] theorem takeTurns_fwd (s : State) : (takeTurns s).fwd = s.fwd := (takeTurns_frame s).2.2.2.2.1
@[simp] theorem takeTurns_policy (s : State) : (takeTurns s).policy = s.policy := (takeTurns_frame s).2.2.2.2.2.1
@[simp] theorem takeTurns_dirty (s : State) : (takeTurns s).dirty = s.dirty := (takeTurns_frame s).2.2.2.2.2.2.1
@[simp] theorem takeTurns_sig (s : State) : (takeTurns s).sig = s.sig := (takeTurns_frame s).2.2.2.2.2.2.2.1
@[simp] theorem takeTurns_scan (s : State) : (takeTurns s).scan = s.scan := (takeTurns_frame s).2.2.2.2.2.2.2.2.1
@[simp] theorem takeTurns_events (s : State) : (takeTurns s).events = s.events := (takeTurns_frame s).2.2.2.2.2.2.2.2.2.1
@[simp] theorem takeTurns_mgmt (s : State) : (takeTurns s).mgmt = s.mgmt := (takeTurns_frame s).2.2.2.2.2.2.2.2.2.2.1
@[simp] theorem takeTurns_wires (s : State) : (takeTurns s).wires = s.wires := (takeTurns_frame s).2.2.2.2.2.2.2.2.2.2.2

/-- What `afterVerdict` leaves alone. -/
theorem afterVerdict_frame (s : State) (x : Txn) : (afterVerdict s x).pending = s.pending ∧
    (afterVerdict s x).pins = s.pins ∧
    (afterVerdict s x).table = s.table ∧
    (afterVerdict s x).commit = s.commit ∧
    (afterVerdict s x).fwd = s.fwd ∧
    (afterVerdict s x).policy = s.policy ∧
    (afterVerdict s x).dirty = s.dirty ∧
    (afterVerdict s x).sig = s.sig ∧
    (afterVerdict s x).scan = s.scan ∧
    (afterVerdict s x).events = s.events ∧
    (afterVerdict s x).mgmt = s.mgmt ∧
    (afterVerdict s x).wires = s.wires := by
  unfold afterVerdict; split <;> simp
@[simp] theorem afterVerdict_pending (s : State) (x : Txn) : (afterVerdict s x).pending = s.pending := (afterVerdict_frame s x).1
@[simp] theorem afterVerdict_pins (s : State) (x : Txn) : (afterVerdict s x).pins = s.pins := (afterVerdict_frame s x).2.1
@[simp] theorem afterVerdict_table (s : State) (x : Txn) : (afterVerdict s x).table = s.table := (afterVerdict_frame s x).2.2.1
@[simp] theorem afterVerdict_commit (s : State) (x : Txn) : (afterVerdict s x).commit = s.commit := (afterVerdict_frame s x).2.2.2.1
@[simp] theorem afterVerdict_fwd (s : State) (x : Txn) : (afterVerdict s x).fwd = s.fwd := (afterVerdict_frame s x).2.2.2.2.1
@[simp] theorem afterVerdict_policy (s : State) (x : Txn) : (afterVerdict s x).policy = s.policy := (afterVerdict_frame s x).2.2.2.2.2.1
@[simp] theorem afterVerdict_dirty (s : State) (x : Txn) : (afterVerdict s x).dirty = s.dirty := (afterVerdict_frame s x).2.2.2.2.2.2.1
@[simp] theorem afterVerdict_sig (s : State) (x : Txn) : (afterVerdict s x).sig = s.sig := (afterVerdict_frame s x).2.2.2.2.2.2.2.1
@[simp] theorem afterVerdict_scan (s : State) (x : Txn) : (afterVerdict s x).scan = s.scan := (afterVerdict_frame s x).2.2.2.2.2.2.2.2.1
@[simp] theorem afterVerdict_events (s : State) (x : Txn) : (afterVerdict s x).events = s.events := (afterVerdict_frame s x).2.2.2.2.2.2.2.2.2.1
@[simp] theorem afterVerdict_mgmt (s : State) (x : Txn) : (afterVerdict s x).mgmt = s.mgmt := (afterVerdict_frame s x).2.2.2.2.2.2.2.2.2.2.1
@[simp] theorem afterVerdict_wires (s : State) (x : Txn) : (afterVerdict s x).wires = s.wires := (afterVerdict_frame s x).2.2.2.2.2.2.2.2.2.2.2

/-- What `countTracked` leaves alone. -/
theorem countTracked_frame (s : State) (b : Bool) : (countTracked s b).pending = s.pending ∧
    (countTracked s b).pins = s.pins ∧
    (countTracked s b).table = s.table ∧
    (countTracked s b).commit = s.commit ∧
    (countTracked s b).tracker = s.tracker ∧
    (countTracked s b).fwd = s.fwd ∧
    (countTracked s b).policy = s.policy ∧
    (countTracked s b).sig = s.sig ∧
    (countTracked s b).scan = s.scan ∧
    (countTracked s b).events = s.events ∧
    (countTracked s b).mgmt = s.mgmt ∧
    (countTracked s b).wires = s.wires := by
  unfold countTracked; split <;> simp
@[simp] theorem countTracked_pending (s : State) (b : Bool) : (countTracked s b).pending = s.pending := (countTracked_frame s b).1
@[simp] theorem countTracked_pins (s : State) (b : Bool) : (countTracked s b).pins = s.pins := (countTracked_frame s b).2.1
@[simp] theorem countTracked_table (s : State) (b : Bool) : (countTracked s b).table = s.table := (countTracked_frame s b).2.2.1
@[simp] theorem countTracked_commit (s : State) (b : Bool) : (countTracked s b).commit = s.commit := (countTracked_frame s b).2.2.2.1
@[simp] theorem countTracked_tracker (s : State) (b : Bool) : (countTracked s b).tracker = s.tracker := (countTracked_frame s b).2.2.2.2.1
@[simp] theorem countTracked_fwd (s : State) (b : Bool) : (countTracked s b).fwd = s.fwd := (countTracked_frame s b).2.2.2.2.2.1
@[simp] theorem countTracked_policy (s : State) (b : Bool) : (countTracked s b).policy = s.policy := (countTracked_frame s b).2.2.2.2.2.2.1
@[simp] theorem countTracked_sig (s : State) (b : Bool) : (countTracked s b).sig = s.sig := (countTracked_frame s b).2.2.2.2.2.2.2.1
@[simp] theorem countTracked_scan (s : State) (b : Bool) : (countTracked s b).scan = s.scan := (countTracked_frame s b).2.2.2.2.2.2.2.2.1
@[simp] theorem countTracked_events (s : State) (b : Bool) : (countTracked s b).events = s.events := (countTracked_frame s b).2.2.2.2.2.2.2.2.2.1
@[simp] theorem countTracked_mgmt (s : State) (b : Bool) : (countTracked s b).mgmt = s.mgmt := (countTracked_frame s b).2.2.2.2.2.2.2.2.2.2.1
@[simp] theorem countTracked_wires (s : State) (b : Bool) : (countTracked s b).wires = s.wires := (countTracked_frame s b).2.2.2.2.2.2.2.2.2.2.2

/-- What `addBlock` leaves alone. -/
theorem addBlock_frame (s : State) (h : HostId) (i : Ix) (e : Entry) (g : Granule) (b : Nat) : (addBlock s h i e g b).pending = s.pending ∧
    (addBlock s h i e g b).pins = s.pins ∧
    (addBlock s h i e g b).table = s.table ∧
    (addBlock s h i e g b).commit = s.commit ∧
    (addBlock s h i e g b).tracker = s.tracker ∧
    (addBlock s h i e g b).fwd = s.fwd ∧
    (addBlock s h i e g b).policy = s.policy ∧
    (addBlock s h i e g b).sig = s.sig ∧
    (addBlock s h i e g b).scan = s.scan ∧
    (addBlock s h i e g b).mgmt = s.mgmt ∧
    (addBlock s h i e g b).wires = s.wires := by
  unfold addBlock; dsimp only; split; simp; split; split <;> simp; split <;> simp
@[simp] theorem addBlock_pending (s : State) (h : HostId) (i : Ix) (e : Entry) (g : Granule) (b : Nat) : (addBlock s h i e g b).pending = s.pending := (addBlock_frame s h i e g b).1
@[simp] theorem addBlock_pins (s : State) (h : HostId) (i : Ix) (e : Entry) (g : Granule) (b : Nat) : (addBlock s h i e g b).pins = s.pins := (addBlock_frame s h i e g b).2.1
@[simp] theorem addBlock_table (s : State) (h : HostId) (i : Ix) (e : Entry) (g : Granule) (b : Nat) : (addBlock s h i e g b).table = s.table := (addBlock_frame s h i e g b).2.2.1
@[simp] theorem addBlock_commit (s : State) (h : HostId) (i : Ix) (e : Entry) (g : Granule) (b : Nat) : (addBlock s h i e g b).commit = s.commit := (addBlock_frame s h i e g b).2.2.2.1
@[simp] theorem addBlock_tracker (s : State) (h : HostId) (i : Ix) (e : Entry) (g : Granule) (b : Nat) : (addBlock s h i e g b).tracker = s.tracker := (addBlock_frame s h i e g b).2.2.2.2.1
@[simp] theorem addBlock_fwd (s : State) (h : HostId) (i : Ix) (e : Entry) (g : Granule) (b : Nat) : (addBlock s h i e g b).fwd = s.fwd := (addBlock_frame s h i e g b).2.2.2.2.2.1
@[simp] theorem addBlock_policy (s : State) (h : HostId) (i : Ix) (e : Entry) (g : Granule) (b : Nat) : (addBlock s h i e g b).policy = s.policy := (addBlock_frame s h i e g b).2.2.2.2.2.2.1
@[simp] theorem addBlock_sig (s : State) (h : HostId) (i : Ix) (e : Entry) (g : Granule) (b : Nat) : (addBlock s h i e g b).sig = s.sig := (addBlock_frame s h i e g b).2.2.2.2.2.2.2.1
@[simp] theorem addBlock_scan (s : State) (h : HostId) (i : Ix) (e : Entry) (g : Granule) (b : Nat) : (addBlock s h i e g b).scan = s.scan := (addBlock_frame s h i e g b).2.2.2.2.2.2.2.2.1
@[simp] theorem addBlock_mgmt (s : State) (h : HostId) (i : Ix) (e : Entry) (g : Granule) (b : Nat) : (addBlock s h i e g b).mgmt = s.mgmt := (addBlock_frame s h i e g b).2.2.2.2.2.2.2.2.2.1
@[simp] theorem addBlock_wires (s : State) (h : HostId) (i : Ix) (e : Entry) (g : Granule) (b : Nat) : (addBlock s h i e g b).wires = s.wires := (addBlock_frame s h i e g b).2.2.2.2.2.2.2.2.2.2

/-- What `addTracked` leaves alone. -/
theorem addTracked_frame (s : State) (h : HostId) (b : Ix × Entry × Granule × Nat) : (addTracked s h b).pending = s.pending ∧
    (addTracked s h b).pins = s.pins ∧
    (addTracked s h b).table = s.table ∧
    (addTracked s h b).commit = s.commit ∧
    (addTracked s h b).tracker = s.tracker ∧
    (addTracked s h b).fwd = s.fwd ∧
    (addTracked s h b).policy = s.policy ∧
    (addTracked s h b).sig = s.sig ∧
    (addTracked s h b).scan = s.scan ∧
    (addTracked s h b).mgmt = s.mgmt ∧
    (addTracked s h b).wires = s.wires := by
  simp [addTracked]
@[simp] theorem addTracked_pending (s : State) (h : HostId) (b : Ix × Entry × Granule × Nat) : (addTracked s h b).pending = s.pending := (addTracked_frame s h b).1
@[simp] theorem addTracked_pins (s : State) (h : HostId) (b : Ix × Entry × Granule × Nat) : (addTracked s h b).pins = s.pins := (addTracked_frame s h b).2.1
@[simp] theorem addTracked_table (s : State) (h : HostId) (b : Ix × Entry × Granule × Nat) : (addTracked s h b).table = s.table := (addTracked_frame s h b).2.2.1
@[simp] theorem addTracked_commit (s : State) (h : HostId) (b : Ix × Entry × Granule × Nat) : (addTracked s h b).commit = s.commit := (addTracked_frame s h b).2.2.2.1
@[simp] theorem addTracked_tracker (s : State) (h : HostId) (b : Ix × Entry × Granule × Nat) : (addTracked s h b).tracker = s.tracker := (addTracked_frame s h b).2.2.2.2.1
@[simp] theorem addTracked_fwd (s : State) (h : HostId) (b : Ix × Entry × Granule × Nat) : (addTracked s h b).fwd = s.fwd := (addTracked_frame s h b).2.2.2.2.2.1
@[simp] theorem addTracked_policy (s : State) (h : HostId) (b : Ix × Entry × Granule × Nat) : (addTracked s h b).policy = s.policy := (addTracked_frame s h b).2.2.2.2.2.2.1
@[simp] theorem addTracked_sig (s : State) (h : HostId) (b : Ix × Entry × Granule × Nat) : (addTracked s h b).sig = s.sig := (addTracked_frame s h b).2.2.2.2.2.2.2.1
@[simp] theorem addTracked_scan (s : State) (h : HostId) (b : Ix × Entry × Granule × Nat) : (addTracked s h b).scan = s.scan := (addTracked_frame s h b).2.2.2.2.2.2.2.2.1
@[simp] theorem addTracked_mgmt (s : State) (h : HostId) (b : Ix × Entry × Granule × Nat) : (addTracked s h b).mgmt = s.mgmt := (addTracked_frame s h b).2.2.2.2.2.2.2.2.2.1
@[simp] theorem addTracked_wires (s : State) (h : HostId) (b : Ix × Entry × Granule × Nat) : (addTracked s h b).wires = s.wires := (addTracked_frame s h b).2.2.2.2.2.2.2.2.2.2

/-- What `takeBetween` leaves alone. -/
theorem takeBetween_frame (s : State) (c : DirtyCommand) : (takeBetween s c).pending = s.pending ∧
    (takeBetween s c).pins = s.pins ∧
    (takeBetween s c).table = s.table ∧
    (takeBetween s c).commit = s.commit ∧
    (takeBetween s c).wires = s.wires := by
  cases c <;> simp only [takeBetween, commanded_eq, answered_pending, answered_pins, answered_table, answered_commit, answered_wires]
  · unfold doTakeDirty; split <;> simp
  · unfold doClearDirty; split <;> simp
  · simp
  · unfold doSetDirtyThreshold; split <;> simp
  · unfold doSoftClear; split <;> simp
@[simp] theorem takeBetween_pending (s : State) (c : DirtyCommand) : (takeBetween s c).pending = s.pending := (takeBetween_frame s c).1
@[simp] theorem takeBetween_pins (s : State) (c : DirtyCommand) : (takeBetween s c).pins = s.pins := (takeBetween_frame s c).2.1
@[simp] theorem takeBetween_table (s : State) (c : DirtyCommand) : (takeBetween s c).table = s.table := (takeBetween_frame s c).2.2.1
@[simp] theorem takeBetween_commit (s : State) (c : DirtyCommand) : (takeBetween s c).commit = s.commit := (takeBetween_frame s c).2.2.2.1
@[simp] theorem takeBetween_wires (s : State) (c : DirtyCommand) : (takeBetween s c).wires = s.wires := (takeBetween_frame s c).2.2.2.2

/-- A command between two additions leaves the Transaction Table, the host response channel and the waiting answers alone: of the
Request Tracker it may clear the malformed counter (R176). -/
theorem takeBetween_tracker (s : State) (c : DirtyCommand) :
    (takeBetween s c).tracker = { s.tracker with malformed := (takeBetween s c).tracker.malformed } := by
  cases c <;> simp only [takeBetween, commanded_eq, answered_tracker]
  · unfold doTakeDirty; split <;> rfl
  · unfold doClearDirty; split <;> rfl
  · unfold doSetDirtyThreshold; split <;> rfl
  · unfold doSoftClear; split <;> rfl

/-- A command between two additions leaves the queues, the presented request and the idle-gap count alone: of the Forwarder it may
clear the memory error counter (R176). -/
theorem takeBetween_fwd (s : State) (c : DirtyCommand) :
    (takeBetween s c).fwd = { s.fwd with memErrors := (takeBetween s c).fwd.memErrors } := by
  cases c <;> simp only [takeBetween, commanded_eq, answered_fwd]
  · unfold doTakeDirty; split <;> rfl
  · unfold doClearDirty; split <;> rfl
  · unfold doSetDirtyThreshold; split <;> rfl
  · unfold doSoftClear; split <;> rfl

/-- A fold whose every step keeps a field keeps it. -/
theorem foldl_keeps {α β : Type} (field : State → β) (f : State → α → State) (h : ∀ s a, field (f s a) = field s)
    (l : List α) (s : State) : field (l.foldl f s) = field s := by
  induction l generalizing s with
  | nil => rfl
  | cons a l ih => simp [ih, h]

@[simp] theorem countWindows_pending (s : State) (fs : List (Ix × WatchPart × Finding)) : (countWindows s fs).pending = s.pending := by
  unfold countWindows; exact foldl_keeps State.pending _ (fun t a => countWindow_pending t a.1) fs s
@[simp] theorem countWindows_pins (s : State) (fs : List (Ix × WatchPart × Finding)) : (countWindows s fs).pins = s.pins := by
  unfold countWindows; exact foldl_keeps State.pins _ (fun t a => countWindow_pins t a.1) fs s
@[simp] theorem countWindows_table (s : State) (fs : List (Ix × WatchPart × Finding)) : (countWindows s fs).table = s.table := by
  unfold countWindows; exact foldl_keeps State.table _ (fun t a => countWindow_table t a.1) fs s
@[simp] theorem countWindows_commit (s : State) (fs : List (Ix × WatchPart × Finding)) : (countWindows s fs).commit = s.commit := by
  unfold countWindows; exact foldl_keeps State.commit _ (fun t a => countWindow_commit t a.1) fs s
@[simp] theorem countWindows_tracker (s : State) (fs : List (Ix × WatchPart × Finding)) : (countWindows s fs).tracker = s.tracker := by
  unfold countWindows; exact foldl_keeps State.tracker _ (fun t a => countWindow_tracker t a.1) fs s
@[simp] theorem countWindows_fwd (s : State) (fs : List (Ix × WatchPart × Finding)) : (countWindows s fs).fwd = s.fwd := by
  unfold countWindows; exact foldl_keeps State.fwd _ (fun t a => countWindow_fwd t a.1) fs s
@[simp] theorem countWindows_dirty (s : State) (fs : List (Ix × WatchPart × Finding)) : (countWindows s fs).dirty = s.dirty := by
  unfold countWindows; exact foldl_keeps State.dirty _ (fun t a => countWindow_dirty t a.1) fs s
@[simp] theorem countWindows_sig (s : State) (fs : List (Ix × WatchPart × Finding)) : (countWindows s fs).sig = s.sig := by
  unfold countWindows; exact foldl_keeps State.sig _ (fun t a => countWindow_sig t a.1) fs s
@[simp] theorem countWindows_scan (s : State) (fs : List (Ix × WatchPart × Finding)) : (countWindows s fs).scan = s.scan := by
  unfold countWindows; exact foldl_keeps State.scan _ (fun t a => countWindow_scan t a.1) fs s
@[simp] theorem countWindows_events (s : State) (fs : List (Ix × WatchPart × Finding)) : (countWindows s fs).events = s.events := by
  unfold countWindows; exact foldl_keeps State.events _ (fun t a => countWindow_events t a.1) fs s
@[simp] theorem countWindows_mgmt (s : State) (fs : List (Ix × WatchPart × Finding)) : (countWindows s fs).mgmt = s.mgmt := by
  unfold countWindows; exact foldl_keeps State.mgmt _ (fun t a => countWindow_mgmt t a.1) fs s
@[simp] theorem countWindows_wires (s : State) (fs : List (Ix × WatchPart × Finding)) : (countWindows s fs).wires = s.wires := by
  unfold countWindows; exact foldl_keeps State.wires _ (fun t a => countWindow_wires t a.1) fs s

@[simp] theorem reportWindows_pending (s : State) (r : Request) (fs : List (Ix × WatchPart × Finding)) : (reportWindows s r fs).pending = s.pending := by
  unfold reportWindows; exact foldl_keeps State.pending _ (fun t f => by split <;> rfl) fs s
@[simp] theorem reportWindows_pins (s : State) (r : Request) (fs : List (Ix × WatchPart × Finding)) : (reportWindows s r fs).pins = s.pins := by
  unfold reportWindows; exact foldl_keeps State.pins _ (fun t f => by split <;> rfl) fs s
@[simp] theorem reportWindows_table (s : State) (r : Request) (fs : List (Ix × WatchPart × Finding)) : (reportWindows s r fs).table = s.table := by
  unfold reportWindows; exact foldl_keeps State.table _ (fun t f => by split <;> rfl) fs s
@[simp] theorem reportWindows_commit (s : State) (r : Request) (fs : List (Ix × WatchPart × Finding)) : (reportWindows s r fs).commit = s.commit := by
  unfold reportWindows; exact foldl_keeps State.commit _ (fun t f => by split <;> rfl) fs s
@[simp] theorem reportWindows_tracker (s : State) (r : Request) (fs : List (Ix × WatchPart × Finding)) : (reportWindows s r fs).tracker = s.tracker := by
  unfold reportWindows; exact foldl_keeps State.tracker _ (fun t f => by split <;> rfl) fs s
@[simp] theorem reportWindows_fwd (s : State) (r : Request) (fs : List (Ix × WatchPart × Finding)) : (reportWindows s r fs).fwd = s.fwd := by
  unfold reportWindows; exact foldl_keeps State.fwd _ (fun t f => by split <;> rfl) fs s
@[simp] theorem reportWindows_policy (s : State) (r : Request) (fs : List (Ix × WatchPart × Finding)) : (reportWindows s r fs).policy = s.policy := by
  unfold reportWindows; exact foldl_keeps State.policy _ (fun t f => by split <;> rfl) fs s
@[simp] theorem reportWindows_dirty (s : State) (r : Request) (fs : List (Ix × WatchPart × Finding)) : (reportWindows s r fs).dirty = s.dirty := by
  unfold reportWindows; exact foldl_keeps State.dirty _ (fun t f => by split <;> rfl) fs s
@[simp] theorem reportWindows_sig (s : State) (r : Request) (fs : List (Ix × WatchPart × Finding)) : (reportWindows s r fs).sig = s.sig := by
  unfold reportWindows; exact foldl_keeps State.sig _ (fun t f => by split <;> rfl) fs s
@[simp] theorem reportWindows_scan (s : State) (r : Request) (fs : List (Ix × WatchPart × Finding)) : (reportWindows s r fs).scan = s.scan := by
  unfold reportWindows; exact foldl_keeps State.scan _ (fun t f => by split <;> rfl) fs s
@[simp] theorem reportWindows_mgmt (s : State) (r : Request) (fs : List (Ix × WatchPart × Finding)) : (reportWindows s r fs).mgmt = s.mgmt := by
  unfold reportWindows; exact foldl_keeps State.mgmt _ (fun t f => by split <;> rfl) fs s
@[simp] theorem reportWindows_wires (s : State) (r : Request) (fs : List (Ix × WatchPart × Finding)) : (reportWindows s r fs).wires = s.wires := by
  unfold reportWindows; exact foldl_keeps State.wires _ (fun t f => by split <;> rfl) fs s

@[simp] theorem countRefusals_pending (s : State) (cs : List (Ix × Cause)) : (cs.foldl (fun t d => countRefusal t d.1) s).pending = s.pending := by
  exact foldl_keeps State.pending _ (fun t a => countRefusal_pending t a.1) cs s
@[simp] theorem countRefusals_pins (s : State) (cs : List (Ix × Cause)) : (cs.foldl (fun t d => countRefusal t d.1) s).pins = s.pins := by
  exact foldl_keeps State.pins _ (fun t a => countRefusal_pins t a.1) cs s
@[simp] theorem countRefusals_table (s : State) (cs : List (Ix × Cause)) : (cs.foldl (fun t d => countRefusal t d.1) s).table = s.table := by
  exact foldl_keeps State.table _ (fun t a => countRefusal_table t a.1) cs s
@[simp] theorem countRefusals_commit (s : State) (cs : List (Ix × Cause)) : (cs.foldl (fun t d => countRefusal t d.1) s).commit = s.commit := by
  exact foldl_keeps State.commit _ (fun t a => countRefusal_commit t a.1) cs s
@[simp] theorem countRefusals_tracker (s : State) (cs : List (Ix × Cause)) : (cs.foldl (fun t d => countRefusal t d.1) s).tracker = s.tracker := by
  exact foldl_keeps State.tracker _ (fun t a => countRefusal_tracker t a.1) cs s
@[simp] theorem countRefusals_fwd (s : State) (cs : List (Ix × Cause)) : (cs.foldl (fun t d => countRefusal t d.1) s).fwd = s.fwd := by
  exact foldl_keeps State.fwd _ (fun t a => countRefusal_fwd t a.1) cs s
@[simp] theorem countRefusals_dirty (s : State) (cs : List (Ix × Cause)) : (cs.foldl (fun t d => countRefusal t d.1) s).dirty = s.dirty := by
  exact foldl_keeps State.dirty _ (fun t a => countRefusal_dirty t a.1) cs s
@[simp] theorem countRefusals_sig (s : State) (cs : List (Ix × Cause)) : (cs.foldl (fun t d => countRefusal t d.1) s).sig = s.sig := by
  exact foldl_keeps State.sig _ (fun t a => countRefusal_sig t a.1) cs s
@[simp] theorem countRefusals_scan (s : State) (cs : List (Ix × Cause)) : (cs.foldl (fun t d => countRefusal t d.1) s).scan = s.scan := by
  exact foldl_keeps State.scan _ (fun t a => countRefusal_scan t a.1) cs s
@[simp] theorem countRefusals_events (s : State) (cs : List (Ix × Cause)) : (cs.foldl (fun t d => countRefusal t d.1) s).events = s.events := by
  exact foldl_keeps State.events _ (fun t a => countRefusal_events t a.1) cs s
@[simp] theorem countRefusals_mgmt (s : State) (cs : List (Ix × Cause)) : (cs.foldl (fun t d => countRefusal t d.1) s).mgmt = s.mgmt := by
  exact foldl_keeps State.mgmt _ (fun t a => countRefusal_mgmt t a.1) cs s
@[simp] theorem countRefusals_wires (s : State) (cs : List (Ix × Cause)) : (cs.foldl (fun t d => countRefusal t d.1) s).wires = s.wires := by
  exact foldl_keeps State.wires _ (fun t a => countRefusal_wires t a.1) cs s

/-- What `addTrackedBlocks` leaves alone. -/
theorem addTrackedBlocks_frame (s : State) (h : HostId) (between : List DirtyCommand) (bs : List (Ix × Entry × Granule × Nat)) : (addTrackedBlocks s h between bs).pending = s.pending ∧
    (addTrackedBlocks s h between bs).pins = s.pins ∧
    (addTrackedBlocks s h between bs).table = s.table ∧
    (addTrackedBlocks s h between bs).commit = s.commit ∧
    (addTrackedBlocks s h between bs).wires = s.wires := by
  unfold addTrackedBlocks
  split
  · simp
  · simp
  · refine ⟨?_, ?_, ?_, ?_, ?_⟩
    · exact (foldl_keeps State.pending _ (fun t d => addTracked_pending t h d) _ _).trans
        ((foldl_keeps State.pending _ takeBetween_pending _ _).trans (addTracked_pending _ _ _))
    · exact (foldl_keeps State.pins _ (fun t d => addTracked_pins t h d) _ _).trans
        ((foldl_keeps State.pins _ takeBetween_pins _ _).trans (addTracked_pins _ _ _))
    · exact (foldl_keeps State.table _ (fun t d => addTracked_table t h d) _ _).trans
        ((foldl_keeps State.table _ takeBetween_table _ _).trans (addTracked_table _ _ _))
    · exact (foldl_keeps State.commit _ (fun t d => addTracked_commit t h d) _ _).trans
        ((foldl_keeps State.commit _ takeBetween_commit _ _).trans (addTracked_commit _ _ _))
    · exact (foldl_keeps State.wires _ (fun t d => addTracked_wires t h d) _ _).trans
        ((foldl_keeps State.wires _ takeBetween_wires _ _).trans (addTracked_wires _ _ _))
@[simp] theorem addTrackedBlocks_pending (s : State) (h : HostId) (between : List DirtyCommand) (bs : List (Ix × Entry × Granule × Nat)) : (addTrackedBlocks s h between bs).pending = s.pending := (addTrackedBlocks_frame s h between bs).1
@[simp] theorem addTrackedBlocks_pins (s : State) (h : HostId) (between : List DirtyCommand) (bs : List (Ix × Entry × Granule × Nat)) : (addTrackedBlocks s h between bs).pins = s.pins := (addTrackedBlocks_frame s h between bs).2.1
@[simp] theorem addTrackedBlocks_table (s : State) (h : HostId) (between : List DirtyCommand) (bs : List (Ix × Entry × Granule × Nat)) : (addTrackedBlocks s h between bs).table = s.table := (addTrackedBlocks_frame s h between bs).2.2.1
@[simp] theorem addTrackedBlocks_commit (s : State) (h : HostId) (between : List DirtyCommand) (bs : List (Ix × Entry × Granule × Nat)) : (addTrackedBlocks s h between bs).commit = s.commit := (addTrackedBlocks_frame s h between bs).2.2.2.1
@[simp] theorem addTrackedBlocks_wires (s : State) (h : HostId) (between : List DirtyCommand) (bs : List (Ix × Entry × Granule × Nat)) : (addTrackedBlocks s h between bs).wires = s.wires := (addTrackedBlocks_frame s h between bs).2.2.2.2

/-- With no command between, the dirty blocks of a write are added one right after the other. -/
theorem addTrackedBlocks_none (s : State) (h : HostId) (bs : List (Ix × Entry × Granule × Nat)) :
    addTrackedBlocks s h [] bs = bs.foldl (fun t b => addTracked t h b) s := by
  unfold addTrackedBlocks
  split <;> rfl

/-- What `handOff` leaves alone. -/
theorem handOff_frame (s : State) (r : Request) (bs : List WriteBeat) (between : List DirtyCommand) : (handOff s r bs between).pending = s.pending ∧
    (handOff s r bs between).pins = s.pins ∧
    (handOff s r bs between).table = s.table ∧
    (handOff s r bs between).commit = s.commit ∧
    (handOff s r bs between).wires = s.wires := by
  simp [handOff]
@[simp] theorem handOff_pending (s : State) (r : Request) (bs : List WriteBeat) (between : List DirtyCommand) : (handOff s r bs between).pending = s.pending := (handOff_frame s r bs between).1
@[simp] theorem handOff_pins (s : State) (r : Request) (bs : List WriteBeat) (between : List DirtyCommand) : (handOff s r bs between).pins = s.pins := (handOff_frame s r bs between).2.1
@[simp] theorem handOff_table (s : State) (r : Request) (bs : List WriteBeat) (between : List DirtyCommand) : (handOff s r bs between).table = s.table := (handOff_frame s r bs between).2.2.1
@[simp] theorem handOff_commit (s : State) (r : Request) (bs : List WriteBeat) (between : List DirtyCommand) : (handOff s r bs between).commit = s.commit := (handOff_frame s r bs between).2.2.2.1
@[simp] theorem handOff_wires (s : State) (r : Request) (bs : List WriteBeat) (between : List DirtyCommand) : (handOff s r bs between).wires = s.wires := (handOff_frame s r bs between).2.2.2.2

@[simp] theorem handOff_none_tracker (s : State) (r : Request) (bs : List WriteBeat) : (handOff s r bs []).tracker = s.tracker := by
  rw [handOff, addTrackedBlocks_none]; exact (foldl_keeps State.tracker _ (fun t d => addTracked_tracker t _ d) _ _).trans (by simp)
@[simp] theorem handOff_none_fwd (s : State) (r : Request) (bs : List WriteBeat) : (handOff s r bs []).fwd = s.fwd := by
  rw [handOff, addTrackedBlocks_none]; exact (foldl_keeps State.fwd _ (fun t d => addTracked_fwd t _ d) _ _).trans (by simp)
@[simp] theorem handOff_none_policy (s : State) (r : Request) (bs : List WriteBeat) : (handOff s r bs []).policy = s.policy := by
  rw [handOff, addTrackedBlocks_none]; exact (foldl_keeps State.policy _ (fun t d => addTracked_policy t _ d) _ _).trans (by simp)
@[simp] theorem handOff_none_sig (s : State) (r : Request) (bs : List WriteBeat) : (handOff s r bs []).sig = s.sig := by
  rw [handOff, addTrackedBlocks_none]; exact (foldl_keeps State.sig _ (fun t d => addTracked_sig t _ d) _ _).trans (by simp)
@[simp] theorem handOff_none_scan (s : State) (r : Request) (bs : List WriteBeat) : (handOff s r bs []).scan = s.scan := by
  rw [handOff, addTrackedBlocks_none]; exact (foldl_keeps State.scan _ (fun t d => addTracked_scan t _ d) _ _).trans (by simp)
@[simp] theorem handOff_none_mgmt (s : State) (r : Request) (bs : List WriteBeat) : (handOff s r bs []).mgmt = s.mgmt := by
  rw [handOff, addTrackedBlocks_none]; exact (foldl_keeps State.mgmt _ (fun t d => addTracked_mgmt t _ d) _ _).trans (by simp)

/-- What `judgeMalformed` leaves alone. -/
theorem judgeMalformed_frame (s : State) (x : Txn) : (judgeMalformed s x).1.pending = s.pending ∧
    (judgeMalformed s x).1.pins = s.pins ∧
    (judgeMalformed s x).1.table = s.table ∧
    (judgeMalformed s x).1.commit = s.commit ∧
    (judgeMalformed s x).1.fwd = s.fwd ∧
    (judgeMalformed s x).1.policy = s.policy ∧
    (judgeMalformed s x).1.dirty = s.dirty ∧
    (judgeMalformed s x).1.sig = s.sig ∧
    (judgeMalformed s x).1.scan = s.scan ∧
    (judgeMalformed s x).1.mgmt = s.mgmt ∧
    (judgeMalformed s x).1.wires = s.wires := by
  simp [judgeMalformed]
@[simp] theorem judgeMalformed_pending (s : State) (x : Txn) : (judgeMalformed s x).1.pending = s.pending := (judgeMalformed_frame s x).1
@[simp] theorem judgeMalformed_pins (s : State) (x : Txn) : (judgeMalformed s x).1.pins = s.pins := (judgeMalformed_frame s x).2.1
@[simp] theorem judgeMalformed_table (s : State) (x : Txn) : (judgeMalformed s x).1.table = s.table := (judgeMalformed_frame s x).2.2.1
@[simp] theorem judgeMalformed_commit (s : State) (x : Txn) : (judgeMalformed s x).1.commit = s.commit := (judgeMalformed_frame s x).2.2.2.1
@[simp] theorem judgeMalformed_fwd (s : State) (x : Txn) : (judgeMalformed s x).1.fwd = s.fwd := (judgeMalformed_frame s x).2.2.2.2.1
@[simp] theorem judgeMalformed_policy (s : State) (x : Txn) : (judgeMalformed s x).1.policy = s.policy := (judgeMalformed_frame s x).2.2.2.2.2.1
@[simp] theorem judgeMalformed_dirty (s : State) (x : Txn) : (judgeMalformed s x).1.dirty = s.dirty := (judgeMalformed_frame s x).2.2.2.2.2.2.1
@[simp] theorem judgeMalformed_sig (s : State) (x : Txn) : (judgeMalformed s x).1.sig = s.sig := (judgeMalformed_frame s x).2.2.2.2.2.2.2.1
@[simp] theorem judgeMalformed_scan (s : State) (x : Txn) : (judgeMalformed s x).1.scan = s.scan := (judgeMalformed_frame s x).2.2.2.2.2.2.2.2.1
@[simp] theorem judgeMalformed_mgmt (s : State) (x : Txn) : (judgeMalformed s x).1.mgmt = s.mgmt := (judgeMalformed_frame s x).2.2.2.2.2.2.2.2.2.1
@[simp] theorem judgeMalformed_wires (s : State) (x : Txn) : (judgeMalformed s x).1.wires = s.wires := (judgeMalformed_frame s x).2.2.2.2.2.2.2.2.2.2

/-- What `judgeRead` leaves alone. -/
theorem judgeRead_frame (s : State) (x : Txn) : (judgeRead s x).1.pending = s.pending ∧
    (judgeRead s x).1.pins = s.pins ∧
    (judgeRead s x).1.table = s.table ∧
    (judgeRead s x).1.commit = s.commit ∧
    (judgeRead s x).1.tracker = s.tracker ∧
    (judgeRead s x).1.dirty = s.dirty ∧
    (judgeRead s x).1.sig = s.sig ∧
    (judgeRead s x).1.scan = s.scan ∧
    (judgeRead s x).1.mgmt = s.mgmt ∧
    (judgeRead s x).1.wires = s.wires := by
  unfold judgeRead; split <;> simp
@[simp] theorem judgeRead_pending (s : State) (x : Txn) : (judgeRead s x).1.pending = s.pending := (judgeRead_frame s x).1
@[simp] theorem judgeRead_pins (s : State) (x : Txn) : (judgeRead s x).1.pins = s.pins := (judgeRead_frame s x).2.1
@[simp] theorem judgeRead_table (s : State) (x : Txn) : (judgeRead s x).1.table = s.table := (judgeRead_frame s x).2.2.1
@[simp] theorem judgeRead_commit (s : State) (x : Txn) : (judgeRead s x).1.commit = s.commit := (judgeRead_frame s x).2.2.2.1
@[simp] theorem judgeRead_tracker (s : State) (x : Txn) : (judgeRead s x).1.tracker = s.tracker := (judgeRead_frame s x).2.2.2.2.1
@[simp] theorem judgeRead_dirty (s : State) (x : Txn) : (judgeRead s x).1.dirty = s.dirty := (judgeRead_frame s x).2.2.2.2.2.1
@[simp] theorem judgeRead_sig (s : State) (x : Txn) : (judgeRead s x).1.sig = s.sig := (judgeRead_frame s x).2.2.2.2.2.2.1
@[simp] theorem judgeRead_scan (s : State) (x : Txn) : (judgeRead s x).1.scan = s.scan := (judgeRead_frame s x).2.2.2.2.2.2.2.1
@[simp] theorem judgeRead_mgmt (s : State) (x : Txn) : (judgeRead s x).1.mgmt = s.mgmt := (judgeRead_frame s x).2.2.2.2.2.2.2.2.1
@[simp] theorem judgeRead_wires (s : State) (x : Txn) : (judgeRead s x).1.wires = s.wires := (judgeRead_frame s x).2.2.2.2.2.2.2.2.2

/-- What `judgeWrite` leaves alone. -/
theorem judgeWrite_frame (s : State) (x : Txn) (bs : List WriteBeat) (between : List DirtyCommand) : (judgeWrite s x bs between).1.pending = s.pending ∧
    (judgeWrite s x bs between).1.pins = s.pins ∧
    (judgeWrite s x bs between).1.table = s.table ∧
    (judgeWrite s x bs between).1.commit = s.commit ∧
    (judgeWrite s x bs between).1.wires = s.wires := by
  unfold judgeWrite; dsimp only; split <;> simp [-List.foldl_cons]
@[simp] theorem judgeWrite_pending (s : State) (x : Txn) (bs : List WriteBeat) (between : List DirtyCommand) : (judgeWrite s x bs between).1.pending = s.pending := (judgeWrite_frame s x bs between).1
@[simp] theorem judgeWrite_pins (s : State) (x : Txn) (bs : List WriteBeat) (between : List DirtyCommand) : (judgeWrite s x bs between).1.pins = s.pins := (judgeWrite_frame s x bs between).2.1
@[simp] theorem judgeWrite_table (s : State) (x : Txn) (bs : List WriteBeat) (between : List DirtyCommand) : (judgeWrite s x bs between).1.table = s.table := (judgeWrite_frame s x bs between).2.2.1
@[simp] theorem judgeWrite_commit (s : State) (x : Txn) (bs : List WriteBeat) (between : List DirtyCommand) : (judgeWrite s x bs between).1.commit = s.commit := (judgeWrite_frame s x bs between).2.2.2.1
@[simp] theorem judgeWrite_wires (s : State) (x : Txn) (bs : List WriteBeat) (between : List DirtyCommand) : (judgeWrite s x bs between).1.wires = s.wires := (judgeWrite_frame s x bs between).2.2.2.2

@[simp] theorem judgeWrite_none_tracker (s : State) (x : Txn) (bs : List WriteBeat) : (judgeWrite s x bs []).1.tracker = s.tracker := by
  unfold judgeWrite; dsimp only; split <;> simp [-List.foldl_cons]
@[simp] theorem judgeWrite_none_sig (s : State) (x : Txn) (bs : List WriteBeat) : (judgeWrite s x bs []).1.sig = s.sig := by
  unfold judgeWrite; dsimp only; split <;> simp [-List.foldl_cons]
@[simp] theorem judgeWrite_none_scan (s : State) (x : Txn) (bs : List WriteBeat) : (judgeWrite s x bs []).1.scan = s.scan := by
  unfold judgeWrite; dsimp only; split <;> simp [-List.foldl_cons]
@[simp] theorem judgeWrite_none_mgmt (s : State) (x : Txn) (bs : List WriteBeat) : (judgeWrite s x bs []).1.mgmt = s.mgmt := by
  unfold judgeWrite; dsimp only; split <;> simp [-List.foldl_cons]

/-- What `judge` leaves alone. -/
theorem judge_frame (s : State) (x : Txn) (between : List DirtyCommand) : (judge s x between).1.pending = s.pending ∧
    (judge s x between).1.pins = s.pins ∧
    (judge s x between).1.table = s.table ∧
    (judge s x between).1.commit = s.commit ∧
    (judge s x between).1.wires = s.wires := by
  unfold judge; split; simp; split <;> simp
@[simp] theorem judge_pending (s : State) (x : Txn) (between : List DirtyCommand) : (judge s x between).1.pending = s.pending := (judge_frame s x between).1
@[simp] theorem judge_pins (s : State) (x : Txn) (between : List DirtyCommand) : (judge s x between).1.pins = s.pins := (judge_frame s x between).2.1
@[simp] theorem judge_table (s : State) (x : Txn) (between : List DirtyCommand) : (judge s x between).1.table = s.table := (judge_frame s x between).2.2.1
@[simp] theorem judge_commit (s : State) (x : Txn) (between : List DirtyCommand) : (judge s x between).1.commit = s.commit := (judge_frame s x between).2.2.2.1
@[simp] theorem judge_wires (s : State) (x : Txn) (between : List DirtyCommand) : (judge s x between).1.wires = s.wires := (judge_frame s x between).2.2.2.2

@[simp] theorem judge_none_sig (s : State) (x : Txn) : (judge s x []).1.sig = s.sig := by
  unfold judge; split; simp; split <;> simp
@[simp] theorem judge_none_scan (s : State) (x : Txn) : (judge s x []).1.scan = s.scan := by
  unfold judge; split; simp; split <;> simp
@[simp] theorem judge_none_mgmt (s : State) (x : Txn) : (judge s x []).1.mgmt = s.mgmt := by
  unfold judge; split; simp; split <;> simp

/-- What `verdictTime` leaves alone. -/
theorem verdictTime_frame (s : State) (earlier : List Txn) (x : Txn) (between : List DirtyCommand) : (verdictTime s earlier x between).1.pending = s.pending ∧
    (verdictTime s earlier x between).1.pins = s.pins ∧
    (verdictTime s earlier x between).1.table = s.table ∧
    (verdictTime s earlier x between).1.commit = s.commit ∧
    (verdictTime s earlier x between).1.wires = s.wires := by
  unfold verdictTime; split; simp; split; simp; split <;> simp
@[simp] theorem verdictTime_pending (s : State) (earlier : List Txn) (x : Txn) (between : List DirtyCommand) : (verdictTime s earlier x between).1.pending = s.pending := (verdictTime_frame s earlier x between).1
@[simp] theorem verdictTime_pins (s : State) (earlier : List Txn) (x : Txn) (between : List DirtyCommand) : (verdictTime s earlier x between).1.pins = s.pins := (verdictTime_frame s earlier x between).2.1
@[simp] theorem verdictTime_table (s : State) (earlier : List Txn) (x : Txn) (between : List DirtyCommand) : (verdictTime s earlier x between).1.table = s.table := (verdictTime_frame s earlier x between).2.2.1
@[simp] theorem verdictTime_commit (s : State) (earlier : List Txn) (x : Txn) (between : List DirtyCommand) : (verdictTime s earlier x between).1.commit = s.commit := (verdictTime_frame s earlier x between).2.2.2.1
@[simp] theorem verdictTime_wires (s : State) (earlier : List Txn) (x : Txn) (between : List DirtyCommand) : (verdictTime s earlier x between).1.wires = s.wires := (verdictTime_frame s earlier x between).2.2.2.2

@[simp] theorem verdictTime_none_sig (s : State) (earlier : List Txn) (x : Txn) : (verdictTime s earlier x []).1.sig = s.sig := by
  unfold verdictTime; split; simp; split; simp; split <;> simp
@[simp] theorem verdictTime_none_scan (s : State) (earlier : List Txn) (x : Txn) : (verdictTime s earlier x []).1.scan = s.scan := by
  unfold verdictTime; split; simp; split; simp; split <;> simp
@[simp] theorem verdictTime_none_mgmt (s : State) (earlier : List Txn) (x : Txn) : (verdictTime s earlier x []).1.mgmt = s.mgmt := by
  unfold verdictTime; split; simp; split; simp; split <;> simp

/-- What the release of held transactions, one at a time, leaves alone. -/
theorem releaseEach_frame (l : List Txn) (s : State) (pf : Bool) : (releaseEach s pf l).1.pending = s.pending ∧
    (releaseEach s pf l).1.pins = s.pins ∧
    (releaseEach s pf l).1.table = s.table ∧
    (releaseEach s pf l).1.commit = s.commit ∧
    (releaseEach s pf l).1.wires = s.wires := by
  induction l generalizing s with
  | nil => simp [releaseEach]
  | cons x l ih =>
    unfold releaseEach
    split
    · simpa using ih (judge s { x with phase := .judging } (if pf then x.between else [])).1
    · simpa using ih s
@[simp] theorem releaseEach_pending (l : List Txn) (s : State) (pf : Bool) : (releaseEach s pf l).1.pending = s.pending := (releaseEach_frame l s pf).1
@[simp] theorem releaseEach_pins (l : List Txn) (s : State) (pf : Bool) : (releaseEach s pf l).1.pins = s.pins := (releaseEach_frame l s pf).2.1
@[simp] theorem releaseEach_table (l : List Txn) (s : State) (pf : Bool) : (releaseEach s pf l).1.table = s.table := (releaseEach_frame l s pf).2.2.1
@[simp] theorem releaseEach_commit (l : List Txn) (s : State) (pf : Bool) : (releaseEach s pf l).1.commit = s.commit := (releaseEach_frame l s pf).2.2.2.1
@[simp] theorem releaseEach_wires (l : List Txn) (s : State) (pf : Bool) : (releaseEach s pf l).1.wires = s.wires := (releaseEach_frame l s pf).2.2.2.2

@[simp] theorem releaseEach_busy_sig (l : List Txn) (s : State) : (releaseEach s false l).1.sig = s.sig := by
  induction l generalizing s with
  | nil => rfl
  | cons x l ih =>
    unfold releaseEach
    split
    · simpa using ih (judge s { x with phase := .judging } []).1
    · exact ih s
@[simp] theorem releaseEach_busy_scan (l : List Txn) (s : State) : (releaseEach s false l).1.scan = s.scan := by
  induction l generalizing s with
  | nil => rfl
  | cons x l ih =>
    unfold releaseEach
    split
    · simpa using ih (judge s { x with phase := .judging } []).1
    · exact ih s
@[simp] theorem releaseEach_busy_mgmt (l : List Txn) (s : State) : (releaseEach s false l).1.mgmt = s.mgmt := by
  induction l generalizing s with
  | nil => rfl
  | cons x l ih =>
    unfold releaseEach
    split
    · simpa using ih (judge s { x with phase := .judging } []).1
    · exact ih s

/-- What `releaseHeld` leaves alone. -/
theorem releaseHeld_frame (s : State) (pf : Bool) : (releaseHeld s pf).pending = s.pending ∧
    (releaseHeld s pf).pins = s.pins ∧
    (releaseHeld s pf).table = s.table ∧
    (releaseHeld s pf).commit = s.commit ∧
    (releaseHeld s pf).wires = s.wires := by
  simp [releaseHeld]
@[simp] theorem releaseHeld_pending (s : State) (pf : Bool) : (releaseHeld s pf).pending = s.pending := (releaseHeld_frame s pf).1
@[simp] theorem releaseHeld_pins (s : State) (pf : Bool) : (releaseHeld s pf).pins = s.pins := (releaseHeld_frame s pf).2.1
@[simp] theorem releaseHeld_table (s : State) (pf : Bool) : (releaseHeld s pf).table = s.table := (releaseHeld_frame s pf).2.2.1
@[simp] theorem releaseHeld_commit (s : State) (pf : Bool) : (releaseHeld s pf).commit = s.commit := (releaseHeld_frame s pf).2.2.2.1
@[simp] theorem releaseHeld_wires (s : State) (pf : Bool) : (releaseHeld s pf).wires = s.wires := (releaseHeld_frame s pf).2.2.2.2

@[simp] theorem releaseHeld_busy_sig (s : State) : (releaseHeld s false).sig = s.sig := by
  simp [releaseHeld]
@[simp] theorem releaseHeld_busy_scan (s : State) : (releaseHeld s false).scan = s.scan := by
  simp [releaseHeld]
@[simp] theorem releaseHeld_busy_mgmt (s : State) : (releaseHeld s false).mgmt = s.mgmt := by
  simp [releaseHeld]

/-- What `withholdClaim` leaves alone. -/
theorem withholdClaim_frame (s : State) : (withholdClaim s).pending = s.pending ∧
    (withholdClaim s).pins = s.pins ∧
    (withholdClaim s).table = s.table ∧
    (withholdClaim s).commit = s.commit ∧
    (withholdClaim s).tracker = s.tracker ∧
    (withholdClaim s).fwd = s.fwd ∧
    (withholdClaim s).policy = s.policy ∧
    (withholdClaim s).dirty = s.dirty ∧
    (withholdClaim s).sig = s.sig ∧
    (withholdClaim s).events = s.events ∧
    (withholdClaim s).mgmt = s.mgmt ∧
    (withholdClaim s).wires = s.wires := by
  unfold withholdClaim; split <;> simp
@[simp] theorem withholdClaim_pending (s : State) : (withholdClaim s).pending = s.pending := (withholdClaim_frame s).1
@[simp] theorem withholdClaim_pins (s : State) : (withholdClaim s).pins = s.pins := (withholdClaim_frame s).2.1
@[simp] theorem withholdClaim_table (s : State) : (withholdClaim s).table = s.table := (withholdClaim_frame s).2.2.1
@[simp] theorem withholdClaim_commit (s : State) : (withholdClaim s).commit = s.commit := (withholdClaim_frame s).2.2.2.1
@[simp] theorem withholdClaim_tracker (s : State) : (withholdClaim s).tracker = s.tracker := (withholdClaim_frame s).2.2.2.2.1
@[simp] theorem withholdClaim_fwd (s : State) : (withholdClaim s).fwd = s.fwd := (withholdClaim_frame s).2.2.2.2.2.1
@[simp] theorem withholdClaim_policy (s : State) : (withholdClaim s).policy = s.policy := (withholdClaim_frame s).2.2.2.2.2.2.1
@[simp] theorem withholdClaim_dirty (s : State) : (withholdClaim s).dirty = s.dirty := (withholdClaim_frame s).2.2.2.2.2.2.2.1
@[simp] theorem withholdClaim_sig (s : State) : (withholdClaim s).sig = s.sig := (withholdClaim_frame s).2.2.2.2.2.2.2.2.1
@[simp] theorem withholdClaim_events (s : State) : (withholdClaim s).events = s.events := (withholdClaim_frame s).2.2.2.2.2.2.2.2.2.1
@[simp] theorem withholdClaim_mgmt (s : State) : (withholdClaim s).mgmt = s.mgmt := (withholdClaim_frame s).2.2.2.2.2.2.2.2.2.2.1
@[simp] theorem withholdClaim_wires (s : State) : (withholdClaim s).wires = s.wires := (withholdClaim_frame s).2.2.2.2.2.2.2.2.2.2.2

/-- What `tellActive` leaves alone. -/
theorem tellActive_frame (s : State) (i : Ix) (k : JobKind) : (tellActive s i k).pending = s.pending ∧
    (tellActive s i k).pins = s.pins ∧
    (tellActive s i k).table = s.table ∧
    (tellActive s i k).commit = s.commit ∧
    (tellActive s i k).tracker = s.tracker ∧
    (tellActive s i k).fwd = s.fwd ∧
    (tellActive s i k).policy = s.policy ∧
    (tellActive s i k).dirty = s.dirty ∧
    (tellActive s i k).scan = s.scan ∧
    (tellActive s i k).events = s.events ∧
    (tellActive s i k).mgmt = s.mgmt ∧
    (tellActive s i k).wires = s.wires := by
  unfold tellActive; split <;> simp
@[simp] theorem tellActive_pending (s : State) (i : Ix) (k : JobKind) : (tellActive s i k).pending = s.pending := (tellActive_frame s i k).1
@[simp] theorem tellActive_pins (s : State) (i : Ix) (k : JobKind) : (tellActive s i k).pins = s.pins := (tellActive_frame s i k).2.1
@[simp] theorem tellActive_table (s : State) (i : Ix) (k : JobKind) : (tellActive s i k).table = s.table := (tellActive_frame s i k).2.2.1
@[simp] theorem tellActive_commit (s : State) (i : Ix) (k : JobKind) : (tellActive s i k).commit = s.commit := (tellActive_frame s i k).2.2.2.1
@[simp] theorem tellActive_tracker (s : State) (i : Ix) (k : JobKind) : (tellActive s i k).tracker = s.tracker := (tellActive_frame s i k).2.2.2.2.1
@[simp] theorem tellActive_fwd (s : State) (i : Ix) (k : JobKind) : (tellActive s i k).fwd = s.fwd := (tellActive_frame s i k).2.2.2.2.2.1
@[simp] theorem tellActive_policy (s : State) (i : Ix) (k : JobKind) : (tellActive s i k).policy = s.policy := (tellActive_frame s i k).2.2.2.2.2.2.1
@[simp] theorem tellActive_dirty (s : State) (i : Ix) (k : JobKind) : (tellActive s i k).dirty = s.dirty := (tellActive_frame s i k).2.2.2.2.2.2.2.1
@[simp] theorem tellActive_scan (s : State) (i : Ix) (k : JobKind) : (tellActive s i k).scan = s.scan := (tellActive_frame s i k).2.2.2.2.2.2.2.2.1
@[simp] theorem tellActive_events (s : State) (i : Ix) (k : JobKind) : (tellActive s i k).events = s.events := (tellActive_frame s i k).2.2.2.2.2.2.2.2.2.1
@[simp] theorem tellActive_mgmt (s : State) (i : Ix) (k : JobKind) : (tellActive s i k).mgmt = s.mgmt := (tellActive_frame s i k).2.2.2.2.2.2.2.2.2.2.1
@[simp] theorem tellActive_wires (s : State) (i : Ix) (k : JobKind) : (tellActive s i k).wires = s.wires := (tellActive_frame s i k).2.2.2.2.2.2.2.2.2.2.2

/-- What `takeHead` leaves alone. -/
theorem takeHead_frame (s : State) : (takeHead s).pending = s.pending ∧
    (takeHead s).pins = s.pins ∧
    (takeHead s).table = s.table ∧
    (takeHead s).commit = s.commit ∧
    (takeHead s).tracker = s.tracker ∧
    (takeHead s).fwd = s.fwd ∧
    (takeHead s).policy = s.policy ∧
    (takeHead s).dirty = s.dirty ∧
    (takeHead s).events = s.events ∧
    (takeHead s).mgmt = s.mgmt ∧
    (takeHead s).wires = s.wires := by
  unfold takeHead; split <;> simp
@[simp] theorem takeHead_pending (s : State) : (takeHead s).pending = s.pending := (takeHead_frame s).1
@[simp] theorem takeHead_pins (s : State) : (takeHead s).pins = s.pins := (takeHead_frame s).2.1
@[simp] theorem takeHead_table (s : State) : (takeHead s).table = s.table := (takeHead_frame s).2.2.1
@[simp] theorem takeHead_commit (s : State) : (takeHead s).commit = s.commit := (takeHead_frame s).2.2.2.1
@[simp] theorem takeHead_tracker (s : State) : (takeHead s).tracker = s.tracker := (takeHead_frame s).2.2.2.2.1
@[simp] theorem takeHead_fwd (s : State) : (takeHead s).fwd = s.fwd := (takeHead_frame s).2.2.2.2.2.1
@[simp] theorem takeHead_policy (s : State) : (takeHead s).policy = s.policy := (takeHead_frame s).2.2.2.2.2.2.1
@[simp] theorem takeHead_dirty (s : State) : (takeHead s).dirty = s.dirty := (takeHead_frame s).2.2.2.2.2.2.2.1
@[simp] theorem takeHead_events (s : State) : (takeHead s).events = s.events := (takeHead_frame s).2.2.2.2.2.2.2.2.1
@[simp] theorem takeHead_mgmt (s : State) : (takeHead s).mgmt = s.mgmt := (takeHead_frame s).2.2.2.2.2.2.2.2.2.1
@[simp] theorem takeHead_wires (s : State) : (takeHead s).wires = s.wires := (takeHead_frame s).2.2.2.2.2.2.2.2.2.2

/-- What `settle` leaves alone. -/
theorem settle_frame (s : State) : (settle s).pending = s.pending ∧
    (settle s).pins = s.pins ∧
    (settle s).table = s.table ∧
    (settle s).commit = s.commit ∧
    (settle s).tracker = s.tracker ∧
    (settle s).fwd = s.fwd ∧
    (settle s).policy = s.policy ∧
    (settle s).dirty = s.dirty ∧
    (settle s).events = s.events ∧
    (settle s).mgmt = s.mgmt ∧
    (settle s).wires = s.wires := by
  simp [settle]
@[simp] theorem settle_pending (s : State) : (settle s).pending = s.pending := (settle_frame s).1
@[simp] theorem settle_pins (s : State) : (settle s).pins = s.pins := (settle_frame s).2.1
@[simp] theorem settle_table (s : State) : (settle s).table = s.table := (settle_frame s).2.2.1
@[simp] theorem settle_commit (s : State) : (settle s).commit = s.commit := (settle_frame s).2.2.2.1
@[simp] theorem settle_tracker (s : State) : (settle s).tracker = s.tracker := (settle_frame s).2.2.2.2.1
@[simp] theorem settle_fwd (s : State) : (settle s).fwd = s.fwd := (settle_frame s).2.2.2.2.2.1
@[simp] theorem settle_policy (s : State) : (settle s).policy = s.policy := (settle_frame s).2.2.2.2.2.2.1
@[simp] theorem settle_dirty (s : State) : (settle s).dirty = s.dirty := (settle_frame s).2.2.2.2.2.2.2.1
@[simp] theorem settle_events (s : State) : (settle s).events = s.events := (settle_frame s).2.2.2.2.2.2.2.2.1
@[simp] theorem settle_mgmt (s : State) : (settle s).mgmt = s.mgmt := (settle_frame s).2.2.2.2.2.2.2.2.2.1
@[simp] theorem settle_wires (s : State) : (settle s).wires = s.wires := (settle_frame s).2.2.2.2.2.2.2.2.2.2

/-- What `abandon` leaves alone. -/
theorem abandon_frame (s : State) (i : Ix) : (abandon s i).pending = s.pending ∧
    (abandon s i).pins = s.pins ∧
    (abandon s i).table = s.table ∧
    (abandon s i).commit = s.commit ∧
    (abandon s i).tracker = s.tracker ∧
    (abandon s i).fwd = s.fwd ∧
    (abandon s i).policy = s.policy ∧
    (abandon s i).dirty = s.dirty ∧
    (abandon s i).events = s.events ∧
    (abandon s i).mgmt = s.mgmt ∧
    (abandon s i).wires = s.wires := by
  unfold abandon; split <;> simp
@[simp] theorem abandon_pending (s : State) (i : Ix) : (abandon s i).pending = s.pending := (abandon_frame s i).1
@[simp] theorem abandon_pins (s : State) (i : Ix) : (abandon s i).pins = s.pins := (abandon_frame s i).2.1
@[simp] theorem abandon_table (s : State) (i : Ix) : (abandon s i).table = s.table := (abandon_frame s i).2.2.1
@[simp] theorem abandon_commit (s : State) (i : Ix) : (abandon s i).commit = s.commit := (abandon_frame s i).2.2.2.1
@[simp] theorem abandon_tracker (s : State) (i : Ix) : (abandon s i).tracker = s.tracker := (abandon_frame s i).2.2.2.2.1
@[simp] theorem abandon_fwd (s : State) (i : Ix) : (abandon s i).fwd = s.fwd := (abandon_frame s i).2.2.2.2.2.1
@[simp] theorem abandon_policy (s : State) (i : Ix) : (abandon s i).policy = s.policy := (abandon_frame s i).2.2.2.2.2.2.1
@[simp] theorem abandon_dirty (s : State) (i : Ix) : (abandon s i).dirty = s.dirty := (abandon_frame s i).2.2.2.2.2.2.2.1
@[simp] theorem abandon_events (s : State) (i : Ix) : (abandon s i).events = s.events := (abandon_frame s i).2.2.2.2.2.2.2.2.1
@[simp] theorem abandon_mgmt (s : State) (i : Ix) : (abandon s i).mgmt = s.mgmt := (abandon_frame s i).2.2.2.2.2.2.2.2.2.1
@[simp] theorem abandon_wires (s : State) (i : Ix) : (abandon s i).wires = s.wires := (abandon_frame s i).2.2.2.2.2.2.2.2.2.2

/-- What `openAt` leaves alone. -/
theorem openAt_frame (s : State) (i : Ix) : (openAt s i).pending = s.pending ∧
    (openAt s i).pins = s.pins ∧
    (openAt s i).table = s.table ∧
    (openAt s i).commit = s.commit ∧
    (openAt s i).tracker = s.tracker ∧
    (openAt s i).fwd = s.fwd ∧
    (openAt s i).policy = s.policy ∧
    (openAt s i).dirty = s.dirty ∧
    (openAt s i).events = s.events ∧
    (openAt s i).mgmt = s.mgmt ∧
    (openAt s i).wires = s.wires := by
  simp [openAt]
@[simp] theorem openAt_pending (s : State) (i : Ix) : (openAt s i).pending = s.pending := (openAt_frame s i).1
@[simp] theorem openAt_pins (s : State) (i : Ix) : (openAt s i).pins = s.pins := (openAt_frame s i).2.1
@[simp] theorem openAt_table (s : State) (i : Ix) : (openAt s i).table = s.table := (openAt_frame s i).2.2.1
@[simp] theorem openAt_commit (s : State) (i : Ix) : (openAt s i).commit = s.commit := (openAt_frame s i).2.2.2.1
@[simp] theorem openAt_tracker (s : State) (i : Ix) : (openAt s i).tracker = s.tracker := (openAt_frame s i).2.2.2.2.1
@[simp] theorem openAt_fwd (s : State) (i : Ix) : (openAt s i).fwd = s.fwd := (openAt_frame s i).2.2.2.2.2.1
@[simp] theorem openAt_policy (s : State) (i : Ix) : (openAt s i).policy = s.policy := (openAt_frame s i).2.2.2.2.2.2.1
@[simp] theorem openAt_dirty (s : State) (i : Ix) : (openAt s i).dirty = s.dirty := (openAt_frame s i).2.2.2.2.2.2.2.1
@[simp] theorem openAt_events (s : State) (i : Ix) : (openAt s i).events = s.events := (openAt_frame s i).2.2.2.2.2.2.2.2.1
@[simp] theorem openAt_mgmt (s : State) (i : Ix) : (openAt s i).mgmt = s.mgmt := (openAt_frame s i).2.2.2.2.2.2.2.2.2.1
@[simp] theorem openAt_wires (s : State) (i : Ix) : (openAt s i).wires = s.wires := (openAt_frame s i).2.2.2.2.2.2.2.2.2.2

/-- What `enqueueRound` leaves alone. -/
theorem enqueueRound_frame (s : State) : (enqueueRound s).pending = s.pending ∧
    (enqueueRound s).pins = s.pins ∧
    (enqueueRound s).table = s.table ∧
    (enqueueRound s).commit = s.commit ∧
    (enqueueRound s).tracker = s.tracker ∧
    (enqueueRound s).fwd = s.fwd ∧
    (enqueueRound s).policy = s.policy ∧
    (enqueueRound s).dirty = s.dirty ∧
    (enqueueRound s).sig = s.sig ∧
    (enqueueRound s).events = s.events ∧
    (enqueueRound s).mgmt = s.mgmt ∧
    (enqueueRound s).wires = s.wires := by
  unfold enqueueRound; split <;> simp
@[simp] theorem enqueueRound_pending (s : State) : (enqueueRound s).pending = s.pending := (enqueueRound_frame s).1
@[simp] theorem enqueueRound_pins (s : State) : (enqueueRound s).pins = s.pins := (enqueueRound_frame s).2.1
@[simp] theorem enqueueRound_table (s : State) : (enqueueRound s).table = s.table := (enqueueRound_frame s).2.2.1
@[simp] theorem enqueueRound_commit (s : State) : (enqueueRound s).commit = s.commit := (enqueueRound_frame s).2.2.2.1
@[simp] theorem enqueueRound_tracker (s : State) : (enqueueRound s).tracker = s.tracker := (enqueueRound_frame s).2.2.2.2.1
@[simp] theorem enqueueRound_fwd (s : State) : (enqueueRound s).fwd = s.fwd := (enqueueRound_frame s).2.2.2.2.2.1
@[simp] theorem enqueueRound_policy (s : State) : (enqueueRound s).policy = s.policy := (enqueueRound_frame s).2.2.2.2.2.2.1
@[simp] theorem enqueueRound_dirty (s : State) : (enqueueRound s).dirty = s.dirty := (enqueueRound_frame s).2.2.2.2.2.2.2.1
@[simp] theorem enqueueRound_sig (s : State) : (enqueueRound s).sig = s.sig := (enqueueRound_frame s).2.2.2.2.2.2.2.2.1
@[simp] theorem enqueueRound_events (s : State) : (enqueueRound s).events = s.events := (enqueueRound_frame s).2.2.2.2.2.2.2.2.2.1
@[simp] theorem enqueueRound_mgmt (s : State) : (enqueueRound s).mgmt = s.mgmt := (enqueueRound_frame s).2.2.2.2.2.2.2.2.2.2.1
@[simp] theorem enqueueRound_wires (s : State) : (enqueueRound s).wires = s.wires := (enqueueRound_frame s).2.2.2.2.2.2.2.2.2.2.2

/-- What `meetRound` leaves alone. -/
theorem meetRound_frame (s : State) : (meetRound s).pending = s.pending ∧
    (meetRound s).pins = s.pins ∧
    (meetRound s).table = s.table ∧
    (meetRound s).commit = s.commit ∧
    (meetRound s).tracker = s.tracker ∧
    (meetRound s).fwd = s.fwd ∧
    (meetRound s).policy = s.policy ∧
    (meetRound s).dirty = s.dirty ∧
    (meetRound s).sig = s.sig ∧
    (meetRound s).events = s.events ∧
    (meetRound s).mgmt = s.mgmt ∧
    (meetRound s).wires = s.wires := by
  unfold meetRound; split <;> (try split) <;> simp
@[simp] theorem meetRound_pending (s : State) : (meetRound s).pending = s.pending := (meetRound_frame s).1
@[simp] theorem meetRound_pins (s : State) : (meetRound s).pins = s.pins := (meetRound_frame s).2.1
@[simp] theorem meetRound_table (s : State) : (meetRound s).table = s.table := (meetRound_frame s).2.2.1
@[simp] theorem meetRound_commit (s : State) : (meetRound s).commit = s.commit := (meetRound_frame s).2.2.2.1
@[simp] theorem meetRound_tracker (s : State) : (meetRound s).tracker = s.tracker := (meetRound_frame s).2.2.2.2.1
@[simp] theorem meetRound_fwd (s : State) : (meetRound s).fwd = s.fwd := (meetRound_frame s).2.2.2.2.2.1
@[simp] theorem meetRound_policy (s : State) : (meetRound s).policy = s.policy := (meetRound_frame s).2.2.2.2.2.2.1
@[simp] theorem meetRound_dirty (s : State) : (meetRound s).dirty = s.dirty := (meetRound_frame s).2.2.2.2.2.2.2.1
@[simp] theorem meetRound_sig (s : State) : (meetRound s).sig = s.sig := (meetRound_frame s).2.2.2.2.2.2.2.2.1
@[simp] theorem meetRound_events (s : State) : (meetRound s).events = s.events := (meetRound_frame s).2.2.2.2.2.2.2.2.2.1
@[simp] theorem meetRound_mgmt (s : State) : (meetRound s).mgmt = s.mgmt := (meetRound_frame s).2.2.2.2.2.2.2.2.2.2.1
@[simp] theorem meetRound_wires (s : State) : (meetRound s).wires = s.wires := (meetRound_frame s).2.2.2.2.2.2.2.2.2.2.2

/-- Enqueuing a round leaves the engine's state as it was (R133). -/
@[simp] theorem enqueueRound_engine (s : State) : (enqueueRound s).scan.engine = s.scan.engine := by
  unfold enqueueRound
  split <;> rfl

/-- All that can come of a joining job and a round's expiry (R133): nothing, where they do not fall together; or one draw of the free
value, with the round enqueued or not. -/
theorem meetRound_cases (s : State) : meetRound s = s ∨
    s.scan.engine = .idle ∧ timerDue s.scan.roundTimer = true ∧
      let t := { s with scan := { s.scan with ties := s.scan.ties + 1 } }
      (Config.roundFirst s.scan.ties = true ∧ meetRound s = enqueueRound t ∨
        Config.roundFirst s.scan.ties = false ∧ meetRound s = t) := by
  unfold meetRound
  split
  · next h =>
    simp only [Bool.and_eq_true, beq_iff_eq] at h
    refine .inr ⟨h.1, h.2, ?_⟩
    dsimp only
    split
    · next hf => exact .inl ⟨hf, rfl⟩
    · next hf => exact .inr ⟨by simpa using hf, rfl⟩
  · exact .inl rfl

/-- The order of a round's expiry and a joining job leaves the engine's state as it was (R133). -/
@[simp] theorem meetRound_engine (s : State) : (meetRound s).scan.engine = s.scan.engine := by
  unfold meetRound
  split
  · dsimp only
    split <;> simp
  · rfl

/-- Where the engine is not IDLE no round falls together with a joining job (R133). -/
theorem meetRound_of_not_idle (s : State) (h : s.scan.engine ≠ .idle) : meetRound s = s := by
  unfold meetRound
  rw [if_neg (by simp [h])]

/-- What `meetSigning` leaves alone. -/
theorem meetSigning_frame (s : State) (i : Ix) : (meetSigning s i).pending = s.pending ∧
    (meetSigning s i).pins = s.pins ∧
    (meetSigning s i).table = s.table ∧
    (meetSigning s i).commit = s.commit ∧
    (meetSigning s i).tracker = s.tracker ∧
    (meetSigning s i).fwd = s.fwd ∧
    (meetSigning s i).policy = s.policy ∧
    (meetSigning s i).dirty = s.dirty ∧
    (meetSigning s i).sig = s.sig ∧
    (meetSigning s i).events = s.events ∧
    (meetSigning s i).mgmt = s.mgmt ∧
    (meetSigning s i).wires = s.wires := by
  unfold meetSigning; split <;> simp
@[simp] theorem meetSigning_pending (s : State) (i : Ix) : (meetSigning s i).pending = s.pending := (meetSigning_frame s i).1
@[simp] theorem meetSigning_pins (s : State) (i : Ix) : (meetSigning s i).pins = s.pins := (meetSigning_frame s i).2.1
@[simp] theorem meetSigning_table (s : State) (i : Ix) : (meetSigning s i).table = s.table := (meetSigning_frame s i).2.2.1
@[simp] theorem meetSigning_commit (s : State) (i : Ix) : (meetSigning s i).commit = s.commit := (meetSigning_frame s i).2.2.2.1
@[simp] theorem meetSigning_tracker (s : State) (i : Ix) : (meetSigning s i).tracker = s.tracker := (meetSigning_frame s i).2.2.2.2.1
@[simp] theorem meetSigning_fwd (s : State) (i : Ix) : (meetSigning s i).fwd = s.fwd := (meetSigning_frame s i).2.2.2.2.2.1
@[simp] theorem meetSigning_policy (s : State) (i : Ix) : (meetSigning s i).policy = s.policy := (meetSigning_frame s i).2.2.2.2.2.2.1
@[simp] theorem meetSigning_dirty (s : State) (i : Ix) : (meetSigning s i).dirty = s.dirty := (meetSigning_frame s i).2.2.2.2.2.2.2.1
@[simp] theorem meetSigning_sig (s : State) (i : Ix) : (meetSigning s i).sig = s.sig := (meetSigning_frame s i).2.2.2.2.2.2.2.2.1
@[simp] theorem meetSigning_events (s : State) (i : Ix) : (meetSigning s i).events = s.events := (meetSigning_frame s i).2.2.2.2.2.2.2.2.2.1
@[simp] theorem meetSigning_mgmt (s : State) (i : Ix) : (meetSigning s i).mgmt = s.mgmt := (meetSigning_frame s i).2.2.2.2.2.2.2.2.2.2.1
@[simp] theorem meetSigning_wires (s : State) (i : Ix) : (meetSigning s i).wires = s.wires := (meetSigning_frame s i).2.2.2.2.2.2.2.2.2.2.2

/-- What `dropVerify` leaves alone. -/
theorem dropVerify_frame (s : State) (i : Ix) : (dropVerify s i).pending = s.pending ∧
    (dropVerify s i).pins = s.pins ∧
    (dropVerify s i).table = s.table ∧
    (dropVerify s i).commit = s.commit ∧
    (dropVerify s i).tracker = s.tracker ∧
    (dropVerify s i).fwd = s.fwd ∧
    (dropVerify s i).policy = s.policy ∧
    (dropVerify s i).dirty = s.dirty ∧
    (dropVerify s i).events = s.events ∧
    (dropVerify s i).mgmt = s.mgmt ∧
    (dropVerify s i).wires = s.wires := by
  unfold dropVerify; dsimp only; split <;> simp
@[simp] theorem dropVerify_pending (s : State) (i : Ix) : (dropVerify s i).pending = s.pending := (dropVerify_frame s i).1
@[simp] theorem dropVerify_pins (s : State) (i : Ix) : (dropVerify s i).pins = s.pins := (dropVerify_frame s i).2.1
@[simp] theorem dropVerify_table (s : State) (i : Ix) : (dropVerify s i).table = s.table := (dropVerify_frame s i).2.2.1
@[simp] theorem dropVerify_commit (s : State) (i : Ix) : (dropVerify s i).commit = s.commit := (dropVerify_frame s i).2.2.2.1
@[simp] theorem dropVerify_tracker (s : State) (i : Ix) : (dropVerify s i).tracker = s.tracker := (dropVerify_frame s i).2.2.2.2.1
@[simp] theorem dropVerify_fwd (s : State) (i : Ix) : (dropVerify s i).fwd = s.fwd := (dropVerify_frame s i).2.2.2.2.2.1
@[simp] theorem dropVerify_policy (s : State) (i : Ix) : (dropVerify s i).policy = s.policy := (dropVerify_frame s i).2.2.2.2.2.2.1
@[simp] theorem dropVerify_dirty (s : State) (i : Ix) : (dropVerify s i).dirty = s.dirty := (dropVerify_frame s i).2.2.2.2.2.2.2.1
@[simp] theorem dropVerify_events (s : State) (i : Ix) : (dropVerify s i).events = s.events := (dropVerify_frame s i).2.2.2.2.2.2.2.2.1
@[simp] theorem dropVerify_mgmt (s : State) (i : Ix) : (dropVerify s i).mgmt = s.mgmt := (dropVerify_frame s i).2.2.2.2.2.2.2.2.2.1
@[simp] theorem dropVerify_wires (s : State) (i : Ix) : (dropVerify s i).wires = s.wires := (dropVerify_frame s i).2.2.2.2.2.2.2.2.2.2

/-- What `requestSign` leaves alone. -/
theorem requestSign_frame (s : State) (i : Ix) : (requestSign s i).pending = s.pending ∧
    (requestSign s i).pins = s.pins ∧
    (requestSign s i).table = s.table ∧
    (requestSign s i).commit = s.commit ∧
    (requestSign s i).tracker = s.tracker ∧
    (requestSign s i).fwd = s.fwd ∧
    (requestSign s i).policy = s.policy ∧
    (requestSign s i).dirty = s.dirty ∧
    (requestSign s i).events = s.events ∧
    (requestSign s i).mgmt = s.mgmt ∧
    (requestSign s i).wires = s.wires := by
  simp [requestSign, queueSign]
@[simp] theorem requestSign_pending (s : State) (i : Ix) : (requestSign s i).pending = s.pending := (requestSign_frame s i).1
@[simp] theorem requestSign_pins (s : State) (i : Ix) : (requestSign s i).pins = s.pins := (requestSign_frame s i).2.1
@[simp] theorem requestSign_table (s : State) (i : Ix) : (requestSign s i).table = s.table := (requestSign_frame s i).2.2.1
@[simp] theorem requestSign_commit (s : State) (i : Ix) : (requestSign s i).commit = s.commit := (requestSign_frame s i).2.2.2.1
@[simp] theorem requestSign_tracker (s : State) (i : Ix) : (requestSign s i).tracker = s.tracker := (requestSign_frame s i).2.2.2.2.1
@[simp] theorem requestSign_fwd (s : State) (i : Ix) : (requestSign s i).fwd = s.fwd := (requestSign_frame s i).2.2.2.2.2.1
@[simp] theorem requestSign_policy (s : State) (i : Ix) : (requestSign s i).policy = s.policy := (requestSign_frame s i).2.2.2.2.2.2.1
@[simp] theorem requestSign_dirty (s : State) (i : Ix) : (requestSign s i).dirty = s.dirty := (requestSign_frame s i).2.2.2.2.2.2.2.1
@[simp] theorem requestSign_events (s : State) (i : Ix) : (requestSign s i).events = s.events := (requestSign_frame s i).2.2.2.2.2.2.2.2.1
@[simp] theorem requestSign_mgmt (s : State) (i : Ix) : (requestSign s i).mgmt = s.mgmt := (requestSign_frame s i).2.2.2.2.2.2.2.2.2.1
@[simp] theorem requestSign_wires (s : State) (i : Ix) : (requestSign s i).wires = s.wires := (requestSign_frame s i).2.2.2.2.2.2.2.2.2.2

/-- What `startWriteDrain` leaves alone. -/
theorem startWriteDrain_frame (s : State) (i : Ix) : (startWriteDrain s i).pending = s.pending ∧
    (startWriteDrain s i).pins = s.pins ∧
    (startWriteDrain s i).table = s.table ∧
    (startWriteDrain s i).commit = s.commit ∧
    (startWriteDrain s i).tracker = s.tracker ∧
    (startWriteDrain s i).fwd = s.fwd ∧
    (startWriteDrain s i).policy = s.policy ∧
    (startWriteDrain s i).dirty = s.dirty ∧
    (startWriteDrain s i).events = s.events ∧
    (startWriteDrain s i).mgmt = s.mgmt ∧
    (startWriteDrain s i).wires = s.wires := by
  unfold startWriteDrain; dsimp only; split <;> simp
@[simp] theorem startWriteDrain_pending (s : State) (i : Ix) : (startWriteDrain s i).pending = s.pending := (startWriteDrain_frame s i).1
@[simp] theorem startWriteDrain_pins (s : State) (i : Ix) : (startWriteDrain s i).pins = s.pins := (startWriteDrain_frame s i).2.1
@[simp] theorem startWriteDrain_table (s : State) (i : Ix) : (startWriteDrain s i).table = s.table := (startWriteDrain_frame s i).2.2.1
@[simp] theorem startWriteDrain_commit (s : State) (i : Ix) : (startWriteDrain s i).commit = s.commit := (startWriteDrain_frame s i).2.2.2.1
@[simp] theorem startWriteDrain_tracker (s : State) (i : Ix) : (startWriteDrain s i).tracker = s.tracker := (startWriteDrain_frame s i).2.2.2.2.1
@[simp] theorem startWriteDrain_fwd (s : State) (i : Ix) : (startWriteDrain s i).fwd = s.fwd := (startWriteDrain_frame s i).2.2.2.2.2.1
@[simp] theorem startWriteDrain_policy (s : State) (i : Ix) : (startWriteDrain s i).policy = s.policy := (startWriteDrain_frame s i).2.2.2.2.2.2.1
@[simp] theorem startWriteDrain_dirty (s : State) (i : Ix) : (startWriteDrain s i).dirty = s.dirty := (startWriteDrain_frame s i).2.2.2.2.2.2.2.1
@[simp] theorem startWriteDrain_events (s : State) (i : Ix) : (startWriteDrain s i).events = s.events := (startWriteDrain_frame s i).2.2.2.2.2.2.2.2.1
@[simp] theorem startWriteDrain_mgmt (s : State) (i : Ix) : (startWriteDrain s i).mgmt = s.mgmt := (startWriteDrain_frame s i).2.2.2.2.2.2.2.2.2.1
@[simp] theorem startWriteDrain_wires (s : State) (i : Ix) : (startWriteDrain s i).wires = s.wires := (startWriteDrain_frame s i).2.2.2.2.2.2.2.2.2.2

@[simp] theorem finishWriteDrains_pending (s : State) : (finishWriteDrains s).pending = s.pending := by
  unfold finishWriteDrains; split
  · rfl
  · exact (foldl_keeps State.pending _ (fun t i => requestSign_pending t i) _ _).trans (meetRound_pending s)
@[simp] theorem finishWriteDrains_pins (s : State) : (finishWriteDrains s).pins = s.pins := by
  unfold finishWriteDrains; split
  · rfl
  · exact (foldl_keeps State.pins _ (fun t i => requestSign_pins t i) _ _).trans (meetRound_pins s)
@[simp] theorem finishWriteDrains_table (s : State) : (finishWriteDrains s).table = s.table := by
  unfold finishWriteDrains; split
  · rfl
  · exact (foldl_keeps State.table _ (fun t i => requestSign_table t i) _ _).trans (meetRound_table s)
@[simp] theorem finishWriteDrains_commit (s : State) : (finishWriteDrains s).commit = s.commit := by
  unfold finishWriteDrains; split
  · rfl
  · exact (foldl_keeps State.commit _ (fun t i => requestSign_commit t i) _ _).trans (meetRound_commit s)
@[simp] theorem finishWriteDrains_tracker (s : State) : (finishWriteDrains s).tracker = s.tracker := by
  unfold finishWriteDrains; split
  · rfl
  · exact (foldl_keeps State.tracker _ (fun t i => requestSign_tracker t i) _ _).trans (meetRound_tracker s)
@[simp] theorem finishWriteDrains_fwd (s : State) : (finishWriteDrains s).fwd = s.fwd := by
  unfold finishWriteDrains; split
  · rfl
  · exact (foldl_keeps State.fwd _ (fun t i => requestSign_fwd t i) _ _).trans (meetRound_fwd s)
@[simp] theorem finishWriteDrains_policy (s : State) : (finishWriteDrains s).policy = s.policy := by
  unfold finishWriteDrains; split
  · rfl
  · exact (foldl_keeps State.policy _ (fun t i => requestSign_policy t i) _ _).trans (meetRound_policy s)
@[simp] theorem finishWriteDrains_dirty (s : State) : (finishWriteDrains s).dirty = s.dirty := by
  unfold finishWriteDrains; split
  · rfl
  · exact (foldl_keeps State.dirty _ (fun t i => requestSign_dirty t i) _ _).trans (meetRound_dirty s)
@[simp] theorem finishWriteDrains_events (s : State) : (finishWriteDrains s).events = s.events := by
  unfold finishWriteDrains; split
  · rfl
  · exact (foldl_keeps State.events _ (fun t i => requestSign_events t i) _ _).trans (meetRound_events s)
@[simp] theorem finishWriteDrains_mgmt (s : State) : (finishWriteDrains s).mgmt = s.mgmt := by
  unfold finishWriteDrains; split
  · rfl
  · exact (foldl_keeps State.mgmt _ (fun t i => requestSign_mgmt t i) _ _).trans (meetRound_mgmt s)
@[simp] theorem finishWriteDrains_wires (s : State) : (finishWriteDrains s).wires = s.wires := by
  unfold finishWriteDrains; split
  · rfl
  · exact (foldl_keeps State.wires _ (fun t i => requestSign_wires t i) _ _).trans (meetRound_wires s)

/-- What `applySign` leaves alone. -/
theorem applySign_frame (s : State) (i : Ix) (c : BitVec 32) : (applySign s i c).pending = s.pending ∧
    (applySign s i c).pins = s.pins ∧
    (applySign s i c).table = s.table ∧
    (applySign s i c).commit = s.commit ∧
    (applySign s i c).tracker = s.tracker ∧
    (applySign s i c).fwd = s.fwd ∧
    (applySign s i c).policy = s.policy ∧
    (applySign s i c).dirty = s.dirty ∧
    (applySign s i c).scan = s.scan ∧
    (applySign s i c).mgmt = s.mgmt ∧
    (applySign s i c).wires = s.wires := by
  unfold applySign; split <;> simp
@[simp] theorem applySign_pending (s : State) (i : Ix) (c : BitVec 32) : (applySign s i c).pending = s.pending := (applySign_frame s i c).1
@[simp] theorem applySign_pins (s : State) (i : Ix) (c : BitVec 32) : (applySign s i c).pins = s.pins := (applySign_frame s i c).2.1
@[simp] theorem applySign_table (s : State) (i : Ix) (c : BitVec 32) : (applySign s i c).table = s.table := (applySign_frame s i c).2.2.1
@[simp] theorem applySign_commit (s : State) (i : Ix) (c : BitVec 32) : (applySign s i c).commit = s.commit := (applySign_frame s i c).2.2.2.1
@[simp] theorem applySign_tracker (s : State) (i : Ix) (c : BitVec 32) : (applySign s i c).tracker = s.tracker := (applySign_frame s i c).2.2.2.2.1
@[simp] theorem applySign_fwd (s : State) (i : Ix) (c : BitVec 32) : (applySign s i c).fwd = s.fwd := (applySign_frame s i c).2.2.2.2.2.1
@[simp] theorem applySign_policy (s : State) (i : Ix) (c : BitVec 32) : (applySign s i c).policy = s.policy := (applySign_frame s i c).2.2.2.2.2.2.1
@[simp] theorem applySign_dirty (s : State) (i : Ix) (c : BitVec 32) : (applySign s i c).dirty = s.dirty := (applySign_frame s i c).2.2.2.2.2.2.2.1
@[simp] theorem applySign_scan (s : State) (i : Ix) (c : BitVec 32) : (applySign s i c).scan = s.scan := (applySign_frame s i c).2.2.2.2.2.2.2.2.1
@[simp] theorem applySign_mgmt (s : State) (i : Ix) (c : BitVec 32) : (applySign s i c).mgmt = s.mgmt := (applySign_frame s i c).2.2.2.2.2.2.2.2.2.1
@[simp] theorem applySign_wires (s : State) (i : Ix) (c : BitVec 32) : (applySign s i c).wires = s.wires := (applySign_frame s i c).2.2.2.2.2.2.2.2.2.2

/-- What `reportVerify` leaves alone. -/
theorem reportVerify_frame (s : State) (i : Ix) (d : Bool) (c : BitVec 32) (fail : Bool) (l : Life) : (reportVerify s i d c fail l).pending = s.pending ∧
    (reportVerify s i d c fail l).pins = s.pins ∧
    (reportVerify s i d c fail l).table = s.table ∧
    (reportVerify s i d c fail l).commit = s.commit ∧
    (reportVerify s i d c fail l).tracker = s.tracker ∧
    (reportVerify s i d c fail l).fwd = s.fwd ∧
    (reportVerify s i d c fail l).policy = s.policy ∧
    (reportVerify s i d c fail l).dirty = s.dirty ∧
    (reportVerify s i d c fail l).sig = s.sig ∧
    (reportVerify s i d c fail l).scan = s.scan ∧
    (reportVerify s i d c fail l).mgmt = s.mgmt ∧
    (reportVerify s i d c fail l).wires = s.wires := by
  unfold reportVerify; split <;> simp
@[simp] theorem reportVerify_pending (s : State) (i : Ix) (d : Bool) (c : BitVec 32) (fail : Bool) (l : Life) : (reportVerify s i d c fail l).pending = s.pending := (reportVerify_frame s i d c fail l).1
@[simp] theorem reportVerify_pins (s : State) (i : Ix) (d : Bool) (c : BitVec 32) (fail : Bool) (l : Life) : (reportVerify s i d c fail l).pins = s.pins := (reportVerify_frame s i d c fail l).2.1
@[simp] theorem reportVerify_table (s : State) (i : Ix) (d : Bool) (c : BitVec 32) (fail : Bool) (l : Life) : (reportVerify s i d c fail l).table = s.table := (reportVerify_frame s i d c fail l).2.2.1
@[simp] theorem reportVerify_commit (s : State) (i : Ix) (d : Bool) (c : BitVec 32) (fail : Bool) (l : Life) : (reportVerify s i d c fail l).commit = s.commit := (reportVerify_frame s i d c fail l).2.2.2.1
@[simp] theorem reportVerify_tracker (s : State) (i : Ix) (d : Bool) (c : BitVec 32) (fail : Bool) (l : Life) : (reportVerify s i d c fail l).tracker = s.tracker := (reportVerify_frame s i d c fail l).2.2.2.2.1
@[simp] theorem reportVerify_fwd (s : State) (i : Ix) (d : Bool) (c : BitVec 32) (fail : Bool) (l : Life) : (reportVerify s i d c fail l).fwd = s.fwd := (reportVerify_frame s i d c fail l).2.2.2.2.2.1
@[simp] theorem reportVerify_policy (s : State) (i : Ix) (d : Bool) (c : BitVec 32) (fail : Bool) (l : Life) : (reportVerify s i d c fail l).policy = s.policy := (reportVerify_frame s i d c fail l).2.2.2.2.2.2.1
@[simp] theorem reportVerify_dirty (s : State) (i : Ix) (d : Bool) (c : BitVec 32) (fail : Bool) (l : Life) : (reportVerify s i d c fail l).dirty = s.dirty := (reportVerify_frame s i d c fail l).2.2.2.2.2.2.2.1
@[simp] theorem reportVerify_sig (s : State) (i : Ix) (d : Bool) (c : BitVec 32) (fail : Bool) (l : Life) : (reportVerify s i d c fail l).sig = s.sig := (reportVerify_frame s i d c fail l).2.2.2.2.2.2.2.2.1
@[simp] theorem reportVerify_scan (s : State) (i : Ix) (d : Bool) (c : BitVec 32) (fail : Bool) (l : Life) : (reportVerify s i d c fail l).scan = s.scan := (reportVerify_frame s i d c fail l).2.2.2.2.2.2.2.2.2.1
@[simp] theorem reportVerify_mgmt (s : State) (i : Ix) (d : Bool) (c : BitVec 32) (fail : Bool) (l : Life) : (reportVerify s i d c fail l).mgmt = s.mgmt := (reportVerify_frame s i d c fail l).2.2.2.2.2.2.2.2.2.2.1
@[simp] theorem reportVerify_wires (s : State) (i : Ix) (d : Bool) (c : BitVec 32) (fail : Bool) (l : Life) : (reportVerify s i d c fail l).wires = s.wires := (reportVerify_frame s i d c fail l).2.2.2.2.2.2.2.2.2.2.2

/-- What `applyVerify` leaves alone. -/
theorem applyVerify_frame (s : State) (i : Ix) (d : Bool) (c : BitVec 32) : (applyVerify s i d c).pending = s.pending ∧
    (applyVerify s i d c).pins = s.pins ∧
    (applyVerify s i d c).table = s.table ∧
    (applyVerify s i d c).commit = s.commit ∧
    (applyVerify s i d c).tracker = s.tracker ∧
    (applyVerify s i d c).fwd = s.fwd ∧
    (applyVerify s i d c).policy = s.policy ∧
    (applyVerify s i d c).dirty = s.dirty ∧
    (applyVerify s i d c).scan = s.scan ∧
    (applyVerify s i d c).mgmt = s.mgmt ∧
    (applyVerify s i d c).wires = s.wires := by
  unfold applyVerify; split <;> (try split) <;> simp
@[simp] theorem applyVerify_pending (s : State) (i : Ix) (d : Bool) (c : BitVec 32) : (applyVerify s i d c).pending = s.pending := (applyVerify_frame s i d c).1
@[simp] theorem applyVerify_pins (s : State) (i : Ix) (d : Bool) (c : BitVec 32) : (applyVerify s i d c).pins = s.pins := (applyVerify_frame s i d c).2.1
@[simp] theorem applyVerify_table (s : State) (i : Ix) (d : Bool) (c : BitVec 32) : (applyVerify s i d c).table = s.table := (applyVerify_frame s i d c).2.2.1
@[simp] theorem applyVerify_commit (s : State) (i : Ix) (d : Bool) (c : BitVec 32) : (applyVerify s i d c).commit = s.commit := (applyVerify_frame s i d c).2.2.2.1
@[simp] theorem applyVerify_tracker (s : State) (i : Ix) (d : Bool) (c : BitVec 32) : (applyVerify s i d c).tracker = s.tracker := (applyVerify_frame s i d c).2.2.2.2.1
@[simp] theorem applyVerify_fwd (s : State) (i : Ix) (d : Bool) (c : BitVec 32) : (applyVerify s i d c).fwd = s.fwd := (applyVerify_frame s i d c).2.2.2.2.2.1
@[simp] theorem applyVerify_policy (s : State) (i : Ix) (d : Bool) (c : BitVec 32) : (applyVerify s i d c).policy = s.policy := (applyVerify_frame s i d c).2.2.2.2.2.2.1
@[simp] theorem applyVerify_dirty (s : State) (i : Ix) (d : Bool) (c : BitVec 32) : (applyVerify s i d c).dirty = s.dirty := (applyVerify_frame s i d c).2.2.2.2.2.2.2.1
@[simp] theorem applyVerify_scan (s : State) (i : Ix) (d : Bool) (c : BitVec 32) : (applyVerify s i d c).scan = s.scan := (applyVerify_frame s i d c).2.2.2.2.2.2.2.2.1
@[simp] theorem applyVerify_mgmt (s : State) (i : Ix) (d : Bool) (c : BitVec 32) : (applyVerify s i d c).mgmt = s.mgmt := (applyVerify_frame s i d c).2.2.2.2.2.2.2.2.2.1
@[simp] theorem applyVerify_wires (s : State) (i : Ix) (d : Bool) (c : BitVec 32) : (applyVerify s i d c).wires = s.wires := (applyVerify_frame s i d c).2.2.2.2.2.2.2.2.2.2

/-- What `applyResult` leaves alone. -/
theorem applyResult_frame (s : State) (c : JobContext) : (applyResult s c).pending = s.pending ∧
    (applyResult s c).pins = s.pins ∧
    (applyResult s c).table = s.table ∧
    (applyResult s c).commit = s.commit ∧
    (applyResult s c).tracker = s.tracker ∧
    (applyResult s c).fwd = s.fwd ∧
    (applyResult s c).policy = s.policy ∧
    (applyResult s c).dirty = s.dirty ∧
    (applyResult s c).scan = s.scan ∧
    (applyResult s c).mgmt = s.mgmt ∧
    (applyResult s c).wires = s.wires := by
  unfold applyResult; dsimp only; split <;> simp
@[simp] theorem applyResult_pending (s : State) (c : JobContext) : (applyResult s c).pending = s.pending := (applyResult_frame s c).1
@[simp] theorem applyResult_pins (s : State) (c : JobContext) : (applyResult s c).pins = s.pins := (applyResult_frame s c).2.1
@[simp] theorem applyResult_table (s : State) (c : JobContext) : (applyResult s c).table = s.table := (applyResult_frame s c).2.2.1
@[simp] theorem applyResult_commit (s : State) (c : JobContext) : (applyResult s c).commit = s.commit := (applyResult_frame s c).2.2.2.1
@[simp] theorem applyResult_tracker (s : State) (c : JobContext) : (applyResult s c).tracker = s.tracker := (applyResult_frame s c).2.2.2.2.1
@[simp] theorem applyResult_fwd (s : State) (c : JobContext) : (applyResult s c).fwd = s.fwd := (applyResult_frame s c).2.2.2.2.2.1
@[simp] theorem applyResult_policy (s : State) (c : JobContext) : (applyResult s c).policy = s.policy := (applyResult_frame s c).2.2.2.2.2.2.1
@[simp] theorem applyResult_dirty (s : State) (c : JobContext) : (applyResult s c).dirty = s.dirty := (applyResult_frame s c).2.2.2.2.2.2.2.1
@[simp] theorem applyResult_scan (s : State) (c : JobContext) : (applyResult s c).scan = s.scan := (applyResult_frame s c).2.2.2.2.2.2.2.2.1
@[simp] theorem applyResult_mgmt (s : State) (c : JobContext) : (applyResult s c).mgmt = s.mgmt := (applyResult_frame s c).2.2.2.2.2.2.2.2.2.1
@[simp] theorem applyResult_wires (s : State) (c : JobContext) : (applyResult s c).wires = s.wires := (applyResult_frame s c).2.2.2.2.2.2.2.2.2.2

/-- What `switchJob` leaves alone. -/
theorem switchJob_frame (s : State) (old : Tab Entry) (ch : IxSet) : (switchJob s old ch).pending = s.pending ∧
    (switchJob s old ch).pins = s.pins ∧
    (switchJob s old ch).table = s.table ∧
    (switchJob s old ch).commit = s.commit ∧
    (switchJob s old ch).tracker = s.tracker ∧
    (switchJob s old ch).fwd = s.fwd ∧
    (switchJob s old ch).policy = s.policy ∧
    (switchJob s old ch).dirty = s.dirty ∧
    (switchJob s old ch).mgmt = s.mgmt ∧
    (switchJob s old ch).wires = s.wires := by
  unfold switchJob; split; split; dsimp only; split <;> simp; all_goals simp
@[simp] theorem switchJob_pending (s : State) (old : Tab Entry) (ch : IxSet) : (switchJob s old ch).pending = s.pending := (switchJob_frame s old ch).1
@[simp] theorem switchJob_pins (s : State) (old : Tab Entry) (ch : IxSet) : (switchJob s old ch).pins = s.pins := (switchJob_frame s old ch).2.1
@[simp] theorem switchJob_table (s : State) (old : Tab Entry) (ch : IxSet) : (switchJob s old ch).table = s.table := (switchJob_frame s old ch).2.2.1
@[simp] theorem switchJob_commit (s : State) (old : Tab Entry) (ch : IxSet) : (switchJob s old ch).commit = s.commit := (switchJob_frame s old ch).2.2.2.1
@[simp] theorem switchJob_tracker (s : State) (old : Tab Entry) (ch : IxSet) : (switchJob s old ch).tracker = s.tracker := (switchJob_frame s old ch).2.2.2.2.1
@[simp] theorem switchJob_fwd (s : State) (old : Tab Entry) (ch : IxSet) : (switchJob s old ch).fwd = s.fwd := (switchJob_frame s old ch).2.2.2.2.2.1
@[simp] theorem switchJob_policy (s : State) (old : Tab Entry) (ch : IxSet) : (switchJob s old ch).policy = s.policy := (switchJob_frame s old ch).2.2.2.2.2.2.1
@[simp] theorem switchJob_dirty (s : State) (old : Tab Entry) (ch : IxSet) : (switchJob s old ch).dirty = s.dirty := (switchJob_frame s old ch).2.2.2.2.2.2.2.1
@[simp] theorem switchJob_mgmt (s : State) (old : Tab Entry) (ch : IxSet) : (switchJob s old ch).mgmt = s.mgmt := (switchJob_frame s old ch).2.2.2.2.2.2.2.2.1
@[simp] theorem switchJob_wires (s : State) (old : Tab Entry) (ch : IxSet) : (switchJob s old ch).wires = s.wires := (switchJob_frame s old ch).2.2.2.2.2.2.2.2.2

/-- What `switchSet` leaves alone. -/
theorem switchSet_frame (s : State) (w : IxSet) : (switchSet s w).pending = s.pending ∧
    (switchSet s w).pins = s.pins ∧
    (switchSet s w).commit = s.commit ∧
    (switchSet s w).tracker = s.tracker ∧
    (switchSet s w).fwd = s.fwd ∧
    (switchSet s w).policy = s.policy ∧
    (switchSet s w).mgmt = s.mgmt ∧
    (switchSet s w).wires = s.wires := by
  simp [switchSet]
@[simp] theorem switchSet_pending (s : State) (w : IxSet) : (switchSet s w).pending = s.pending := (switchSet_frame s w).1
@[simp] theorem switchSet_pins (s : State) (w : IxSet) : (switchSet s w).pins = s.pins := (switchSet_frame s w).2.1
@[simp] theorem switchSet_commit (s : State) (w : IxSet) : (switchSet s w).commit = s.commit := (switchSet_frame s w).2.2.1
@[simp] theorem switchSet_tracker (s : State) (w : IxSet) : (switchSet s w).tracker = s.tracker := (switchSet_frame s w).2.2.2.1
@[simp] theorem switchSet_fwd (s : State) (w : IxSet) : (switchSet s w).fwd = s.fwd := (switchSet_frame s w).2.2.2.2.1
@[simp] theorem switchSet_policy (s : State) (w : IxSet) : (switchSet s w).policy = s.policy := (switchSet_frame s w).2.2.2.2.2.1
@[simp] theorem switchSet_mgmt (s : State) (w : IxSet) : (switchSet s w).mgmt = s.mgmt := (switchSet_frame s w).2.2.2.2.2.2.1
@[simp] theorem switchSet_wires (s : State) (w : IxSet) : (switchSet s w).wires = s.wires := (switchSet_frame s w).2.2.2.2.2.2.2

/-- What `closeDrain` leaves alone. -/
theorem closeDrain_frame (s : State) : (closeDrain s).pending = s.pending ∧
    (closeDrain s).pins = s.pins ∧
    (closeDrain s).table = s.table ∧
    (closeDrain s).tracker = s.tracker ∧
    (closeDrain s).fwd = s.fwd ∧
    (closeDrain s).policy = s.policy ∧
    (closeDrain s).dirty = s.dirty ∧
    (closeDrain s).sig = s.sig ∧
    (closeDrain s).events = s.events ∧
    (closeDrain s).mgmt = s.mgmt ∧
    (closeDrain s).wires = s.wires := by
  unfold closeDrain; dsimp only; split <;> simp
@[simp] theorem closeDrain_pending (s : State) : (closeDrain s).pending = s.pending := (closeDrain_frame s).1
@[simp] theorem closeDrain_pins (s : State) : (closeDrain s).pins = s.pins := (closeDrain_frame s).2.1
@[simp] theorem closeDrain_table (s : State) : (closeDrain s).table = s.table := (closeDrain_frame s).2.2.1
@[simp] theorem closeDrain_tracker (s : State) : (closeDrain s).tracker = s.tracker := (closeDrain_frame s).2.2.2.1
@[simp] theorem closeDrain_fwd (s : State) : (closeDrain s).fwd = s.fwd := (closeDrain_frame s).2.2.2.2.1
@[simp] theorem closeDrain_policy (s : State) : (closeDrain s).policy = s.policy := (closeDrain_frame s).2.2.2.2.2.1
@[simp] theorem closeDrain_dirty (s : State) : (closeDrain s).dirty = s.dirty := (closeDrain_frame s).2.2.2.2.2.2.1
@[simp] theorem closeDrain_sig (s : State) : (closeDrain s).sig = s.sig := (closeDrain_frame s).2.2.2.2.2.2.2.1
@[simp] theorem closeDrain_events (s : State) : (closeDrain s).events = s.events := (closeDrain_frame s).2.2.2.2.2.2.2.2.1
@[simp] theorem closeDrain_mgmt (s : State) : (closeDrain s).mgmt = s.mgmt := (closeDrain_frame s).2.2.2.2.2.2.2.2.2.1
@[simp] theorem closeDrain_wires (s : State) : (closeDrain s).wires = s.wires := (closeDrain_frame s).2.2.2.2.2.2.2.2.2.2

/-- What `completeDrain` leaves alone. -/
theorem completeDrain_frame (s : State) (d : Drain) (pf : Bool) : (completeDrain s d pf).pending = s.pending ∧
    (completeDrain s d pf).pins = s.pins ∧
    (completeDrain s d pf).wires = s.wires := by
  simp [completeDrain]
@[simp] theorem completeDrain_pending (s : State) (d : Drain) (pf : Bool) : (completeDrain s d pf).pending = s.pending := (completeDrain_frame s d pf).1
@[simp] theorem completeDrain_pins (s : State) (d : Drain) (pf : Bool) : (completeDrain s d pf).pins = s.pins := (completeDrain_frame s d pf).2.1
@[simp] theorem completeDrain_wires (s : State) (d : Drain) (pf : Bool) : (completeDrain s d pf).wires = s.wires := (completeDrain_frame s d pf).2.2

@[simp] theorem completeDrain_busy_mgmt (s : State) (d : Drain) : (completeDrain s d false).mgmt = s.mgmt := by
  simp [completeDrain]

/-- What `cutDrain` leaves alone. -/
theorem cutDrain_frame (s : State) (d : Drain) (o : LastOutcome) : (cutDrain s d o).pending = s.pending ∧
    (cutDrain s d o).pins = s.pins ∧
    (cutDrain s d o).table = s.table ∧
    (cutDrain s d o).tracker = s.tracker ∧
    (cutDrain s d o).fwd = s.fwd ∧
    (cutDrain s d o).policy = s.policy ∧
    (cutDrain s d o).dirty = s.dirty ∧
    (cutDrain s d o).sig = s.sig ∧
    (cutDrain s d o).mgmt = s.mgmt ∧
    (cutDrain s d o).wires = s.wires := by
  simp [cutDrain]
@[simp] theorem cutDrain_pending (s : State) (d : Drain) (o : LastOutcome) : (cutDrain s d o).pending = s.pending := (cutDrain_frame s d o).1
@[simp] theorem cutDrain_pins (s : State) (d : Drain) (o : LastOutcome) : (cutDrain s d o).pins = s.pins := (cutDrain_frame s d o).2.1
@[simp] theorem cutDrain_table (s : State) (d : Drain) (o : LastOutcome) : (cutDrain s d o).table = s.table := (cutDrain_frame s d o).2.2.1
@[simp] theorem cutDrain_tracker (s : State) (d : Drain) (o : LastOutcome) : (cutDrain s d o).tracker = s.tracker := (cutDrain_frame s d o).2.2.2.1
@[simp] theorem cutDrain_fwd (s : State) (d : Drain) (o : LastOutcome) : (cutDrain s d o).fwd = s.fwd := (cutDrain_frame s d o).2.2.2.2.1
@[simp] theorem cutDrain_policy (s : State) (d : Drain) (o : LastOutcome) : (cutDrain s d o).policy = s.policy := (cutDrain_frame s d o).2.2.2.2.2.1
@[simp] theorem cutDrain_dirty (s : State) (d : Drain) (o : LastOutcome) : (cutDrain s d o).dirty = s.dirty := (cutDrain_frame s d o).2.2.2.2.2.2.1
@[simp] theorem cutDrain_sig (s : State) (d : Drain) (o : LastOutcome) : (cutDrain s d o).sig = s.sig := (cutDrain_frame s d o).2.2.2.2.2.2.2.1
@[simp] theorem cutDrain_mgmt (s : State) (d : Drain) (o : LastOutcome) : (cutDrain s d o).mgmt = s.mgmt := (cutDrain_frame s d o).2.2.2.2.2.2.2.2.1
@[simp] theorem cutDrain_wires (s : State) (d : Drain) (o : LastOutcome) : (cutDrain s d o).wires = s.wires := (cutDrain_frame s d o).2.2.2.2.2.2.2.2.2

/-- What `portResetBlocks` leaves alone. -/
theorem portResetBlocks_frame (s : State) : (portResetBlocks s).pending = s.pending ∧
    (portResetBlocks s).table = s.table ∧
    (portResetBlocks s).commit = s.commit ∧
    (portResetBlocks s).policy = s.policy ∧
    (portResetBlocks s).events = s.events ∧
    (portResetBlocks s).mgmt = s.mgmt ∧
    (portResetBlocks s).wires = s.wires := by
  simp [portResetBlocks]
@[simp] theorem portResetBlocks_pending (s : State) : (portResetBlocks s).pending = s.pending := (portResetBlocks_frame s).1
@[simp] theorem portResetBlocks_table (s : State) : (portResetBlocks s).table = s.table := (portResetBlocks_frame s).2.1
@[simp] theorem portResetBlocks_commit (s : State) : (portResetBlocks s).commit = s.commit := (portResetBlocks_frame s).2.2.1
@[simp] theorem portResetBlocks_policy (s : State) : (portResetBlocks s).policy = s.policy := (portResetBlocks_frame s).2.2.2.1
@[simp] theorem portResetBlocks_events (s : State) : (portResetBlocks s).events = s.events := (portResetBlocks_frame s).2.2.2.2.1
@[simp] theorem portResetBlocks_mgmt (s : State) : (portResetBlocks s).mgmt = s.mgmt := (portResetBlocks_frame s).2.2.2.2.2.1
@[simp] theorem portResetBlocks_wires (s : State) : (portResetBlocks s).wires = s.wires := (portResetBlocks_frame s).2.2.2.2.2.2

/-- What `acceptCommit` leaves alone. -/
theorem acceptCommit_frame (s : State) : (acceptCommit s).pending = s.pending ∧
    (acceptCommit s).pins = s.pins ∧
    (acceptCommit s).mgmt = s.mgmt ∧
    (acceptCommit s).wires = s.wires := by
  unfold acceptCommit enterDraining; dsimp only; split; simp; split <;> simp
@[simp] theorem acceptCommit_pending (s : State) : (acceptCommit s).pending = s.pending := (acceptCommit_frame s).1
@[simp] theorem acceptCommit_pins (s : State) : (acceptCommit s).pins = s.pins := (acceptCommit_frame s).2.1
@[simp] theorem acceptCommit_mgmt (s : State) : (acceptCommit s).mgmt = s.mgmt := (acceptCommit_frame s).2.2.1
@[simp] theorem acceptCommit_wires (s : State) : (acceptCommit s).wires = s.wires := (acceptCommit_frame s).2.2.2

/-- What `acceptRequest` leaves alone. -/
theorem acceptRequest_frame (s : State) (r : Request) : (acceptRequest s r).pending = s.pending ∧
    (acceptRequest s r).pins = s.pins ∧
    (acceptRequest s r).table = s.table ∧
    (acceptRequest s r).commit = s.commit ∧
    (acceptRequest s r).sig = s.sig ∧
    (acceptRequest s r).scan = s.scan ∧
    (acceptRequest s r).mgmt = s.mgmt ∧
    (acceptRequest s r).wires = s.wires := by
  unfold acceptRequest; dsimp only; split <;> simp
@[simp] theorem acceptRequest_pending (s : State) (r : Request) : (acceptRequest s r).pending = s.pending := (acceptRequest_frame s r).1
@[simp] theorem acceptRequest_pins (s : State) (r : Request) : (acceptRequest s r).pins = s.pins := (acceptRequest_frame s r).2.1
@[simp] theorem acceptRequest_table (s : State) (r : Request) : (acceptRequest s r).table = s.table := (acceptRequest_frame s r).2.2.1
@[simp] theorem acceptRequest_commit (s : State) (r : Request) : (acceptRequest s r).commit = s.commit := (acceptRequest_frame s r).2.2.2.1
@[simp] theorem acceptRequest_sig (s : State) (r : Request) : (acceptRequest s r).sig = s.sig := (acceptRequest_frame s r).2.2.2.2.1
@[simp] theorem acceptRequest_scan (s : State) (r : Request) : (acceptRequest s r).scan = s.scan := (acceptRequest_frame s r).2.2.2.2.2.1
@[simp] theorem acceptRequest_mgmt (s : State) (r : Request) : (acceptRequest s r).mgmt = s.mgmt := (acceptRequest_frame s r).2.2.2.2.2.2.1
@[simp] theorem acceptRequest_wires (s : State) (r : Request) : (acceptRequest s r).wires = s.wires := (acceptRequest_frame s r).2.2.2.2.2.2.2

/-- What `storeBeat` leaves alone. -/
theorem storeBeat_frame (s : State) (x : Txn) (o : OfferedBeat) : (storeBeat s x o).pending = s.pending ∧
    (storeBeat s x o).pins = s.pins ∧
    (storeBeat s x o).table = s.table ∧
    (storeBeat s x o).commit = s.commit ∧
    (storeBeat s x o).wires = s.wires := by
  unfold storeBeat; dsimp only; split <;> simp
@[simp] theorem storeBeat_pending (s : State) (x : Txn) (o : OfferedBeat) : (storeBeat s x o).pending = s.pending := (storeBeat_frame s x o).1
@[simp] theorem storeBeat_pins (s : State) (x : Txn) (o : OfferedBeat) : (storeBeat s x o).pins = s.pins := (storeBeat_frame s x o).2.1
@[simp] theorem storeBeat_table (s : State) (x : Txn) (o : OfferedBeat) : (storeBeat s x o).table = s.table := (storeBeat_frame s x o).2.2.1
@[simp] theorem storeBeat_commit (s : State) (x : Txn) (o : OfferedBeat) : (storeBeat s x o).commit = s.commit := (storeBeat_frame s x o).2.2.2.1
@[simp] theorem storeBeat_wires (s : State) (x : Txn) (o : OfferedBeat) : (storeBeat s x o).wires = s.wires := (storeBeat_frame s x o).2.2.2.2

/-- What `retire` leaves alone. -/
theorem retire_frame (s : State) (x : Txn) : (retire s x).pending = s.pending ∧
    (retire s x).pins = s.pins ∧
    (retire s x).table = s.table ∧
    (retire s x).commit = s.commit ∧
    (retire s x).fwd = s.fwd ∧
    (retire s x).policy = s.policy ∧
    (retire s x).dirty = s.dirty ∧
    (retire s x).sig = s.sig ∧
    (retire s x).scan = s.scan ∧
    (retire s x).events = s.events ∧
    (retire s x).mgmt = s.mgmt ∧
    (retire s x).wires = s.wires := by
  simp [retire]
@[simp] theorem retire_pending (s : State) (x : Txn) : (retire s x).pending = s.pending := (retire_frame s x).1
@[simp] theorem retire_pins (s : State) (x : Txn) : (retire s x).pins = s.pins := (retire_frame s x).2.1
@[simp] theorem retire_table (s : State) (x : Txn) : (retire s x).table = s.table := (retire_frame s x).2.2.1
@[simp] theorem retire_commit (s : State) (x : Txn) : (retire s x).commit = s.commit := (retire_frame s x).2.2.2.1
@[simp] theorem retire_fwd (s : State) (x : Txn) : (retire s x).fwd = s.fwd := (retire_frame s x).2.2.2.2.1
@[simp] theorem retire_policy (s : State) (x : Txn) : (retire s x).policy = s.policy := (retire_frame s x).2.2.2.2.2.1
@[simp] theorem retire_dirty (s : State) (x : Txn) : (retire s x).dirty = s.dirty := (retire_frame s x).2.2.2.2.2.2.1
@[simp] theorem retire_sig (s : State) (x : Txn) : (retire s x).sig = s.sig := (retire_frame s x).2.2.2.2.2.2.2.1
@[simp] theorem retire_scan (s : State) (x : Txn) : (retire s x).scan = s.scan := (retire_frame s x).2.2.2.2.2.2.2.2.1
@[simp] theorem retire_events (s : State) (x : Txn) : (retire s x).events = s.events := (retire_frame s x).2.2.2.2.2.2.2.2.2.1
@[simp] theorem retire_mgmt (s : State) (x : Txn) : (retire s x).mgmt = s.mgmt := (retire_frame s x).2.2.2.2.2.2.2.2.2.2.1
@[simp] theorem retire_wires (s : State) (x : Txn) : (retire s x).wires = s.wires := (retire_frame s x).2.2.2.2.2.2.2.2.2.2.2

/-- What `takeLocalItem` leaves alone. -/
theorem takeLocalItem_frame (s : State) (x : Txn) (st : RespStatus) : (takeLocalItem s x st).pending = s.pending ∧
    (takeLocalItem s x st).pins = s.pins ∧
    (takeLocalItem s x st).table = s.table ∧
    (takeLocalItem s x st).commit = s.commit ∧
    (takeLocalItem s x st).fwd = s.fwd ∧
    (takeLocalItem s x st).policy = s.policy ∧
    (takeLocalItem s x st).dirty = s.dirty ∧
    (takeLocalItem s x st).sig = s.sig ∧
    (takeLocalItem s x st).scan = s.scan ∧
    (takeLocalItem s x st).events = s.events ∧
    (takeLocalItem s x st).mgmt = s.mgmt := by
  unfold takeLocalItem; dsimp only; split <;> simp
@[simp] theorem takeLocalItem_pending (s : State) (x : Txn) (st : RespStatus) : (takeLocalItem s x st).pending = s.pending := (takeLocalItem_frame s x st).1
@[simp] theorem takeLocalItem_pins (s : State) (x : Txn) (st : RespStatus) : (takeLocalItem s x st).pins = s.pins := (takeLocalItem_frame s x st).2.1
@[simp] theorem takeLocalItem_table (s : State) (x : Txn) (st : RespStatus) : (takeLocalItem s x st).table = s.table := (takeLocalItem_frame s x st).2.2.1
@[simp] theorem takeLocalItem_commit (s : State) (x : Txn) (st : RespStatus) : (takeLocalItem s x st).commit = s.commit := (takeLocalItem_frame s x st).2.2.2.1
@[simp] theorem takeLocalItem_fwd (s : State) (x : Txn) (st : RespStatus) : (takeLocalItem s x st).fwd = s.fwd := (takeLocalItem_frame s x st).2.2.2.2.1
@[simp] theorem takeLocalItem_policy (s : State) (x : Txn) (st : RespStatus) : (takeLocalItem s x st).policy = s.policy := (takeLocalItem_frame s x st).2.2.2.2.2.1
@[simp] theorem takeLocalItem_dirty (s : State) (x : Txn) (st : RespStatus) : (takeLocalItem s x st).dirty = s.dirty := (takeLocalItem_frame s x st).2.2.2.2.2.2.1
@[simp] theorem takeLocalItem_sig (s : State) (x : Txn) (st : RespStatus) : (takeLocalItem s x st).sig = s.sig := (takeLocalItem_frame s x st).2.2.2.2.2.2.2.1
@[simp] theorem takeLocalItem_scan (s : State) (x : Txn) (st : RespStatus) : (takeLocalItem s x st).scan = s.scan := (takeLocalItem_frame s x st).2.2.2.2.2.2.2.2.1
@[simp] theorem takeLocalItem_events (s : State) (x : Txn) (st : RespStatus) : (takeLocalItem s x st).events = s.events := (takeLocalItem_frame s x st).2.2.2.2.2.2.2.2.2.1
@[simp] theorem takeLocalItem_mgmt (s : State) (x : Txn) (st : RespStatus) : (takeLocalItem s x st).mgmt = s.mgmt := (takeLocalItem_frame s x st).2.2.2.2.2.2.2.2.2.2

/-- What `beginLocal` leaves alone. -/
theorem beginLocal_frame (s : State) (x : Txn) (v : LocalVerdict) (st : RespStatus) : (beginLocal s x v st).pending = s.pending ∧
    (beginLocal s x v st).pins = s.pins ∧
    (beginLocal s x v st).table = s.table ∧
    (beginLocal s x v st).commit = s.commit ∧
    (beginLocal s x v st).fwd = s.fwd ∧
    (beginLocal s x v st).policy = s.policy ∧
    (beginLocal s x v st).dirty = s.dirty ∧
    (beginLocal s x v st).sig = s.sig ∧
    (beginLocal s x v st).scan = s.scan ∧
    (beginLocal s x v st).events = s.events ∧
    (beginLocal s x v st).mgmt = s.mgmt ∧
    (beginLocal s x v st).wires = s.wires := by
  simp [beginLocal]
@[simp] theorem beginLocal_pending (s : State) (x : Txn) (v : LocalVerdict) (st : RespStatus) : (beginLocal s x v st).pending = s.pending := (beginLocal_frame s x v st).1
@[simp] theorem beginLocal_pins (s : State) (x : Txn) (v : LocalVerdict) (st : RespStatus) : (beginLocal s x v st).pins = s.pins := (beginLocal_frame s x v st).2.1
@[simp] theorem beginLocal_table (s : State) (x : Txn) (v : LocalVerdict) (st : RespStatus) : (beginLocal s x v st).table = s.table := (beginLocal_frame s x v st).2.2.1
@[simp] theorem beginLocal_commit (s : State) (x : Txn) (v : LocalVerdict) (st : RespStatus) : (beginLocal s x v st).commit = s.commit := (beginLocal_frame s x v st).2.2.2.1
@[simp] theorem beginLocal_fwd (s : State) (x : Txn) (v : LocalVerdict) (st : RespStatus) : (beginLocal s x v st).fwd = s.fwd := (beginLocal_frame s x v st).2.2.2.2.1
@[simp] theorem beginLocal_policy (s : State) (x : Txn) (v : LocalVerdict) (st : RespStatus) : (beginLocal s x v st).policy = s.policy := (beginLocal_frame s x v st).2.2.2.2.2.1
@[simp] theorem beginLocal_dirty (s : State) (x : Txn) (v : LocalVerdict) (st : RespStatus) : (beginLocal s x v st).dirty = s.dirty := (beginLocal_frame s x v st).2.2.2.2.2.2.1
@[simp] theorem beginLocal_sig (s : State) (x : Txn) (v : LocalVerdict) (st : RespStatus) : (beginLocal s x v st).sig = s.sig := (beginLocal_frame s x v st).2.2.2.2.2.2.2.1
@[simp] theorem beginLocal_scan (s : State) (x : Txn) (v : LocalVerdict) (st : RespStatus) : (beginLocal s x v st).scan = s.scan := (beginLocal_frame s x v st).2.2.2.2.2.2.2.2.1
@[simp] theorem beginLocal_events (s : State) (x : Txn) (v : LocalVerdict) (st : RespStatus) : (beginLocal s x v st).events = s.events := (beginLocal_frame s x v st).2.2.2.2.2.2.2.2.2.1
@[simp] theorem beginLocal_mgmt (s : State) (x : Txn) (v : LocalVerdict) (st : RespStatus) : (beginLocal s x v st).mgmt = s.mgmt := (beginLocal_frame s x v st).2.2.2.2.2.2.2.2.2.2.1
@[simp] theorem beginLocal_wires (s : State) (x : Txn) (v : LocalVerdict) (st : RespStatus) : (beginLocal s x v st).wires = s.wires := (beginLocal_frame s x v st).2.2.2.2.2.2.2.2.2.2.2

/-- What `countError` leaves alone. -/
theorem countError_frame (s : State) (x : Txn) (item : MemItem) : (countError s x item).pending = s.pending ∧
    (countError s x item).pins = s.pins ∧
    (countError s x item).table = s.table ∧
    (countError s x item).commit = s.commit ∧
    (countError s x item).tracker = s.tracker ∧
    (countError s x item).policy = s.policy ∧
    (countError s x item).dirty = s.dirty ∧
    (countError s x item).sig = s.sig ∧
    (countError s x item).scan = s.scan ∧
    (countError s x item).events = s.events ∧
    (countError s x item).mgmt = s.mgmt ∧
    (countError s x item).wires = s.wires := by
  unfold countError; split <;> simp
@[simp] theorem countError_pending (s : State) (x : Txn) (item : MemItem) : (countError s x item).pending = s.pending := (countError_frame s x item).1
@[simp] theorem countError_pins (s : State) (x : Txn) (item : MemItem) : (countError s x item).pins = s.pins := (countError_frame s x item).2.1
@[simp] theorem countError_table (s : State) (x : Txn) (item : MemItem) : (countError s x item).table = s.table := (countError_frame s x item).2.2.1
@[simp] theorem countError_commit (s : State) (x : Txn) (item : MemItem) : (countError s x item).commit = s.commit := (countError_frame s x item).2.2.2.1
@[simp] theorem countError_tracker (s : State) (x : Txn) (item : MemItem) : (countError s x item).tracker = s.tracker := (countError_frame s x item).2.2.2.2.1
@[simp] theorem countError_policy (s : State) (x : Txn) (item : MemItem) : (countError s x item).policy = s.policy := (countError_frame s x item).2.2.2.2.2.1
@[simp] theorem countError_dirty (s : State) (x : Txn) (item : MemItem) : (countError s x item).dirty = s.dirty := (countError_frame s x item).2.2.2.2.2.2.1
@[simp] theorem countError_sig (s : State) (x : Txn) (item : MemItem) : (countError s x item).sig = s.sig := (countError_frame s x item).2.2.2.2.2.2.2.1
@[simp] theorem countError_scan (s : State) (x : Txn) (item : MemItem) : (countError s x item).scan = s.scan := (countError_frame s x item).2.2.2.2.2.2.2.2.1
@[simp] theorem countError_events (s : State) (x : Txn) (item : MemItem) : (countError s x item).events = s.events := (countError_frame s x item).2.2.2.2.2.2.2.2.2.1
@[simp] theorem countError_mgmt (s : State) (x : Txn) (item : MemItem) : (countError s x item).mgmt = s.mgmt := (countError_frame s x item).2.2.2.2.2.2.2.2.2.2.1
@[simp] theorem countError_wires (s : State) (x : Txn) (item : MemItem) : (countError s x item).wires = s.wires := (countError_frame s x item).2.2.2.2.2.2.2.2.2.2.2

/-- What `landWrite` leaves alone. -/
theorem landWrite_frame (s : State) (x : Txn) : (landWrite s x).pending = s.pending ∧
    (landWrite s x).pins = s.pins ∧
    (landWrite s x).table = s.table ∧
    (landWrite s x).commit = s.commit ∧
    (landWrite s x).tracker = s.tracker ∧
    (landWrite s x).fwd = s.fwd ∧
    (landWrite s x).policy = s.policy ∧
    (landWrite s x).events = s.events ∧
    (landWrite s x).mgmt = s.mgmt ∧
    (landWrite s x).wires = s.wires := by
  unfold landWrite; split <;> simp
@[simp] theorem landWrite_pending (s : State) (x : Txn) : (landWrite s x).pending = s.pending := (landWrite_frame s x).1
@[simp] theorem landWrite_pins (s : State) (x : Txn) : (landWrite s x).pins = s.pins := (landWrite_frame s x).2.1
@[simp] theorem landWrite_table (s : State) (x : Txn) : (landWrite s x).table = s.table := (landWrite_frame s x).2.2.1
@[simp] theorem landWrite_commit (s : State) (x : Txn) : (landWrite s x).commit = s.commit := (landWrite_frame s x).2.2.2.1
@[simp] theorem landWrite_tracker (s : State) (x : Txn) : (landWrite s x).tracker = s.tracker := (landWrite_frame s x).2.2.2.2.1
@[simp] theorem landWrite_fwd (s : State) (x : Txn) : (landWrite s x).fwd = s.fwd := (landWrite_frame s x).2.2.2.2.2.1
@[simp] theorem landWrite_policy (s : State) (x : Txn) : (landWrite s x).policy = s.policy := (landWrite_frame s x).2.2.2.2.2.2.1
@[simp] theorem landWrite_events (s : State) (x : Txn) : (landWrite s x).events = s.events := (landWrite_frame s x).2.2.2.2.2.2.2.1
@[simp] theorem landWrite_mgmt (s : State) (x : Txn) : (landWrite s x).mgmt = s.mgmt := (landWrite_frame s x).2.2.2.2.2.2.2.2.1
@[simp] theorem landWrite_wires (s : State) (x : Txn) : (landWrite s x).wires = s.wires := (landWrite_frame s x).2.2.2.2.2.2.2.2.2

/-- What `passItem` leaves alone. -/
theorem passItem_frame (s : State) (x : Txn) (item : MemItem) : (passItem s x item).pending = s.pending ∧
    (passItem s x item).pins = s.pins ∧
    (passItem s x item).table = s.table ∧
    (passItem s x item).commit = s.commit ∧
    (passItem s x item).policy = s.policy ∧
    (passItem s x item).events = s.events ∧
    (passItem s x item).mgmt = s.mgmt := by
  unfold passItem; dsimp only; split <;> simp
@[simp] theorem passItem_pending (s : State) (x : Txn) (item : MemItem) : (passItem s x item).pending = s.pending := (passItem_frame s x item).1
@[simp] theorem passItem_pins (s : State) (x : Txn) (item : MemItem) : (passItem s x item).pins = s.pins := (passItem_frame s x item).2.1
@[simp] theorem passItem_table (s : State) (x : Txn) (item : MemItem) : (passItem s x item).table = s.table := (passItem_frame s x item).2.2.1
@[simp] theorem passItem_commit (s : State) (x : Txn) (item : MemItem) : (passItem s x item).commit = s.commit := (passItem_frame s x item).2.2.2.1
@[simp] theorem passItem_policy (s : State) (x : Txn) (item : MemItem) : (passItem s x item).policy = s.policy := (passItem_frame s x item).2.2.2.2.1
@[simp] theorem passItem_events (s : State) (x : Txn) (item : MemItem) : (passItem s x item).events = s.events := (passItem_frame s x item).2.2.2.2.2.1
@[simp] theorem passItem_mgmt (s : State) (x : Txn) (item : MemItem) : (passItem s x item).mgmt = s.mgmt := (passItem_frame s x item).2.2.2.2.2.2

/-- What `presentItem` leaves alone. -/
theorem presentItem_frame (s : State) (x : Txn) (item : MemItem) (ready : Bool) : (presentItem s x item ready).pending = s.pending ∧
    (presentItem s x item ready).pins = s.pins ∧
    (presentItem s x item ready).table = s.table ∧
    (presentItem s x item ready).commit = s.commit ∧
    (presentItem s x item ready).policy = s.policy ∧
    (presentItem s x item ready).events = s.events ∧
    (presentItem s x item ready).mgmt = s.mgmt := by
  unfold presentItem; dsimp only; split <;> simp
@[simp] theorem presentItem_pending (s : State) (x : Txn) (item : MemItem) (ready : Bool) : (presentItem s x item ready).pending = s.pending := (presentItem_frame s x item ready).1
@[simp] theorem presentItem_pins (s : State) (x : Txn) (item : MemItem) (ready : Bool) : (presentItem s x item ready).pins = s.pins := (presentItem_frame s x item ready).2.1
@[simp] theorem presentItem_table (s : State) (x : Txn) (item : MemItem) (ready : Bool) : (presentItem s x item ready).table = s.table := (presentItem_frame s x item ready).2.2.1
@[simp] theorem presentItem_commit (s : State) (x : Txn) (item : MemItem) (ready : Bool) : (presentItem s x item ready).commit = s.commit := (presentItem_frame s x item ready).2.2.2.1
@[simp] theorem presentItem_policy (s : State) (x : Txn) (item : MemItem) (ready : Bool) : (presentItem s x item ready).policy = s.policy := (presentItem_frame s x item ready).2.2.2.2.1
@[simp] theorem presentItem_events (s : State) (x : Txn) (item : MemItem) (ready : Bool) : (presentItem s x item ready).events = s.events := (presentItem_frame s x item ready).2.2.2.2.2.1
@[simp] theorem presentItem_mgmt (s : State) (x : Txn) (item : MemItem) (ready : Bool) : (presentItem s x item ready).mgmt = s.mgmt := (presentItem_frame s x item ready).2.2.2.2.2.2

/-- What `offerItem` leaves alone. -/
theorem offerItem_frame (s : State) (item : MemItem) (ready : Bool) : (offerItem s item ready).pending = s.pending ∧
    (offerItem s item ready).pins = s.pins ∧
    (offerItem s item ready).table = s.table ∧
    (offerItem s item ready).commit = s.commit ∧
    (offerItem s item ready).policy = s.policy ∧
    (offerItem s item ready).events = s.events ∧
    (offerItem s item ready).mgmt = s.mgmt := by
  unfold offerItem; split <;> split <;> simp
@[simp] theorem offerItem_pending (s : State) (item : MemItem) (ready : Bool) : (offerItem s item ready).pending = s.pending := (offerItem_frame s item ready).1
@[simp] theorem offerItem_pins (s : State) (item : MemItem) (ready : Bool) : (offerItem s item ready).pins = s.pins := (offerItem_frame s item ready).2.1
@[simp] theorem offerItem_table (s : State) (item : MemItem) (ready : Bool) : (offerItem s item ready).table = s.table := (offerItem_frame s item ready).2.2.1
@[simp] theorem offerItem_commit (s : State) (item : MemItem) (ready : Bool) : (offerItem s item ready).commit = s.commit := (offerItem_frame s item ready).2.2.2.1
@[simp] theorem offerItem_policy (s : State) (item : MemItem) (ready : Bool) : (offerItem s item ready).policy = s.policy := (offerItem_frame s item ready).2.2.2.2.1
@[simp] theorem offerItem_events (s : State) (item : MemItem) (ready : Bool) : (offerItem s item ready).events = s.events := (offerItem_frame s item ready).2.2.2.2.2.1
@[simp] theorem offerItem_mgmt (s : State) (item : MemItem) (ready : Bool) : (offerItem s item ready).mgmt = s.mgmt := (offerItem_frame s item ready).2.2.2.2.2.2

/-- What `sendLocal` leaves alone. -/
theorem sendLocal_frame (s : State) (dir : Dir) (id : HostId) : (sendLocal s dir id).pending = s.pending ∧
    (sendLocal s dir id).pins = s.pins ∧
    (sendLocal s dir id).table = s.table ∧
    (sendLocal s dir id).commit = s.commit ∧
    (sendLocal s dir id).fwd = s.fwd ∧
    (sendLocal s dir id).policy = s.policy ∧
    (sendLocal s dir id).dirty = s.dirty ∧
    (sendLocal s dir id).sig = s.sig ∧
    (sendLocal s dir id).scan = s.scan ∧
    (sendLocal s dir id).events = s.events ∧
    (sendLocal s dir id).mgmt = s.mgmt ∧
    (sendLocal s dir id).wires = s.wires := by
  unfold sendLocal; split; split; split <;> simp; all_goals simp
@[simp] theorem sendLocal_pending (s : State) (dir : Dir) (id : HostId) : (sendLocal s dir id).pending = s.pending := (sendLocal_frame s dir id).1
@[simp] theorem sendLocal_pins (s : State) (dir : Dir) (id : HostId) : (sendLocal s dir id).pins = s.pins := (sendLocal_frame s dir id).2.1
@[simp] theorem sendLocal_table (s : State) (dir : Dir) (id : HostId) : (sendLocal s dir id).table = s.table := (sendLocal_frame s dir id).2.2.1
@[simp] theorem sendLocal_commit (s : State) (dir : Dir) (id : HostId) : (sendLocal s dir id).commit = s.commit := (sendLocal_frame s dir id).2.2.2.1
@[simp] theorem sendLocal_fwd (s : State) (dir : Dir) (id : HostId) : (sendLocal s dir id).fwd = s.fwd := (sendLocal_frame s dir id).2.2.2.2.1
@[simp] theorem sendLocal_policy (s : State) (dir : Dir) (id : HostId) : (sendLocal s dir id).policy = s.policy := (sendLocal_frame s dir id).2.2.2.2.2.1
@[simp] theorem sendLocal_dirty (s : State) (dir : Dir) (id : HostId) : (sendLocal s dir id).dirty = s.dirty := (sendLocal_frame s dir id).2.2.2.2.2.2.1
@[simp] theorem sendLocal_sig (s : State) (dir : Dir) (id : HostId) : (sendLocal s dir id).sig = s.sig := (sendLocal_frame s dir id).2.2.2.2.2.2.2.1
@[simp] theorem sendLocal_scan (s : State) (dir : Dir) (id : HostId) : (sendLocal s dir id).scan = s.scan := (sendLocal_frame s dir id).2.2.2.2.2.2.2.2.1
@[simp] theorem sendLocal_events (s : State) (dir : Dir) (id : HostId) : (sendLocal s dir id).events = s.events := (sendLocal_frame s dir id).2.2.2.2.2.2.2.2.2.1
@[simp] theorem sendLocal_mgmt (s : State) (dir : Dir) (id : HostId) : (sendLocal s dir id).mgmt = s.mgmt := (sendLocal_frame s dir id).2.2.2.2.2.2.2.2.2.2.1
@[simp] theorem sendLocal_wires (s : State) (dir : Dir) (id : HostId) : (sendLocal s dir id).wires = s.wires := (sendLocal_frame s dir id).2.2.2.2.2.2.2.2.2.2.2

/-- What `afterJob` leaves alone. -/
theorem afterJob_frame (s : State) (o : Bool) : (afterJob s o).pending = s.pending ∧
    (afterJob s o).pins = s.pins ∧
    (afterJob s o).table = s.table ∧
    (afterJob s o).commit = s.commit ∧
    (afterJob s o).tracker = s.tracker ∧
    (afterJob s o).fwd = s.fwd ∧
    (afterJob s o).policy = s.policy ∧
    (afterJob s o).dirty = s.dirty ∧
    (afterJob s o).events = s.events ∧
    (afterJob s o).mgmt = s.mgmt ∧
    (afterJob s o).wires = s.wires := by
  simp [afterJob]
@[simp] theorem afterJob_pending (s : State) (o : Bool) : (afterJob s o).pending = s.pending := (afterJob_frame s o).1
@[simp] theorem afterJob_pins (s : State) (o : Bool) : (afterJob s o).pins = s.pins := (afterJob_frame s o).2.1
@[simp] theorem afterJob_table (s : State) (o : Bool) : (afterJob s o).table = s.table := (afterJob_frame s o).2.2.1
@[simp] theorem afterJob_commit (s : State) (o : Bool) : (afterJob s o).commit = s.commit := (afterJob_frame s o).2.2.2.1
@[simp] theorem afterJob_tracker (s : State) (o : Bool) : (afterJob s o).tracker = s.tracker := (afterJob_frame s o).2.2.2.2.1
@[simp] theorem afterJob_fwd (s : State) (o : Bool) : (afterJob s o).fwd = s.fwd := (afterJob_frame s o).2.2.2.2.2.1
@[simp] theorem afterJob_policy (s : State) (o : Bool) : (afterJob s o).policy = s.policy := (afterJob_frame s o).2.2.2.2.2.2.1
@[simp] theorem afterJob_dirty (s : State) (o : Bool) : (afterJob s o).dirty = s.dirty := (afterJob_frame s o).2.2.2.2.2.2.2.1
@[simp] theorem afterJob_events (s : State) (o : Bool) : (afterJob s o).events = s.events := (afterJob_frame s o).2.2.2.2.2.2.2.2.1
@[simp] theorem afterJob_mgmt (s : State) (o : Bool) : (afterJob s o).mgmt = s.mgmt := (afterJob_frame s o).2.2.2.2.2.2.2.2.2.1
@[simp] theorem afterJob_wires (s : State) (o : Bool) : (afterJob s o).wires = s.wires := (afterJob_frame s o).2.2.2.2.2.2.2.2.2.2

/-- What `afterChunk` leaves alone. -/
theorem afterChunk_frame (s : State) (o : Bool) : (afterChunk s o).pending = s.pending ∧
    (afterChunk s o).pins = s.pins ∧
    (afterChunk s o).table = s.table ∧
    (afterChunk s o).commit = s.commit ∧
    (afterChunk s o).tracker = s.tracker ∧
    (afterChunk s o).fwd = s.fwd ∧
    (afterChunk s o).policy = s.policy ∧
    (afterChunk s o).dirty = s.dirty ∧
    (afterChunk s o).sig = s.sig ∧
    (afterChunk s o).events = s.events ∧
    (afterChunk s o).mgmt = s.mgmt ∧
    (afterChunk s o).wires = s.wires := by
  unfold afterChunk; split <;> simp
@[simp] theorem afterChunk_pending (s : State) (o : Bool) : (afterChunk s o).pending = s.pending := (afterChunk_frame s o).1
@[simp] theorem afterChunk_pins (s : State) (o : Bool) : (afterChunk s o).pins = s.pins := (afterChunk_frame s o).2.1
@[simp] theorem afterChunk_table (s : State) (o : Bool) : (afterChunk s o).table = s.table := (afterChunk_frame s o).2.2.1
@[simp] theorem afterChunk_commit (s : State) (o : Bool) : (afterChunk s o).commit = s.commit := (afterChunk_frame s o).2.2.2.1
@[simp] theorem afterChunk_tracker (s : State) (o : Bool) : (afterChunk s o).tracker = s.tracker := (afterChunk_frame s o).2.2.2.2.1
@[simp] theorem afterChunk_fwd (s : State) (o : Bool) : (afterChunk s o).fwd = s.fwd := (afterChunk_frame s o).2.2.2.2.2.1
@[simp] theorem afterChunk_policy (s : State) (o : Bool) : (afterChunk s o).policy = s.policy := (afterChunk_frame s o).2.2.2.2.2.2.1
@[simp] theorem afterChunk_dirty (s : State) (o : Bool) : (afterChunk s o).dirty = s.dirty := (afterChunk_frame s o).2.2.2.2.2.2.2.1
@[simp] theorem afterChunk_sig (s : State) (o : Bool) : (afterChunk s o).sig = s.sig := (afterChunk_frame s o).2.2.2.2.2.2.2.2.1
@[simp] theorem afterChunk_events (s : State) (o : Bool) : (afterChunk s o).events = s.events := (afterChunk_frame s o).2.2.2.2.2.2.2.2.2.1
@[simp] theorem afterChunk_mgmt (s : State) (o : Bool) : (afterChunk s o).mgmt = s.mgmt := (afterChunk_frame s o).2.2.2.2.2.2.2.2.2.2.1
@[simp] theorem afterChunk_wires (s : State) (o : Bool) : (afterChunk s o).wires = s.wires := (afterChunk_frame s o).2.2.2.2.2.2.2.2.2.2.2

/-- What `returnOk` leaves alone. -/
theorem returnOk_frame (s : State) (c : JobContext) (bs : List (BitVec 64 × RespStatus)) (o : Bool) : (returnOk s c bs o).pending = s.pending ∧
    (returnOk s c bs o).pins = s.pins ∧
    (returnOk s c bs o).table = s.table ∧
    (returnOk s c bs o).commit = s.commit ∧
    (returnOk s c bs o).tracker = s.tracker ∧
    (returnOk s c bs o).fwd = s.fwd ∧
    (returnOk s c bs o).policy = s.policy ∧
    (returnOk s c bs o).dirty = s.dirty ∧
    (returnOk s c bs o).mgmt = s.mgmt ∧
    (returnOk s c bs o).wires = s.wires := by
  unfold returnOk; dsimp only; split <;> simp
@[simp] theorem returnOk_pending (s : State) (c : JobContext) (bs : List (BitVec 64 × RespStatus)) (o : Bool) : (returnOk s c bs o).pending = s.pending := (returnOk_frame s c bs o).1
@[simp] theorem returnOk_pins (s : State) (c : JobContext) (bs : List (BitVec 64 × RespStatus)) (o : Bool) : (returnOk s c bs o).pins = s.pins := (returnOk_frame s c bs o).2.1
@[simp] theorem returnOk_table (s : State) (c : JobContext) (bs : List (BitVec 64 × RespStatus)) (o : Bool) : (returnOk s c bs o).table = s.table := (returnOk_frame s c bs o).2.2.1
@[simp] theorem returnOk_commit (s : State) (c : JobContext) (bs : List (BitVec 64 × RespStatus)) (o : Bool) : (returnOk s c bs o).commit = s.commit := (returnOk_frame s c bs o).2.2.2.1
@[simp] theorem returnOk_tracker (s : State) (c : JobContext) (bs : List (BitVec 64 × RespStatus)) (o : Bool) : (returnOk s c bs o).tracker = s.tracker := (returnOk_frame s c bs o).2.2.2.2.1
@[simp] theorem returnOk_fwd (s : State) (c : JobContext) (bs : List (BitVec 64 × RespStatus)) (o : Bool) : (returnOk s c bs o).fwd = s.fwd := (returnOk_frame s c bs o).2.2.2.2.2.1
@[simp] theorem returnOk_policy (s : State) (c : JobContext) (bs : List (BitVec 64 × RespStatus)) (o : Bool) : (returnOk s c bs o).policy = s.policy := (returnOk_frame s c bs o).2.2.2.2.2.2.1
@[simp] theorem returnOk_dirty (s : State) (c : JobContext) (bs : List (BitVec 64 × RespStatus)) (o : Bool) : (returnOk s c bs o).dirty = s.dirty := (returnOk_frame s c bs o).2.2.2.2.2.2.2.1
@[simp] theorem returnOk_mgmt (s : State) (c : JobContext) (bs : List (BitVec 64 × RespStatus)) (o : Bool) : (returnOk s c bs o).mgmt = s.mgmt := (returnOk_frame s c bs o).2.2.2.2.2.2.2.2.1
@[simp] theorem returnOk_wires (s : State) (c : JobContext) (bs : List (BitVec 64 × RespStatus)) (o : Bool) : (returnOk s c bs o).wires = s.wires := (returnOk_frame s c bs o).2.2.2.2.2.2.2.2.2

/-- What `returnErr` leaves alone. -/
theorem returnErr_frame (s : State) (c : JobContext) (a : Addr) (o : Bool) : (returnErr s c a o).pending = s.pending ∧
    (returnErr s c a o).pins = s.pins ∧
    (returnErr s c a o).table = s.table ∧
    (returnErr s c a o).commit = s.commit ∧
    (returnErr s c a o).tracker = s.tracker ∧
    (returnErr s c a o).fwd = s.fwd ∧
    (returnErr s c a o).policy = s.policy ∧
    (returnErr s c a o).dirty = s.dirty ∧
    (returnErr s c a o).mgmt = s.mgmt ∧
    (returnErr s c a o).wires = s.wires := by
  unfold returnErr; dsimp only; split <;> simp
@[simp] theorem returnErr_pending (s : State) (c : JobContext) (a : Addr) (o : Bool) : (returnErr s c a o).pending = s.pending := (returnErr_frame s c a o).1
@[simp] theorem returnErr_pins (s : State) (c : JobContext) (a : Addr) (o : Bool) : (returnErr s c a o).pins = s.pins := (returnErr_frame s c a o).2.1
@[simp] theorem returnErr_table (s : State) (c : JobContext) (a : Addr) (o : Bool) : (returnErr s c a o).table = s.table := (returnErr_frame s c a o).2.2.1
@[simp] theorem returnErr_commit (s : State) (c : JobContext) (a : Addr) (o : Bool) : (returnErr s c a o).commit = s.commit := (returnErr_frame s c a o).2.2.2.1
@[simp] theorem returnErr_tracker (s : State) (c : JobContext) (a : Addr) (o : Bool) : (returnErr s c a o).tracker = s.tracker := (returnErr_frame s c a o).2.2.2.2.1
@[simp] theorem returnErr_fwd (s : State) (c : JobContext) (a : Addr) (o : Bool) : (returnErr s c a o).fwd = s.fwd := (returnErr_frame s c a o).2.2.2.2.2.1
@[simp] theorem returnErr_policy (s : State) (c : JobContext) (a : Addr) (o : Bool) : (returnErr s c a o).policy = s.policy := (returnErr_frame s c a o).2.2.2.2.2.2.1
@[simp] theorem returnErr_dirty (s : State) (c : JobContext) (a : Addr) (o : Bool) : (returnErr s c a o).dirty = s.dirty := (returnErr_frame s c a o).2.2.2.2.2.2.2.1
@[simp] theorem returnErr_mgmt (s : State) (c : JobContext) (a : Addr) (o : Bool) : (returnErr s c a o).mgmt = s.mgmt := (returnErr_frame s c a o).2.2.2.2.2.2.2.2.1
@[simp] theorem returnErr_wires (s : State) (c : JobContext) (a : Addr) (o : Bool) : (returnErr s c a o).wires = s.wires := (returnErr_frame s c a o).2.2.2.2.2.2.2.2.2

/-- What `returnChunk` leaves alone. -/
theorem returnChunk_frame (s : State) (r : ChunkRead) (bs : List (BitVec 64 × RespStatus)) : (returnChunk s r bs).pending = s.pending ∧
    (returnChunk s r bs).pins = s.pins ∧
    (returnChunk s r bs).table = s.table ∧
    (returnChunk s r bs).commit = s.commit ∧
    (returnChunk s r bs).tracker = s.tracker ∧
    (returnChunk s r bs).fwd = s.fwd ∧
    (returnChunk s r bs).policy = s.policy ∧
    (returnChunk s r bs).dirty = s.dirty ∧
    (returnChunk s r bs).mgmt = s.mgmt ∧
    (returnChunk s r bs).wires = s.wires := by
  unfold returnChunk; split; split <;> simp; simp
@[simp] theorem returnChunk_pending (s : State) (r : ChunkRead) (bs : List (BitVec 64 × RespStatus)) : (returnChunk s r bs).pending = s.pending := (returnChunk_frame s r bs).1
@[simp] theorem returnChunk_pins (s : State) (r : ChunkRead) (bs : List (BitVec 64 × RespStatus)) : (returnChunk s r bs).pins = s.pins := (returnChunk_frame s r bs).2.1
@[simp] theorem returnChunk_table (s : State) (r : ChunkRead) (bs : List (BitVec 64 × RespStatus)) : (returnChunk s r bs).table = s.table := (returnChunk_frame s r bs).2.2.1
@[simp] theorem returnChunk_commit (s : State) (r : ChunkRead) (bs : List (BitVec 64 × RespStatus)) : (returnChunk s r bs).commit = s.commit := (returnChunk_frame s r bs).2.2.2.1
@[simp] theorem returnChunk_tracker (s : State) (r : ChunkRead) (bs : List (BitVec 64 × RespStatus)) : (returnChunk s r bs).tracker = s.tracker := (returnChunk_frame s r bs).2.2.2.2.1
@[simp] theorem returnChunk_fwd (s : State) (r : ChunkRead) (bs : List (BitVec 64 × RespStatus)) : (returnChunk s r bs).fwd = s.fwd := (returnChunk_frame s r bs).2.2.2.2.2.1
@[simp] theorem returnChunk_policy (s : State) (r : ChunkRead) (bs : List (BitVec 64 × RespStatus)) : (returnChunk s r bs).policy = s.policy := (returnChunk_frame s r bs).2.2.2.2.2.2.1
@[simp] theorem returnChunk_dirty (s : State) (r : ChunkRead) (bs : List (BitVec 64 × RespStatus)) : (returnChunk s r bs).dirty = s.dirty := (returnChunk_frame s r bs).2.2.2.2.2.2.2.1
@[simp] theorem returnChunk_mgmt (s : State) (r : ChunkRead) (bs : List (BitVec 64 × RespStatus)) : (returnChunk s r bs).mgmt = s.mgmt := (returnChunk_frame s r bs).2.2.2.2.2.2.2.2.1
@[simp] theorem returnChunk_wires (s : State) (r : ChunkRead) (bs : List (BitVec 64 × RespStatus)) : (returnChunk s r bs).wires = s.wires := (returnChunk_frame s r bs).2.2.2.2.2.2.2.2.2

/-- What `startRound` leaves alone. -/
theorem startRound_frame (s : State) : (startRound s).pending = s.pending ∧
    (startRound s).pins = s.pins ∧
    (startRound s).table = s.table ∧
    (startRound s).commit = s.commit ∧
    (startRound s).tracker = s.tracker ∧
    (startRound s).fwd = s.fwd ∧
    (startRound s).policy = s.policy ∧
    (startRound s).dirty = s.dirty ∧
    (startRound s).events = s.events ∧
    (startRound s).mgmt = s.mgmt ∧
    (startRound s).wires = s.wires := by
  unfold startRound; split <;> simp
@[simp] theorem startRound_pending (s : State) : (startRound s).pending = s.pending := (startRound_frame s).1
@[simp] theorem startRound_pins (s : State) : (startRound s).pins = s.pins := (startRound_frame s).2.1
@[simp] theorem startRound_table (s : State) : (startRound s).table = s.table := (startRound_frame s).2.2.1
@[simp] theorem startRound_commit (s : State) : (startRound s).commit = s.commit := (startRound_frame s).2.2.2.1
@[simp] theorem startRound_tracker (s : State) : (startRound s).tracker = s.tracker := (startRound_frame s).2.2.2.2.1
@[simp] theorem startRound_fwd (s : State) : (startRound s).fwd = s.fwd := (startRound_frame s).2.2.2.2.2.1
@[simp] theorem startRound_policy (s : State) : (startRound s).policy = s.policy := (startRound_frame s).2.2.2.2.2.2.1
@[simp] theorem startRound_dirty (s : State) : (startRound s).dirty = s.dirty := (startRound_frame s).2.2.2.2.2.2.2.1
@[simp] theorem startRound_events (s : State) : (startRound s).events = s.events := (startRound_frame s).2.2.2.2.2.2.2.2.1
@[simp] theorem startRound_mgmt (s : State) : (startRound s).mgmt = s.mgmt := (startRound_frame s).2.2.2.2.2.2.2.2.2.1
@[simp] theorem startRound_wires (s : State) : (startRound s).wires = s.wires := (startRound_frame s).2.2.2.2.2.2.2.2.2.2

end Sys2Proof.Machine
end

