-- ==== Sys2Proof/Laws/Steps.lean ====
section
/-! SUPPORT. How a property of states passes through the model: through a step with conditions, through a taken command, through
one clock cycle and through step itself; and what the switch operations do to the Region Table and the Event Unit. -/

namespace Sys2Proof.Machine

/-! ## Properties kept -/

/-- A step with conditions keeps a property that its effect keeps. -/
theorem stepWhen_keeps {P : State → Prop} {ready : Bool} {s t u : State} (h : stepWhen ready s u = .next t) (hs : P s)
    (hu : s.pins.por = false → ready = true → P u) : P t := by
  rcases stepWhen_cases ready s u with h' | ⟨hp, hr, h'⟩
  · rw [h'] at h; cases h; exact hs
  · rw [h'] at h; cases h; exact hu hp hr

/-- A taken command keeps a property that its owner's work and its answer keep. -/
theorem takeCommand_keeps {P : State → Prop} {n : Nat} {s t : State} {owner : State → State × Response}
    (h : takeCommand n s owner = .next t) (hs : P s) (hu : P (answered (owner s).1 n (owner s).2)) : P t := by
  cases hp : s.pins.por
  · rw [takeCommand_taken _ _ _ hp] at h; cases h; exact hu
  · rw [takeCommand_held _ _ _ hp] at h; cases h; exact hs

/-- A life-cycle command leaves its state alone when it is refused, and has its effect otherwise. -/
theorem lifeCommand_keeps {P : State → Prop} {index : Byte} {s : State} {allowed : Life → Bool} {effect : Ix → State × List Byte}
    (hs : P s)
    (hu : ∀ i l, indexOf index = some i → (s.table.active.get i).isChecked = true → s.sig.life.get i = some l →
      allowed l = true → P (effect i).1) :
    P (lifeCommand index s allowed effect).1 := by
  unfold lifeCommand
  split
  · exact hs
  · next i hi =>
    split
    · exact hs
    · next hc =>
      split
      · next l hl =>
        split
        · next ha => exact hu i l hi (by simpa using hc) hl ha
        · exact hs
      · exact hs

/-- A fold whose every step keeps a property keeps it. -/
theorem foldl_keeps_prop {α : Type} {P : State → Prop} {f : State → α → State} (h : ∀ s a, P s → P (f s a)) (l : List α)
    {s : State} (hs : P s) : P (l.foldl f s) := by
  induction l generalizing s with
  | nil => exact hs
  | cons a l ih => exact ih (h s a hs)

/-- A clock cycle keeps a property that every command keeps and the passing of time keeps. -/
theorem cycle_keeps {P : State → Prop} (hadv : ∀ s, P s → P (advance s))
    (hexec : ∀ c s t, exec c s = .next t → P s → P t) {s : State} (hs : P s) : P (cycle s) := by
  have key : ∀ c (b : Bool) (s : State), P s → P (taken b (exec c) s) := by
    intro c b s hs
    unfold taken
    split
    · unfold stepped
      split
      · next t h => exact hexec c s t h hs
      · exact hs
      · exact hs
    · exact hs
  unfold cycle
  split
  · exact hs
  · exact key .scanClaimGrant _ _ (key .forcedClaimGrant _ _ (key .hostClaimGrant _ _
      (hadv _ (key .roundTimerExpiry _ _ (key .starvationTimerExpiry _ _ (key .drainTimerExpiry _ _
        (key .drainComplete _ _ (key .writeDrainDone _ _ hs))))))))

/-- Step keeps a property that does not look at the waiting commands, that every command keeps and the passing of time keeps. -/
theorem step_keeps {P : State → Prop} (hqueue : ∀ s q, P s → P { s with pending := q }) (hadv : ∀ s, P s → P (advance s))
    (hexec : ∀ c s t, exec c s = .next t → P s → P t) {s t : State} (h : step s = .next t) (hs : P s) : P t := by
  unfold step at h
  split at h
  · cases h; exact cycle_keeps hadv hexec hs
  · next c rest _ => exact hexec c _ t h (hqueue s rest hs)

/-! ## The table -/

/-- A switch of a set of indices installs their staged entries and takes them out of the Pending Set (R37). -/
@[simp] theorem switchSet_table (s : State) (w : IxSet) : (switchSet s w).table = switchTable s.table w := by simp [switchSet]

@[simp] theorem switchTable_staged (t : RegionTable) (w : IxSet) : (switchTable t w).staged = t.staged := rfl

@[simp] theorem switchTable_active (t : RegionTable) (w : IxSet) : (switchTable t w).active = switchedTable t w := rfl

@[simp] theorem switchedTable_get (t : RegionTable) (w : IxSet) (i : Ix) :
    (switchedTable t w).get i = if w.get i then t.staged.get i else t.active.get i := by simp [switchedTable]

@[simp] theorem completeDrain_table (s : State) (d : Drain) (portFree : Bool) :
    (completeDrain s d portFree).table = switchTable s.table d.quiesce := by
  simp [completeDrain]

@[simp] theorem unionIx_get (a b : IxSet) (i : Ix) : (unionIx a b).get i = (a.get i || b.get i) := by simp [unionIx]

@[simp] theorem interIx_get (a b : IxSet) (i : Ix) : (interIx a b).get i = (a.get i && b.get i) := by simp [interIx]

@[simp] theorem diffIx_get (a b : IxSet) (i : Ix) : (diffIx a b).get i = (a.get i && !b.get i) := by simp [diffIx]

@[simp] theorem noIx_get (i : Ix) : noIx.get i = false := by simp [noIx]

/-! ## The drain -/

@[simp] theorem closeDrain_draining (s : State) : (closeDrain s).commit.draining = none := by
  unfold closeDrain; dsimp only; split <;> simp

@[simp] theorem cutDrain_draining (s : State) (d : Drain) (o : LastOutcome) : (cutDrain s d o).commit.draining = none := by
  simp [cutDrain]

@[simp] theorem completeDrain_draining (s : State) (d : Drain) (portFree : Bool) :
    (completeDrain s d portFree).commit.draining = none := by
  simp [completeDrain]

@[simp] theorem enterDraining_draining (s : State) (d : Drain) : (enterDraining s d).commit.draining = some d := by
  simp [enterDraining]

@[simp] theorem enterDraining_table (s : State) (d : Drain) : (enterDraining s d).table = s.table := by simp [enterDraining]

/-- A drain that ends without a switch raises its one commit event (R41). -/
@[simp] theorem cutDrain_events (s : State) (d : Drain) (o : LastOutcome) :
    (cutDrain s d o).events = s.events.take (commitEvent o.event d.immediate d.quiesce o.reason) := by
  simp [cutDrain, closeDrain]; split <;> simp

/-! ## The engine -/

@[simp] theorem refreshRound_engine (s : State) : (refreshRound s).scan.engine = s.scan.engine := rfl

@[simp] theorem refreshRound_context (s : State) : (refreshRound s).scan.context = s.scan.context := rfl

@[simp] theorem refreshRound_queue (s : State) : (refreshRound s).scan.queue = s.scan.queue := rfl

@[simp] theorem startStarvation_engine (s : State) : (startStarvation s).scan.engine = s.scan.engine := rfl

@[simp] theorem startStarvation_context (s : State) : (startStarvation s).scan.context = s.scan.context := rfl

@[simp] theorem startStarvation_queue (s : State) : (startStarvation s).scan.queue = s.scan.queue := rfl

@[simp] theorem enterWaiting_engine (s : State) : (enterWaiting s).scan.engine = .waitingGap := rfl

@[simp] theorem enterWaiting_context (s : State) : (enterWaiting s).scan.context = s.scan.context := rfl

@[simp] theorem enterWaiting_queue (s : State) : (enterWaiting s).scan.queue = s.scan.queue := rfl

/-- An engine that is not IDLE takes no job (R134). -/
theorem takeHead_of_not_idle (s : State) (h : s.scan.engine ≠ .idle) : takeHead s = s := by
  unfold takeHead
  split
  · next h' _ => exact absurd h' h
  · rfl

/-- An engine with an empty queue takes no job (R134). -/
theorem takeHead_of_empty (s : State) (h : s.scan.queue.pop = none) : takeHead s = s := by
  unfold takeHead
  simp [h]

end Sys2Proof.Machine
end

