-- ==== Sys2Proof/Laws/Bytes.lean ====
section
/-! SUPPORT. Laws of the byte map: regions change only at granule boundaries, the pieces of a burst are its bytes with one
mapping each, and what the search for a strobed byte, the cause set and the lowest index answer. -/

namespace Sys2Proof.Machine

/-- A byte is in an enabled entry's range exactly when its granule is (R5, R20). -/
theorem Entry.covers_iff (e : Entry) (a : Nat) :
    e.covers a = true ↔ e.enabled = true ∧ e.base.toNat ≤ a / 256 ∧ a / 256 < e.base.toNat + e.size.toNat := by
  unfold Entry.covers Entry.lo Entry.hi
  simp only [Bool.and_eq_true, decide_eq_true_eq]
  constructor
  · rintro ⟨⟨h, h1⟩, h2⟩
    exact ⟨h, by omega, by omega⟩
  · rintro ⟨h, h1, h2⟩
    exact ⟨⟨h, by omega⟩, by omega⟩

/-- All bytes of one granule have one mapping (R20). -/
theorem regionAt_granule (t : Tab Entry) (a b : Nat) (h : a / 256 = b / 256) : regionAt t a = regionAt t b := by
  unfold regionAt
  congr 1
  funext i
  rw [Bool.eq_iff_iff, Entry.covers_iff, Entry.covers_iff, h]

/-- A piece of a run of at most 128 bytes lies in the run, and its bytes have its mapping (R21). -/
theorem piecesOf_sound (t : Tab Entry) (f l : Nat) (h : f ≤ l) (hl : l - f < 128) (p : Piece) (hp : p ∈ piecesOf t f l) :
    f ≤ p.first ∧ p.first ≤ p.last ∧ p.last ≤ l ∧ ∀ a, p.first ≤ a → a ≤ p.last → regionAt t a = p.region := by
  unfold piecesOf at hp
  split at hp
  · next hc =>
    simp only [List.mem_singleton] at hp
    subst hp
    refine ⟨le_refl _, h, le_refl _, fun a h1 h2 => ?_⟩
    simp only at h1 h2 ⊢
    by_cases ha : a / 256 = f / 256
    · exact regionAt_granule _ _ _ ha
    · rcases hc with hc | hc
      · omega
      · rw [hc]; exact regionAt_granule _ _ _ (by omega)
  · next hc =>
    simp only [not_or] at hc
    simp only [List.mem_cons, List.not_mem_nil, or_false] at hp
    rcases hp with rfl | rfl
    · exact ⟨le_refl _, by simp only; omega, by simp only; omega,
        fun a h1 h2 => regionAt_granule _ _ _ (by simp only at h1 h2; omega)⟩
    · exact ⟨by simp only; omega, by simp only; omega, le_refl _,
        fun a h1 h2 => regionAt_granule _ _ _ (by simp only at h1 h2; omega)⟩

/-- Every byte of a run lies in a piece of it (R21). -/
theorem piecesOf_complete (t : Tab Entry) (f l a : Nat) (h1 : f ≤ a) (h2 : a ≤ l) :
    ∃ p ∈ piecesOf t f l, p.first ≤ a ∧ a ≤ p.last := by
  unfold piecesOf
  split
  · exact ⟨_, List.mem_singleton.2 rfl, h1, h2⟩
  · by_cases ha : a < l / 256 * 256
    · exact ⟨_, List.mem_cons_self, h1, by simp only; omega⟩
    · exact ⟨_, List.mem_cons_of_mem _ (List.mem_singleton.2 rfl), by simp only; omega, h2⟩

/-- A legal request's burst has its bytes in order, at most 128 of them. -/
theorem burst_bounds (r : Request) (h : r.beatsLegal = true) :
    burstFirst r ≤ burstLast r ∧ burstLast r - burstFirst r < 128 ∧ burstLast r + 1 = burstFirst r + 8 * r.beats := by
  unfold Request.beatsLegal at h
  simp only [Bool.and_eq_true, decide_eq_true_eq] at h
  unfold burstFirst burstLast
  omega

/-- A write has a strobed byte from `lo` up to `hi`. -/
theorem strobedWithin_iff (r : Request) (strobes : List (BitVec 8)) (lo hi : Nat) :
    strobedWithin r strobes lo hi = true ↔ ∃ a, StrobedByte r strobes a ∧ lo ≤ a ∧ a < hi := by
  unfold strobedWithin StrobedByte
  simp only [List.any_eq_true, List.mem_range, Bool.and_eq_true, decide_eq_true_eq]
  constructor
  · rintro ⟨o, h, ⟨h1, h2⟩, h3⟩
    exact ⟨burstFirst r + o, ⟨by omega, by omega, by rwa [Nat.add_sub_cancel_left]⟩, h2, h3⟩
  · rintro ⟨a, ⟨h1, h2, h3⟩, h4, h5⟩
    exact ⟨a - burstFirst r, by omega, ⟨h3, by omega⟩, by omega⟩

/-- Ordering a cause set changes none of its members. -/
theorem mem_byIndex (cs : List (Ix × Cause)) (c : Ix × Cause) : c ∈ byIndex cs ↔ c ∈ cs := by
  unfold byIndex
  split
  · split
    · rfl
    · simp [or_comm]
  · rfl

/-- A piece is that of a region refusing reads (R49). -/
theorem failClosed_iff (s : State) (p : Piece) (i : Ix) : failClosed s p = some i ↔ p.region = some i ∧ RefusesReads s i := by
  unfold failClosed RefusesReads
  constructor
  · intro h
    split at h
    · cases h
    · next j hj =>
      split at h
      · next h1 h2 => cases h; exact ⟨hj, h1, _, h2⟩
      · cases h
  · rintro ⟨h, h1, ref, h2⟩
    simp [h, h1, h2]

/-- A search of the indices in ascending order that finds one finds the least. -/
theorem allIx_find_eq_some (p : Ix → Bool) (i : Ix) : allIx.find? p = some i ↔ p i = true ∧ ∀ j, p j = true → i ≤ j := by
  have all : allIx = List.finRange 16 := by decide
  have mem : ∀ j : Ix, j ∈ allIx := by decide
  have least : ∀ i, allIx.find? p = some i → p i = true ∧ ∀ j, p j = true → i ≤ j := by
    intro i h
    refine ⟨List.find?_some h, fun j hj => ?_⟩
    by_contra hlt
    rw [all, List.find?_eq_some_iff_getElem] at h
    obtain ⟨-, k, hk, he, hn⟩ := h
    simp only [List.getElem_finRange] at he hn
    have hk' : i.val = k := by rw [← he]; rfl
    have := hn j.val (by have : j.val < i.val := not_le.1 hlt; omega)
    simp [hj] at this
  refine ⟨least i, fun ⟨h1, h2⟩ => ?_⟩
  cases h : allIx.find? p with
  | none => exact absurd h1 (by simpa using List.find?_eq_none.1 h i (mem i))
  | some j => rw [le_antisymm ((least j h).2 i h1) (h2 j (least j h).1)]

end Sys2Proof.Machine
end

