-- ==== Sys2Proof/Laws/Places.lean ====
section
/-! SUPPORT. Laws of places in the Transaction Table: finding, replacing and freeing the entry that stands between those
accepted before it and after it; and what recording eligible answers, counting and handing off leave as it was. -/

namespace Sys2Proof.Machine

/-- Recording eligible answers changes their record alone (R51). -/
theorem noteEligible_only (s : State) : ∃ g, noteEligible s = { s with tracker := { s.tracker with eligible := g } } := by
  unfold noteEligible
  split
  · exact ⟨s.tracker.eligible, rfl⟩
  · exact ⟨_, rfl⟩

/-- A search that passes over the entries before one finds that one. -/
theorem find_split {α : Type} (p : α → Bool) (before after : List α) (x : α) (hb : ∀ y ∈ before, p y = false)
    (hx : p x = true) : (before ++ x :: after).find? p = some x := by
  rw [List.find?_append, List.find?_eq_none.2]
  · simp [hx]
  · intro y hy
    simp [hb y hy]

theorem stands_tag_ne {s : State} {before after : List Txn} {x : Txn} (h : Stands s before x after) :
    (∀ y ∈ before, y.tag ≠ x.tag) ∧ ∀ y ∈ after, y.tag ≠ x.tag := by
  obtain ⟨h1, h2⟩ := h
  rw [h1] at h2
  simp only [List.map_append, List.map_cons, List.nodup_append, List.nodup_cons, List.mem_map, List.mem_cons] at h2
  refine ⟨fun y hy he => h2.2.2 y.tag ⟨y, hy, rfl⟩ x.tag (.inl rfl) he, fun y hy he => h2.2.1.1 ⟨y, hy, he⟩⟩

theorem stands_findTxn {s : State} {before after : List Txn} {x : Txn} (h : Stands s before x after) :
    findTxn s.tracker.txns x.tag = some x := by
  rw [h.1]
  exact find_split _ _ _ _ (fun y hy => by simp [(stands_tag_ne h).1 y hy]) (by simp)

theorem stands_putTxn {s : State} {before after : List Txn} {x : Txn} (h : Stands s before x after) (x' : Txn)
    (ht : x'.tag = x.tag) : putTxn s.tracker.txns x' = before ++ x' :: after := by
  have keep : ∀ l : List Txn, (∀ y ∈ l, y.tag ≠ x.tag) → l.map (fun y => if y.tag = x.tag then x' else y) = l := by
    intro l hl
    conv_rhs => rw [← List.map_id l]
    exact List.map_congr_left fun y hy => by simp [hl y hy]
  rw [h.1]
  simp only [putTxn, List.map_append, List.map_cons, ht, if_true, keep _ (stands_tag_ne h).1, keep _ (stands_tag_ne h).2]

theorem stands_freeTxn {s : State} {before after : List Txn} {x : Txn} (h : Stands s before x after) :
    freeTxn s.tracker.txns x.tag = before ++ after := by
  have keep : ∀ l : List Txn, (∀ y ∈ l, y.tag ≠ x.tag) → l.filter (fun y => y.tag != x.tag) = l := by
    intro l hl
    rw [List.filter_eq_self]
    exact fun y hy => by simp [hl y hy]
  rw [h.1]
  simp [freeTxn, keep _ (stands_tag_ne h).1, keep _ (stands_tag_ne h).2]

theorem stands_acceptedBefore {s : State} {before after : List Txn} {x : Txn} (h : Stands s before x after) :
    acceptedBefore s.tracker.txns x = before := by
  rw [h.1, acceptedBefore, List.takeWhile_append_of_pos]
  · simp
  · exact fun y hy => by simp [(stands_tag_ne h).1 y hy]

/-- Counting windows changes the window counts alone (R92). -/
theorem countWindows_only (s : State) (fs : List (Ix × WatchPart × Finding)) :
    countWindows s fs = { s with policy := { s.policy with windows := (countWindows s fs).policy.windows } } := by
  unfold countWindows
  induction fs generalizing s with
  | nil => rfl
  | cons f fs ih => rw [List.foldl_cons, ih]; rfl

/-- Reporting windows raises events and changes nothing else (R89). -/
theorem reportWindows_only (s : State) (r : Request) (fs : List (Ix × WatchPart × Finding)) :
    reportWindows s r fs = { s with events := (reportWindows s r fs).events } := by
  unfold reportWindows
  induction fs generalizing s with
  | nil => rfl
  | cons f fs ih => rw [List.foldl_cons, ih]; split <;> rfl

/-- Adding a dirty block leaves tracked writes in flight as they were (R96). -/
theorem addBlock_only (s : State) (host : HostId) (i : Ix) (e : Entry) (g : Granule) (b : Nat) :
    addBlock s host i e g b = { s with
      events := (addBlock s host i e g b).events
      dirty := { (addBlock s host i e g b).dirty with inFlight := s.dirty.inFlight } } := by
  unfold addBlock
  dsimp only
  split
  · rfl
  · split
    · split <;> rfl
    · split <;> rfl

/-- An argument byte that is an index gives that index (R177). -/
theorem indexOf_ofNat (i : Ix) : indexOf (BitVec.ofNat 8 i.val) = some i := by revert i; decide

/-- An argument byte above 15 gives no index (R177). -/
theorem indexOf_above (b : Byte) (h : 15 < b.toNat) : indexOf b = none := by
  unfold indexOf
  rw [dif_neg]
  omega

end Sys2Proof.Machine
end

