-- ==== Sys2Proof/Tests/Slice0.lean ====
section
/-! SUPPORT. Tests of single steps against values worked out from the spec, the refusals of ill-formed terms, and for each
statement with hypotheses a state and operands that meet them. -/

namespace Sys2Proof.Tests

open Sys2Proof Sys2Proof.Machine

-- One test at a time: the kernel's evaluations would otherwise all wait for one another, each in a thread of its own.
set_option Elab.async false

/-! ## Small states -/

/-- An enabled entry with the range and the part given. -/
def region (base size : Nat) (part : Part) : Entry :=
  { enabled := true, base := BitVec.ofNat 24 base, size := BitVec.ofNat 24 size, refusal := .error, quiesce := false
    part := part }

/-- A WATCH part for elements of one byte, from 16 to 32. -/
def window (action : WatchAction) : WatchPart :=
  { width := .w8, low := 16, high := 32, action := action, policy := .ignore }

/-- The reset state with an entry in both copies at an index. -/
def holding (i : Ix) (e : Entry) (s : State := State.reset) : State :=
  { s with table := { s.table with staged := s.table.staged.set i e, active := s.table.active.set i e } }

/-- A CHECKED region of 256 bytes at address 0x1000, index 2, in a life state. -/
def checkedIn (life : Life) (s : State := State.reset) : State :=
  setLife (holding 2 (region 16 1 (.checked true)) s) 2 (some life)

/-- A staged quiesce change of index 2, whose drain is under way. -/
def drainOf (s : State) : Drain :=
  { quiesce := noIx.set 2 true, immediate := noIx, ranges := [{ lo := 0x1000, hi := 0x1100 }]
    timer := startMicros s.mgmt.timing s.mgmt.timing.drain }

/-- A state with that drain under way. -/
def draining (s : State := State.reset) : State :=
  { s with commit := { s.commit with draining := some (drainOf s) } }

/-- A transaction at address 0x1000. -/
def txn (dir : Dir) (phase : Phase) (beats : Nat := 1) (tag : Nat := 0) : Txn :=
  entryOfRequest tag { dir := dir, id := 5, addr := 0x1000, beats := beats } phase

/-- A state whose table holds the transactions given. -/
def holdingTxns (txns : List Txn) (s : State := State.reset) : State :=
  { s with tracker := { s.tracker with txns := txns, nextTag := txns.length } }

/-- A write beat with every strobe set. -/
def beat (data : BitVec 64) : WriteBeat := { data := data, strobes := 0xFF }

/-- A write still collecting its only beat. -/
def collecting (beats : Nat := 1) (tag : Nat := 0) : Txn :=
  { txn .write .collecting beats tag with slot := some { state := .filling, beats := [] } }

/-- A job of region 2. -/
def job (kind : JobKind) (cursor : Nat := 0) : JobContext :=
  { region := 2, kind := kind, cursor := cursor, crc := crc32Init, chunksDone := 0 }

/-- An outstanding chunk read with the beats given. -/
def chunkRead (beats : List (BitVec 64 × RespStatus) := []) (disposition : Disposition := .apply) : ChunkRead :=
  { addr := 0x1000, disposition := disposition, offPending := false, beats := beats }

/-- Three beats of zeros. -/
def threeBeats : List (BitVec 64 × RespStatus) := [(0, .ok), (0, .ok), (0, .ok)]

/-- A state with the engine and context given. -/
def scanning (engine : EngineState) (context : Option JobContext) (s : State := State.reset) : State :=
  { s with scan := { s.scan with engine := engine, context := context } }

/-- The state after a command. -/
def after (c : Instr) (s : State) : State := stepped s (exec c s)

/-! ## Ill-formed terms -/

theorem test_request_without_beats_is_ill_formed :
    (Instr.hostRequestAccept { dir := .read, id := 0, addr := 0, beats := 0 }).wellFormed = false := by decide

theorem test_request_of_17_beats_is_ill_formed :
    (Instr.hostRequestAccept { dir := .write, id := 0, addr := 0, beats := 17 }).wellFormed = false := by decide

theorem test_host_item_with_id_16_is_ill_formed :
    (Instr.memoryResponseItemPass ⟨.writeDone 16 .ok, true⟩).wellFormed = false := by decide

theorem test_rejected_frame_without_bits_is_ill_formed : (Instr.commandFrameRejected [] false).wellFormed = false := by decide

theorem test_rejected_fetch_frame_is_ill_formed : (Instr.commandFrameRejected [0x00, 0x00] false).wellFormed = false := by decide

theorem test_every_other_term_is_well_formed :
    (Instr.hostRequestAccept { dir := .read, id := 0, addr := 0, beats := 16 }).wellFormed = true ∧
    (Instr.commandFrameRejected [] true).wellFormed = true ∧
    (Instr.memoryResponseItemPass ⟨.writeDone 15 .ok, true⟩).wellFormed = true ∧ Instr.softClear.wellFormed = true := by decide

/-! ## Checks and frames (R107, R169, section 10.6) -/

theorem test_check_values :
    signature [0x31, 0x32, 0x33, 0x34, 0x35, 0x36, 0x37, 0x38, 0x39] = 0xE3069283#32 ∧
    crc8 [0x31, 0x32, 0x33, 0x34, 0x35, 0x36, 0x37, 0x38, 0x39] = 0xF4#8 ∧ crc8 [0x00] = 0x00#8 := by decide +kernel

theorem test_commit_frame :
    judgeFrame [0x06, 0x12] false = .command .commit ∧ judgeFrame [0x06, 0x13] false = .frameCrc ∧
    judgeFrame [0x07] false = .length ∧ judgeFrame [0x09, 0x00] false = .unknown ∧ judgeFrame [] true = .length ∧
    encodeFrame .commit = some [0x06, 0x12] := by decide +kernel

/-! ## The byte map and the write path (worked examples of sections 1.9 and 4.7) -/

/-- The table of section 4.7: TRACK at 4, GUARD at 9 and SILENT, CHECKED and INTACT at 11. -/
def mapped : State :=
  setLife (holding 4 (region 128 2 (.track .b256))
    (holding 9 { region 130 1 .guard with refusal := .silent }
      (holding 11 (region 131 4 (.checked false))))) 11 (some (.intact 7))

/-- A write of id 2 and 16 beats at an address, all but its last beat collected. -/
def fifteen (addr : Addr) (strobes : Nat → BitVec 8) : Txn :=
  { entryOfRequest 0 { dir := .write, id := 2, addr := addr, beats := 16 } .collecting with
    slot := some { state := .filling, beats := (List.range 15).map fun k => { data := 0, strobes := strobes k } } }

theorem test_pieces_of_a_straddling_burst :
    piecesOf mapped.table.active 0x81C0 0x823F =
      [{ first := 0x81C0, last := 0x81FF, region := some 4 }, { first := 0x8200, last := 0x823F, region := some 9 }] ∧
    piecesOf mapped.table.active 0x8040 0x807F = [{ first := 0x8040, last := 0x807F, region := some 4 }] ∧
    requestWellFormed { dir := .read, id := 0, addr := 0x8FF8, beats := 2 } = false := by decide +kernel

theorem test_write_with_clear_strobes_over_a_guard_region_is_forwarded :
    let t := after (.hostWriteBeat ⟨{ data := 0, strobes := 0 }, []⟩)
      (holdingTxns [fifteen 0x81C0 fun k => if k < 8 then 0xFF else 0] mapped)
    t.tracker.txns.map Txn.phase = [.waitingForward] ∧ t.dirty.list = [{ region := 4, block := 1 }] ∧
    t.fwd.queue = [0] ∧ t.dirty.inFlight = 1 ∧ t.events.log = [] := by decide +kernel

theorem test_write_with_two_causes_is_refused_once :
    let t := after (.hostWriteBeat ⟨beat 0, []⟩) (holdingTxns [fifteen 0x82C0 fun _ => 0xFF] mapped)
    t.tracker.txns.map Txn.phase = [.localAnswer (.refuse 9) .err] ∧
    t.policy.refusals.get 9 = 1 ∧ t.policy.refusals.get 11 = 1 ∧
    t.events.log.map (fun r => (r.event.region, r.event.addr, r.event.detail)) =
      [(some 9, some 0x82C0, some #v[16, 1, 1, 0, 11, 2, 0, 0])] := by decide +kernel

theorem test_read_of_a_corrupt_fail_closed_region_is_refused :
    let t := after (.hostRequestAccept { dir := .read, id := 7, addr := 0x4100, beats := 2 })
      (setLife (holding 3 (region 64 8 (.checked true))) 3 (some (.corrupt 1)))
    t.tracker.txns.map Txn.phase = [.localAnswer (.refuse 3) .err] ∧ t.policy.refusals.get 3 = 1 ∧
    t.events.log.map (fun r => (r.event.kind, r.event.region, r.event.hostId)) = [(.readRefused, some 3, some 7)] := by
  decide +kernel

/-! ## Response order (worked example of section 3.8) -/

/-- The table after step (3) of section 3.8: A with three of its four beats taken, B refused, C and D. -/
def refusalBetween : State :=
  let read := fun (tag : Nat) (id : HostId) (addr : Addr) (beats : Nat) (phase : Phase) =>
    entryOfRequest tag { dir := .read, id := id, addr := addr, beats := beats } phase
  let s := holdingTxns [{ read 0 7 0x1000 4 .forwarded with delivered := 3 }, read 1 7 0x4100 2 (.localAnswer (.refuse 3) .err),
    read 2 7 0x1100 4 .forwarded, read 3 2 0x2000 1 .forwarded]
  { s with tracker := { s.tracker with hostChan := some 0, lastSource := .memory } }

theorem test_refusal_between_two_forwarded_reads :
    let four := after (.memoryResponseItemPass ⟨.readBeat 7 4 .ok, true⟩) refusalBetween
    let five := after (.memoryResponseItemPass ⟨.readBeat 7 5 .ok, true⟩) four
    let sent := after .localAnswerItemTaken (after .localAnswerItemTaken (after (.localAnswerSend .read 7 none) five))
    let six := after (.memoryResponseItemPass ⟨.readBeat 7 5 .ok, true⟩) sent
    (four.tracker.txns.map Txn.tag = [1, 2, 3] ∧ four.tracker.localTurn = true) ∧
    (five.fwd.head = some (.readBeat 7 5 .ok) ∧ five.tracker.txns = four.tracker.txns) ∧
    (sent.tracker.txns.map Txn.tag = [2, 3] ∧ sent.tracker.hostChan = some 2 ∧
      sent.wires.hostItem = some (.readBeat 0 .err)) ∧
    (six.fwd.head = none ∧ six.tracker.txns.map Txn.delivered = [1, 0] ∧ six.wires.hostItem = some (.readBeat 5 .ok)) := by
  decide +kernel

/-- R53: the memory keeps a free channel given to its item while the host is not ready, though an answer becomes eligible. -/
theorem test_channel_given_to_the_memory_stays_given :
    let s := holdingTxns [txn .read .forwarded 2]
    let given := after (.memoryResponseItemPass ⟨.readBeat 5 7 .ok, false⟩) s
    let t := after (.hostRequestAccept { dir := .read, id := 1, addr := 4, beats := 1 }) given
    given.tracker.hostChan = some 0 ∧ t.tracker.hostChan = some 0 ∧ t.tracker.eligible = [[1]] ∧ t.tracker.localTurn = false ∧
    (after (.memoryResponseItemPass ⟨.readBeat 5 7 .ok, true⟩) t).tracker.txns.map Txn.delivered = [1, 0] := by decide +kernel

/-! ## Value windows (section 5.7) -/

/-- Index 7 of section 5.7, with the write X1 or X2 short of its last beat. -/
def setPoints (beats : Nat) (held : List WriteBeat) (addr : Addr) : State :=
  holdingTxns [{ entryOfRequest 0 { dir := .write, id := 1, addr := addr, beats := beats } .collecting with
      slot := some { state := .filling, beats := held } }]
    (holding 7 (region 1040 4
      (.watch { width := .w16, low := 100, high := 7000, action := .refuse, policy := .violate })))

theorem test_first_violating_element_is_below :
    let t := after (.hostWriteBeat ⟨beat 0x01F401F401F41B59, []⟩) (setPoints 2 [beat 0x03E800001B580064] 0x41000)
    t.policy.refusals.get 7 = 1 ∧ t.policy.windows.get 7 = 1 ∧
    t.events.log.map (fun r => (r.event.kind, r.event.addr, r.event.detail)) =
      [(.windowRefused, some 0x41004, some #v[0, 0, 0, 0, 16, 0x31, 1, 0])] := by decide +kernel

theorem test_partial_element_violates_with_zero_for_its_unstrobed_byte :
    let t := after (.hostWriteBeat ⟨{ data := 0x77200BB8, strobes := 0x07 }, []⟩) (setPoints 1 [] 0x41008)
    t.events.log.map (fun r => (r.event.addr, r.event.detail)) =
      [(some 0x4100A, some #v[32, 0, 0, 0, 16, 0x13, 1, 0])] := by decide +kernel

/-! ## Dirty tracking (section 6.8) -/

theorem test_second_block_of_a_write_reaches_the_threshold :
    let s := holding 2 (region 4096 64 (.track .k1))
    let t := after (.hostWriteBeat ⟨beat 0, []⟩) (holdingTxns [fifteen 0x1003C0 fun _ => 0xFF]
      { s with dirty := { s.dirty with
          threshold := 62, list := (List.range 60).map fun k => { region := 5, block := k } } })
    t.dirty.list.drop 60 = [{ region := 2, block := 0 }, { region := 2, block := 1 }] ∧ t.dirty.inFlight = 1 ∧
    t.events.log.map (fun r => (r.event.kind, r.event.addr, r.event.detail)) =
      [(.dirtyThreshold, some 0x100400, some #v[1, 0, 0, 62, 0, 0, 0, 0])] := by decide +kernel

/-- Two TRACK regions that meet at 0x100800. -/
def twoTracks : State := holding 2 (region 4096 8 (.track .k1)) (holding 3 (region 4104 16 (.track .b256)))

/-- "If the take had come between the two blocks of a write", with a write that keeps within one 4 KiB block (log entry 24):
63 entries, the oldest of them the write's first block. -/
theorem test_take_between_the_blocks_of_a_write :
    let s := twoTracks
    let t := after (.hostWriteBeat ⟨beat 0, [.takeDirty 8]⟩) (holdingTxns [fifteen 0x1007C0 fun _ => 0xFF]
      { s with dirty := { s.dirty with
          list := { region := 2, block := 1 } :: (List.range 62).map fun k => { region := 5, block := k } } })
    t.dirty.list.length = 56 ∧ t.dirty.list.drop 54 = [{ region := 5, block := 61 }, { region := 3, block := 0 }] ∧
    t.dirty.overflow = noIx ∧ t.mgmt.response.map (fun r => (r.status, r.result.take 5)) = some (.ok, [8, 2, 1, 0, 0]) := by
  decide +kernel

/-- R103 at the release of a held write: a TAKE_DIRTY between its two additions, but not within ABORT_COMMIT. -/
theorem test_take_between_the_blocks_of_a_released_write :
    let x := fifteen 0x1007C0 fun _ => 0xFF
    let s := draining (holdingTxns [{ x with
      phase := .held .range, slot := some { state := .full, beats := x.beatsHeld ++ [beat 0] }, between := [.takeDirty 8] }]
      twoTracks)
    (after .drainTimerExpiry s).dirty.list = [{ region := 3, block := 0 }] ∧
    (after .abortCommit s).dirty.list = [{ region := 2, block := 1 }, { region := 3, block := 0 }] := by decide +kernel

theorem test_block_that_finds_the_list_full_is_lost :
    let s := holding 3 (region 4160 16 (.track .b256))
    let t := after (.hostWriteBeat ⟨beat 0, []⟩) (holdingTxns
      [{ entryOfRequest 0 { dir := .write, id := 4, addr := 0x104100, beats := 1 } .collecting with
          slot := some { state := .filling, beats := [] } }]
      { s with dirty := { s.dirty with list := (List.range 64).map fun k => { region := 5, block := k } } })
    t.dirty.list.length = 64 ∧ t.dirty.overflow = noIx.set 3 true ∧
    t.events.log.map (fun r => (r.event.kind, r.event.addr)) = [(.dirtyOverflow, some 0x104100)] := by decide +kernel

/-! ## Commits and the wire (sections 10.5 and 11.2) -/

/-- Index 5 staged disabled but otherwise changed: pending, with quiesce no. -/
def pendingFive : State :=
  { State.reset with table := { State.reset.table with
      staged := State.reset.table.staged.set 5 { Entry.reset with base := 3 }
      pendingSet := noIx.set 5 true } }

theorem test_commit_switches_at_once_and_its_response_is_fetched :
    let t := after .commit pendingFive
    (t.table.active.get 5).base = 3 ∧ t.table.pendingSet = noIx ∧ t.commit.outcome = .done ∧
    (after (.fetch [0, 0, 0, 0, 0, 0, 0, 0]) t).mgmt.miso = [0xFF, 0xFF, 0x00, 0x00, 0x20, 0x00, 0x00, 0x00, 0xCE] := by
  decide +kernel

theorem test_fetch_without_a_response_and_after_a_damaged_frame :
    (after (.fetch [0, 0, 0]) State.reset).mgmt.miso = [0xFF, 0xFF, 0x09, 0x3F] ∧
    (after (.commandFrameRejected [0x06, 0x13] false) State.reset).mgmt.response =
      some { status := .frameCrc, result := [] } := by decide +kernel

theorem test_unknown_action_and_empty_frame :
    (after (.commandFrameRejected [0x18, 6, crc8 [0x18, 6]] false) State.reset).mgmt.response =
      some { status := .range, result := [0, 0, 0] } ∧
    (after (.commandFrameRejected [] true) State.reset).mgmt.response = some { status := .length, result := [] } := by
  decide +kernel

theorem test_stage_entry_of_size_zero_fails_check_2 :
    (after (.stageEntry 3 #v[7, 0, 0, 16, 0, 0, 0, 0, 0, 0, 0, 0, 0, 0, 0, 0]) State.reset).mgmt.response =
      some { status := .range, result := [2, 0, 0] } ∧
    (after (.stageEntry 3 #v[7, 0, 0, 16, 0, 16, 0, 0, 0, 0, 0, 0, 0, 0, 0, 0]) State.reset).mgmt.response =
      some { status := .ok, result := [1, 8, 0] } := by decide +kernel

theorem test_identify_after_reset :
    (after .identify State.reset).mgmt.response = some { status := .ok, result :=
      [0x40, 0x03, 1, 16, 16, 4, 16, 64, 32, 100, 0, 64, 0, 0xD0, 0x07, 100, 0, 0xE8, 0x03] } := by decide +kernel

/-! ## Events (section 9.8) -/

theorem test_refusals_merge_store_and_drop :
    let refused := fun host : HostId =>
      ({ kind := .writeRefused, region := some 9, hostId := some host, addr := none, detail := none } : Event)
    let read := fun n : Nat => ({ kind := .scanReadError, region := none, hostId := none, addr := none
                                  detail := some (detailOf [BitVec.ofNat 8 n]) } : Event)
    let full := ((List.range 31).foldl (fun u n => EventUnit.take u (read n)) EventUnit.reset).take (refused 5)
    let dropped := (full.take (refused 2)).take (refused 5)
    full.log.length = 32 ∧ dropped.log.length = 32 ∧ (dropped.log.getLast?.map Record.repeats) = some 2 ∧
    dropped.dropped = 1 ∧ dropped.flags.log = true ∧ dropped.nextSeq = 32 := by decide +kernel

/-! ## The life cycle and the engine -/

theorem test_close_reports_queued_and_an_idle_engine_takes_the_job :
    let t := after (.closeRegion 2) (scanning .idle none (checkedIn .opened))
    t.mgmt.response = some { status := .ok, result := [3, 2, 0, 0] } ∧
    t.sig.life.get 2 = some (.signing .active) ∧ t.scan.engine = .waitingGap := by decide +kernel

/-- A round timer that runs. -/
def rounds (life : Life) : State :=
  let s := scanning .idle none (checkedIn life)
  refreshRound { s with scan := { s.scan with roundMode := true } }

/-- A round timer that has run its length. -/
def roundIsDue (life : Life) : State :=
  let s := rounds life
  { s with scan := { s.scan with roundTimer := some { limit := 100000000, elapsed := 100000000, mhz := 100 } } }

/-- R133: the round's expiry and a SIGN job that joins fall together. The expiry first: the engine takes the SIGN job, the round is counted
and its job stays queued. The join first: the engine takes the SIGN job, the timer stops, and there is no round. -/
theorem test_round_and_sign_job_fall_together (first : Bool) (h : Config.roundFirst 0 = first) :
    let s := setLife (holding 3 (region 32 1 (.checked true)) (roundIsDue (.intact 5))) 3 (some .opened)
    let t := startWriteDrain (meetSigning s 3) 3
    t.scan.context.map JobContext.region = some 3 ∧ t.scan.queue.round = (if first then [2] else []) ∧
    t.scan.roundCount = (if first then 1 else 0) ∧ t.scan.roundTimer = none := by
  intro s t
  have met : t = startWriteDrain (let u := { s with scan := { s.scan with ties := 1 } }
      if Config.roundFirst 0 then enqueueRound u else u) 3 := rfl
  rw [met, h]
  clear h met
  revert first
  decide +kernel

/-- R114, R132, R133: with round interval 0 the round timer that starts as RESIGN's abandonment leaves the engine IDLE expires at once,
before or after the SIGN job joins, and the engine takes the SIGN job. -/
theorem test_round_timer_of_interval_zero_meets_the_sign_job_of_resign (first : Bool) (h : Config.roundFirst 0 = first) :
    let s := setLife (holding 3 (region 32 1 (.checked true)) (scanning .waitingGap (some (job .verifyRound)) (checkedIn (.intact 5))))
      3 (some (.intact 6))
    let s : State := { s with scan := { s.scan with roundMode := true }
                              mgmt := { s.mgmt with timing := { s.mgmt.timing with round := 0 } } }
    let t := startWriteDrain (meetSigning (resignAt s 2) 2) 2
    t.scan.context.map JobContext.region = some 2 ∧ t.scan.context.map JobContext.kind = some .sign ∧
    t.scan.queue.round = (if first then [3] else []) ∧ t.scan.roundCount = (if first then 1 else 0) := by
  intro s' s t
  have noWrite : writesInto (resignAt s 2).tracker.txns ((resignAt s 2).table.active.get 2) = 0 := by decide +kernel
  have due : ((resignAt s 2).scan.engine == .idle && timerDue (resignAt s 2).scan.roundTimer) = true := by decide +kernel
  have ties : (resignAt s 2).scan.ties = 0 := by decide +kernel
  simp only [t, meetSigning, meetRound, if_pos noWrite, if_pos due, ties, h]
  clear h due noWrite ties t
  revert first
  decide +kernel

/-- R115, R116: the write awaited last ends the drain of the region at its completion. -/
theorem test_last_completion_ends_the_write_drain :
    let w := { txn .write .forwarded with strobes := [0xFF], tracked := true }
    let t := after (.memoryResponseItemPass ⟨.writeDone 5 .ok, true⟩)
      (holdingTxns [w] (checkedIn (.signing (.drainingWrites 1))))
    t.sig.life.get 2 = some (.signing .queued) ∧ t.scan.queue.sign = [2] ∧ t.tracker.txns = [] := by decide +kernel

/-- R124: a region in DRAINING_WRITES passes to QUEUED at the assertion of PRST_N. -/
theorem test_port_reset_ends_the_write_drain :
    let t := after .portResetAssert (checkedIn (.signing (.drainingWrites 3)))
    t.sig.life.get 2 = some (.signing .queued) ∧ t.scan.queue.sign = [2] := by decide +kernel

/-- R134: chunks done stays at 1,099,511,627,775. -/
theorem test_chunks_done_saturates :
    (after (.chunkReadReturn 0 .ok) (scanning (.reading (chunkRead threeBeats))
      (some { job .verifyRound with chunksDone := 1099511627775 }) (checkedIn (.intact 5)))).scan.context.map
        (fun c => c.chunksDone.toNat) = some 1099511627775 := by decide +kernel

theorem test_last_chunk_of_a_sign_job_stores_the_reference :
    let t := after (.chunkReadReturn 0 .ok)
      (scanning (.reading { chunkRead threeBeats with addr := 0x10E0 }) (some (job .sign 224))
        (checkedIn (.signing .active)))
    t.scan.engine = .idle ∧ t.scan.context = none ∧
    t.sig.life.get 2 = some (.intact (crc32Fold crc32Init (List.replicate 32 0) ^^^ 0xFFFFFFFF#32)) := by decide +kernel

theorem test_third_error_in_a_row_halts_the_engine :
    let s := scanning (.reading (chunkRead threeBeats)) (some (job .verifyRound)) (checkedIn (.intact 5))
    let t := after (.chunkReadReturn 0 .err) { s with scan := { s.scan with streak := 2 } }
    t.scan.engine = .halted ∧ t.events.log.map (fun r => r.event.kind) = [.scanReadError, .scanHalted] ∧
    t.sig.lastResult.get 2 = .errorRetrying := by decide +kernel

theorem test_port_reset_ends_a_draining_commit :
    let t := after .portResetAssert (draining (holdingTxns [txn .read .forwarded]))
    t.tracker.txns = [] ∧ t.commit.outcome = .abortedByPortReset ∧ t.commit.draining = none ∧
    t.events.log.map (fun r => r.event.kind) = [.commitAborted] := by decide +kernel

theorem test_one_idle_cycle_counts_one : stepped State.reset (step State.reset) =
    { State.reset with fwd := { State.reset.fwd with idleGap := some { hold := 64, count := 1 } } } := by decide +kernel

/-! ## States that meet the hypotheses of the statements -/

theorem witness_EmptyQueueIsOneCycle :
    let s := State.reset
    let t := { s with pins := { por := true, prst := false } }
    (t.pending = [] ∧ t.pins.por = true) ∧
    (s.pending = [] ∧ PinsReleased s ∧ s.commit.draining = none ∧ s.fwd.queue = [] ∧ s.fwd.memReq = none ∧
      (∀ x ∈ s.tracker.txns, x.phase ≠ .forwarded) ∧ (∀ i, s.sig.life.get i ≠ some (.signing (.drainingWrites 0))) ∧
      s.scan.engine = .off ∧ s.scan.starvation = none ∧ s.scan.roundTimer = none ∧ s.scan.forced = false) := by
  decide +kernel

theorem witness_WellFormedCommandsComplete :
    (Instr.hostRequestAccept { dir := .write, id := 0, addr := 0, beats := 16 }).wellFormed = true ∧
    (∃ f, exec (.hostRequestAccept { dir := .read, id := 0, addr := 0, beats := 17 }) State.reset = .fault f) ∧
    ∃ t, exec .identify { State.reset with pending := [.commit] } = .next t ∧ t.pending = [.commit] :=
  ⟨by decide, ⟨_, rfl⟩, _, rfl, rfl⟩

theorem witness_QuietDuringResets :
    (∃ t, ({ State.reset with pins := { por := true, prst := false } } : State).pins.por = true ∧
      exec .portResetAssert { State.reset with pins := { por := true, prst := false } } = .next t ∧
      Instr.portResetAssert ≠ .powerOnReset ∧ Instr.portResetAssert ≠ .powerOnResetRelease) ∧
    ({ State.reset with pins := { por := false, prst := true } } : State).pins.prst = true :=
  ⟨⟨_, rfl, rfl, nofun, nofun⟩, rfl⟩

/-- A round-mode engine in WAITING_GAP with the job of an INTACT region, its starvation timer running. -/
def waiting : State :=
  startStarvation (scanning .waitingGap (some (job .verifyRound)) (checkedIn (.intact 5)))

/-- An engine reading the first chunk of that job. -/
def reading (beats : List (BitVec 64 × RespStatus) := []) : State :=
  scanning (.reading (chunkRead beats)) (some (job .verifyRound)) (checkedIn (.intact 5))

theorem witness_PortResets :
    let held := fun s : State => { s with pins := { por := false, prst := true } }
    let drainingWrites := checkedIn (.signing (.drainingWrites 2))
    (PinsReleased (draining (reading [])) ∧ EngineLegal (draining (reading [])).scan ∧
      (draining (reading [])).commit.draining = some (drainOf (reading []))) ∧
    (PinsReleased waiting ∧ EngineLegal waiting.scan ∧ waiting.commit.draining = none) ∧
    (PinsReleased drainingWrites ∧ EngineLegal drainingWrites.scan) ∧
    ((held waiting).pins.por = false ∧ (held waiting).pins.prst = true ∧ (held waiting).scan.engine = .waitingGap) ∧
    ((held State.reset).pins.por = false ∧ (held State.reset).pins.prst = true ∧
      (held State.reset).scan.engine ≠ .waitingGap) := by
  unfold EngineLegal
  decide +kernel

/-- Every property that the steps keep, at once. -/
def Sound (s : State) : Prop :=
  PendingAgrees s.table ∧ TableLegal s ∧ DirtyLegal s.dirty ∧ LogLegal s.events ∧ TimingLegal s.mgmt.timing ∧
  TrackerLegal s.tracker ∧ LifeLegal s ∧ EngineLegal s.scan ∧ JobsLegal s ∧ StreamsLegal s ∧ ForwarderLegal s ∧
  WritesCounted s ∧ ChannelLegal s

/-- A tracked write in flight into a region that drains writes, its completion kept presented, and behind it two reads of another
stream, the first answered locally. -/
def busy : State :=
  let w := { txn .write .forwarded with strobes := [0xFF], tracked := true }
  let s := holdingTxns [w, txn .read (.localAnswer .malformed .err) 2 1, txn .read .waitingForward 1 2]
    (checkedIn (.signing (.drainingWrites 1)))
  { s with
    pending := [.memoryResponseItemPass ⟨.writeDone 5 .ok, true⟩]
    tracker := { s.tracker with hostChan := some 0, lastSource := .memory, eligible := [[1]] }
    fwd := { s.fwd with queue := [2], head := some (.writeDone 5 .ok) }
    dirty := { s.dirty with inFlight := 1 } }

theorem witness_invariants : Sound busy ∧ ∃ t, step busy = .next t ∧ t.tracker.txns.map Txn.tag = [1, 2] ∧
    t.tracker.localTurn = true ∧ t.dirty.inFlight = 0 ∧ t.sig.life.get 2 = some (.signing .queued) := by
  refine ⟨⟨?_, ⟨?_, nofun⟩, ?_, ?_, ?_, ?_, ?_, ?_, ?_, ?_, ?_, ?_, ?_⟩, stepped busy (step busy), rfl, by decide +kernel⟩
  · unfold PendingAgrees; decide +kernel
  · unfold NoOverlap; decide +kernel
  · unfold DirtyLegal; decide +kernel
  · unfold LogLegal; decide +kernel
  · unfold TimingLegal; decide +kernel
  · unfold TrackerLegal; decide +kernel
  · unfold LifeLegal; decide +kernel
  · unfold EngineLegal; decide +kernel
  · refine ⟨by decide +kernel, by decide +kernel, by decide +kernel, nofun, by decide +kernel⟩
  · unfold StreamsLegal; decide +kernel
  · refine ⟨by decide +kernel, by decide +kernel, by decide +kernel, by decide +kernel, by decide +kernel, by decide +kernel,
      nofun, nofun⟩
  · refine ⟨by decide +kernel, ?_⟩
    have all : ∀ i : Ix, busy.sig.life.get i = if i = 2 then some (.signing (.drainingWrites 1)) else none := by decide +kernel
    intro i n h
    by_cases hi : i = 2
    · subst hi
      rw [all] at h
      cases h
      decide +kernel
    · rw [all, if_neg hi] at h
      cases h
  · refine ⟨by decide +kernel, by decide +kernel, by decide +kernel, by decide +kernel, ?_, ?_, by decide +kernel, nofun, ?_,
      by decide +kernel⟩
    · rintro tag ⟨⟩
      exact ⟨_, List.mem_cons_self, by decide +kernel, by decide +kernel, .inl (by decide +kernel)⟩
    · intro x hx
      refine ⟨(by decide +kernel : ∀ x ∈ busy.tracker.txns, x.delivered < responseItems x.req) x hx, ?_⟩
      rintro (h | ⟨v, st, h⟩)
      · exact absurd h ((by decide +kernel : ∀ x ∈ busy.tracker.txns, ¬0 < x.delivered) x hx)
      · exact absurd h ((by
          have : ∀ x ∈ busy.tracker.txns, x.phase = .forwarded ∨ x.phase = .localAnswer .malformed .err ∨
            x.phase = .waitingForward := by decide +kernel
          rcases this x hx with e | e | e <;> simp [e]))
    · rintro item ⟨⟩
      decide +kernel

theorem witness_FrameRoundTrip : encodeFrame (.setTiming 100 64 2000 100 1000) =
    some [0x02, 100, 0, 64, 0, 0xD0, 0x07, 100, 0, 0xE8, 0x03, 0xE2] := by decide +kernel

theorem witness_EntryRoundTrip :
    (∀ p ∈ [((#v[0x0E, 0, 0, 0, 0, 1, 0, 0, 0, 0, 0, 0, 0, 0, 0, 0] : RawEntry), 1), (#v[1, 0, 0, 0, 0, 0, 0, 0, 0, 0, 0, 0, 0, 0, 0, 0], 2),
        (#v[1, 0, 0xFF, 0xFF, 0xFF, 2, 0, 0, 0, 0, 0, 0, 0, 0, 0, 0], 3),
        (#v[5, 0, 0, 0, 0, 1, 0, 0, 0, 0, 0, 0, 0, 1, 0, 0], 4), (#v[5, 0, 0, 0, 0, 1, 0, 0, 9, 0, 0, 0, 8, 0, 0, 0], 5),
        (#v[7, 2, 0, 0, 0, 15, 0, 0, 0, 0, 0, 0, 0, 0, 0, 0], 6)], fieldChecks p.1 = .error p.2) ∧
    (∃ raw w, fieldChecks raw = .ok (region 256 4 (.watch w)) ∧ w.high = 32) ∧
    (∃ raw, fieldChecks raw = .ok (region 256 1048576 (.track .k4))) :=
  ⟨by decide +kernel, ⟨#v[5, 4, 0, 1, 0, 4, 0, 0, 16, 0, 0, 0, 32, 0, 0, 0], window .refuse, by rfl, rfl⟩,
    ⟨#v[7, 2, 0, 1, 0, 0, 0, 16, 0, 0, 0, 0, 0, 0, 0, 0], by rfl⟩⟩

/-- A table of as many forwarded reads. -/
def readsTo (n : Nat) : List Txn := (List.range n).map fun k => txn .read .forwarded 1 k

theorem witness_RequestsAndBeatsCollected :
    let s := State.reset
    let full := holdingTxns (readsTo 16)
    let slots := holdingTxns ((List.range 4).map fun k => collecting 2 k)
    let r : Request := { dir := .write, id := 15, addr := 0xFFFFFFF8, beats := 16 }
    let u := holdingTxns [txn .read .forwarded, collecting 2 1]
    (PinsReleased s ∧ r.beatsLegal = true ∧ s.tracker.txns.length < 16 ∧ slotsUsed s.tracker.txns < 4 ∧ r.dir = .write) ∧
    (PinsReleased full ∧ 16 ≤ full.tracker.txns.length) ∧
    (PinsReleased slots ∧ r.dir = .write ∧ 4 ≤ slotsUsed slots.tracker.txns) ∧
    (PinsReleased u ∧ Stands u [txn .read .forwarded] (collecting 2 1) [] ∧ (collecting 2 1).phase = .collecting ∧
      (∀ y ∈ [txn .read .forwarded], y.phase ≠ .collecting) ∧
      (collecting 2 1).beatsHeld.length + 1 < (collecting 2 1).req.beats) ∧
    ∀ y ∈ s.tracker.txns, y.phase ≠ .collecting := by decide +kernel

/-- A read outside the drain range of `drainOf`. -/
def readElsewhere : Request := { dir := .read, id := 5, addr := 0x2000, beats := 1 }

/-- The hypotheses on a commit that drains under which a verdict is reached at once. -/
def JudgedAtOnce (s : State) (before : List Txn) (r : Request) : Prop :=
  ∀ d, s.commit.draining = some d →
    (∀ y ∈ before, y.req.dir = r.dir → y.req.id = r.id → y.isHeld = false) ∧
    (requestWellFormed r = true → d.meetsBurst r = false)

/-- A drain under way does not hold a transaction outside its ranges, nor a malformed one inside them. -/
theorem witness_JudgedAtOnce :
    JudgedAtOnce draining [] readElsewhere ∧ readElsewhere.beatsLegal = true ∧ requestWellFormed readElsewhere = true ∧
    JudgedAtOnce draining [] { readElsewhere with addr := 0x1004 } ∧
    JudgedAtOnce draining [txn .write (.held .range)] readElsewhere := by
  refine ⟨?_, rfl, by decide, ?_, ?_⟩ <;> rintro d ⟨⟩ <;> decide +kernel

/-- A read of 16 beats from the last byte quarter of region 2's granule on. -/
def readAcross : Request := { dir := .read, id := 0, addr := 0x10C0, beats := 16 }

theorem witness_ReadVerdicts :
    let s := checkedIn (.corrupt 1)
    let bad : Request := { dir := .read, id := 0, addr := 0x1FF8, beats := 2 }
    let open' := checkedIn .opened
    (PinsReleased s ∧ bad.beatsLegal = true ∧ bad.dir = .read ∧ s.tracker.txns.length < 16 ∧ s.commit.draining = none ∧
      requestWellFormed bad = false) ∧
    (readAcross.beatsLegal = true ∧ readAcross.dir = .read ∧ requestWellFormed readAcross = true ∧
      MeetsRegion s readAcross 2 ∧ RefusesReads s 2 ∧ ∀ j, MeetsRegion s readAcross j → RefusesReads s j → 2 ≤ j) ∧
    (PinsReleased open' ∧ open'.commit.draining = none ∧ ∀ i, MeetsRegion open' readAcross i → ¬RefusesReads open' i) := by
  have others : ∀ j : Ix, j ≠ 2 → (checkedIn (.corrupt 1)).sig.life.get j = none := by decide +kernel
  refine ⟨by decide +kernel, ⟨by decide +kernel, rfl, by decide +kernel, ⟨0x10C0, ?_, by decide +kernel⟩,
    ⟨by decide +kernel, 1, by decide +kernel⟩, ?_⟩, by decide +kernel, by decide +kernel, ?_⟩
  · unfold InBurst; decide +kernel
  · rintro j - ⟨-, ref, h⟩
    by_cases hj : j = 2
    · exact hj ▸ le_refl _
    · rw [others j hj] at h; cases h
  · rintro i - ⟨-, ref, h⟩
    have all : ∀ j : Ix, (checkedIn .opened).sig.life.get j ≠ some (.corrupt ref) := by
      intro j
      have : ∀ k : Ix, (checkedIn .opened).sig.life.get k = none ∨ (checkedIn .opened).sig.life.get k = some .opened := by
        decide +kernel
      rcases this j with e | e <;> simp [e]
    exact all i h

theorem witness_HeldWhileDraining :
    let s := draining State.reset
    let r := (txn .read .judging).req
    let behind := draining (holdingTxns [txn .read (.held .range)])
    let w := draining (holdingTxns [collecting])
    let v := draining (holdingTxns [txn .write (.held .range), collecting 1 1])
    let d := drainOf State.reset
    (PinsReleased s ∧ s.commit.draining = some d ∧ r.beatsLegal = true ∧ r.dir = .read ∧ s.tracker.txns.length < 16 ∧
      (∀ y ∈ s.tracker.txns, y.req.dir = r.dir → y.req.id = r.id → y.isHeld = false) ∧ requestWellFormed r = true ∧
      d.meetsBurst r = true) ∧
    (PinsReleased behind ∧ behind.commit.draining = some d ∧ behind.tracker.txns.length < 16 ∧
      ∃ y ∈ behind.tracker.txns, y.req.dir = r.dir ∧ y.req.id = r.id ∧ y.isHeld = true) ∧
    (PinsReleased w ∧ w.commit.draining = some d ∧ Stands w [] collecting [] ∧ collecting.phase = .collecting ∧
      collecting.beatsHeld.length + 1 = collecting.req.beats ∧ requestWellFormed collecting.req = true ∧
      d.meetsBurst collecting.req = true) ∧
    (v.commit.draining = some d ∧ Stands v [txn .write (.held .range)] (collecting 1 1) [] ∧
      (∀ y ∈ [txn .write (.held .range)], y.phase ≠ .collecting) ∧
      ∃ y ∈ [txn .write (.held .range)], y.req.dir = .write ∧ y.req.id = (collecting 1 1).req.id ∧ y.isHeld = true) := by
  decide +kernel

theorem witness_WriteBeatsCollected :
    let s := holdingTxns [txn .read .forwarded, collecting 2 1]
    (PinsReleased s ∧ Stands s [txn .read .forwarded] (collecting 2 1) [] ∧ (collecting 2 1).phase = .collecting ∧
      (∀ y ∈ [txn .read .forwarded], y.phase ≠ .collecting) ∧
      (collecting 2 1).beatsHeld.length + 1 < (collecting 2 1).req.beats) ∧
    (PinsReleased State.reset ∧ ∀ y ∈ State.reset.tracker.txns, y.phase ≠ .collecting) := by decide +kernel

theorem witness_WriteVerdicts :
    let x := fifteen 0x82C0 fun _ => 0xFF
    let s := holdingTxns [x] mapped
    let y := fifteen 0x81C0 fun k => if k < 8 then 0xFF else 0
    let t := holdingTxns [y] mapped
    let z := fifteen 0x8FC0 fun _ => 0xFF
    (PinsReleased s ∧ s.commit.draining = none ∧ Stands s [] x [] ∧ x.phase = .collecting ∧ x.req.dir = .write ∧
      x.beatsHeld.length + 1 = x.req.beats ∧ requestWellFormed x.req = true ∧
      causeSet s x.req (x.beatsHeld ++ [beat 0]) = [(9, .guard), (11, .checked)]) ∧
    (PinsReleased t ∧ t.commit.draining = none ∧ Stands t [] y [] ∧ y.beatsHeld.length + 1 = y.req.beats ∧
      requestWellFormed y.req = true ∧ causeSet t y.req (y.beatsHeld ++ [{ data := 0, strobes := 0 }]) = []) ∧
    (Stands (holdingTxns [z]) [] z [] ∧ z.beatsHeld.length + 1 = z.req.beats ∧ requestWellFormed z.req = false) := by
  decide +kernel

theorem witness_CausesOfRefusal :
    let r : Request := { dir := .write, id := 2, addr := 0x82C0, beats := 16 }
    r.beatsLegal = true ∧ requestWellFormed r = true ∧
    causeSet mapped r (List.replicate 16 (beat 0)) = [(9, .guard), (11, .checked)] ∧
    causeSet (holding 3 (region 0x82 1 (.watch (window .refuse)))) r (List.replicate 16 (beat 0)) = [(3, .window)] := by
  decide +kernel

theorem witness_WindowFindings :
    let r : Request := { dir := .write, id := 2, addr := 0x82C0, beats := 16 }
    let beats := List.replicate 16 (beat 0)
    let s := holding 3 (region 0x82 1 (.watch (window .refuse)))
    let p : Piece := { first := 0x82C0, last := 0x82FF, region := some 3 }
    r.beatsLegal = true ∧ requestWellFormed r = true ∧ p ∈ requestPieces s r ∧
    (firstViolation (window .refuse) r beats p).map (fun f => (f.addr, f.value, f.reason)) = some (0x82C0, 0, .below) ∧
    firstViolation (window .refuse) r (List.replicate 16 (beat 0x1010101010101010)) p = none ∧
    (findings s r beats).map (fun f => f.1) = [3] ∧ causeSet s r beats = [(3, .window)] ∧
    causeSet (setLife (holding 4 (region 0x83 1 (.checked false)) s) 4 (some .blank)) r beats =
      [(3, .window), (4, .checked)] := by
  decide +kernel

theorem witness_ShieldedBytesAreNeverForwarded :
    let held := holdingTxns [fifteen 0x81C0 fun k => if k < 8 then 0xFF else 0] mapped
    let s := { held with pending := [Instr.hostWriteBeat ⟨{ data := 0, strobes := 0 }, []⟩] }
    let t := stepped s (step s)
    TrackerLegal s.tracker ∧ step s = .next t ∧
    (∃ y ∈ t.tracker.txns, y.req.dir = .write ∧ y.phase = .waitingForward ∧
      (∀ x ∈ s.tracker.txns, x.tag = y.tag → x.phase ≠ .waitingForward) ∧ StrobedByte y.req y.strobes 0x81FF) := by
  refine ⟨?_, rfl, by decide +kernel⟩
  unfold TrackerLegal
  decide +kernel

/-- A read whose local answer is eligible, the channel given to it or not. -/
def refusedRead (given : Bool) : State :=
  let s := holdingTxns [txn .read (.localAnswer .malformed .err) 2]
  { s with tracker := { s.tracker with localTurn := given, eligible := [[0]] } }

/-- A forwarded read whose item the memory keeps presented, and a write answered locally. -/
def bothCandidates (eligible : List (List Nat)) (last : Source) : State :=
  let s := holdingTxns [txn .read .forwarded, txn .write (.localAnswer .malformed .err) 1 1]
  { s with
    tracker := { s.tracker with eligible := eligible, lastSource := last }
    fwd := { s.fwd with head := some (.readBeat 5 7 .ok) } }

theorem witness_HostChannelIsGiven :
    let x := txn .read .forwarded
    let tags := fun s : State => (s.tracker.txns.map Txn.tag).Nodup
    let free := fun s : State => s.tracker.hostChan = none ∧ s.tracker.localTurn = false
    (∀ eligible ∈ [[], [[1]]], ∀ last ∈ [Source.memory, .localAnswer],
      let s := bothCandidates eligible last
      tags s ∧ free s ∧ s.tracker.txns = [] ++ x :: [txn .write (.localAnswer .malformed .err) 1 1] ∧ NoneOfStream [] x ∧
      x.phase = .forwarded ∧ s.fwd.head = some (.readBeat 5 7 .ok) ∧ itemDir (.readBeat 5 7 .ok) = x.req.dir ∧
      (MemItem.readBeat 5 7 .ok).id = x.req.id.setWidth 5 ∧ s.pins.prst = false) ∧
    (tags (refusedRead true) ∧ ¬free (refusedRead true)) ∧
    (free (refusedRead false) ∧ (refusedRead false).tracker.eligible ≠ [] ∧ (refusedRead false).fwd.head = none) ∧
    (free State.reset ∧ State.reset.tracker.eligible = [] ∧ State.reset.fwd.head = none) := by decide +kernel

/-- A read of two beats whose local answer has the channel, with as many items taken. -/
def returningRead (taken : Nat) : Txn := { txn .read (.returning .malformed .err) 2 with delivered := taken }

theorem witness_LocalAnswers :
    let channel := fun taken : Nat =>
      let s := holdingTxns [returningRead taken]
      ({ s with tracker := { s.tracker with hostChan := some 0 } } : State)
    let x := txn .read (.localAnswer .malformed .err) 2
    let y := txn .read .forwarded
    let memory := holdingTxns [y]
    (PinsReleased (refusedRead true) ∧ Stands (refusedRead true) [] x [] ∧ NoneOfStream [] x ∧
      (refusedRead true).tracker.hostChan = none ∧ (refusedRead true).tracker.localTurn = true ∧
      (refusedRead true).tracker.eligible = [[0]] ∧ x.tag ∈ [0]) ∧
    (PinsReleased (refusedRead false) ∧ Stands (refusedRead false) [] x [] ∧
      ¬(refusedRead false).tracker.localTurn = true) ∧
    (PinsReleased (channel 0) ∧ Stands (channel 0) [] (returningRead 0) [] ∧ (channel 0).tracker.hostChan = some 0 ∧
      (returningRead 0).delivered + 1 < 2) ∧
    (Stands (channel 1) [] (returningRead 1) [] ∧ 2 ≤ (returningRead 1).delivered + 1) ∧
    (PinsReleased memory ∧ Stands memory [] y [] ∧ y.phase = .forwarded ∧ memory.tracker.hostChan = none ∧
      ∀ z ∈ memory.tracker.txns, ¬(z.req.dir = .write ∧ z.req.id = 5)) := by decide +kernel

/-- The waiting engine with its gap met. -/
def gapMetState : State := { waiting with fwd := { waiting.fwd with idleGap := some { hold := 64, count := 64 } } }

/-- The waiting engine with a forced claim. -/
def forced : State := { waiting with scan := { waiting.scan with forced := true } }

/-- A state with a read waiting to be forwarded. -/
def queued : State := enqueue (holdingTxns [txn .read .waitingForward]) 0

theorem witness_ClaimsGrantedOrKeptWaiting :
    (PinsReleased queued ∧ queued.fwd.queue = [0] ∧ queued.fwd.memReq = none ∧ (∀ r, queued.scan.engine ≠ .reading r) ∧
      queued.scan.forced = false) ∧
    (PinsReleased gapMetState ∧ gapMetState.scan.context = some (job .verifyRound) ∧
      gapMetState.scan.engine = .waitingGap ∧ withheld gapMetState = false ∧ gapMetState.scan.forced = false ∧
      gapMetState.fwd.memReq = none ∧ gapMetState.fwd.idleGap = some { hold := 64, count := 64 }) ∧
    (PinsReleased forced ∧ forced.scan.context = some (job .verifyRound) ∧ forced.scan.engine = .waitingGap ∧
      forced.scan.forced = true ∧ forced.fwd.memReq = none ∧ ∀ x ∈ forced.tracker.txns, x.phase ≠ .forwarded) ∧
    ({ queued with fwd := { queued.fwd with memReq := some (.host 0) } } : State).fwd.memReq ≠ none ∧
    (∃ r, (reading []).scan.engine = .reading r) ∧
    (∃ x ∈ (holdingTxns [txn .read .forwarded] forced).tracker.txns, x.phase = .forwarded) ∧
    State.reset.fwd.queue = [] ∧ waiting.fwd.idleGap = none ∧ withheld (draining waiting) = true ∧
    ({ waiting with fwd := { waiting.fwd with idleGap := some { hold := 64, count := 63 } } } : State).fwd.idleGap =
      some { hold := 64, count := 63 } ∧
    ((scanning .off (some (job .sign)) gapMetState).scan.engine ≠ .waitingGap ∧
      (scanning .off (some (job .sign)) gapMetState).scan.context ≠ none) := by
  refine ⟨⟨by decide +kernel, rfl, rfl, nofun, rfl⟩, by decide +kernel, by decide +kernel, nofun, ⟨_, rfl⟩, by decide +kernel,
    rfl, by decide +kernel, by decide +kernel, rfl, nofun, nofun⟩

/-- A forwarded write of two beats with as many sent. -/
def sendingWrite (sent : Nat) : Txn :=
  { txn .write .forwarded 2 with slot := some { state := .sending sent, beats := [beat 1, beat 2] } }

theorem witness_MemoryTakes :
    let host := { queued with fwd := { queued.fwd with memReq := some (.host 0) } }
    let chunk := { waiting with fwd := { waiting.fwd with memReq := some (.chunk 0x1000) } }
    let sends := fun sent : Nat =>
      let s := holdingTxns [sendingWrite sent]
      ({ s with fwd := { s.fwd with sending := [0] } } : State)
    (PinsReleased host ∧ Stands host [] (txn .read .waitingForward) [] ∧ host.fwd.memReq = some (.host 0)) ∧
    (PinsReleased chunk ∧ chunk.fwd.memReq = some (.chunk 0x1000)) ∧
    (PinsReleased (sends 0) ∧ Stands (sends 0) [] (sendingWrite 0) [] ∧ (sends 0).fwd.sending = [0] ∧ 0 + 1 < 2) ∧
    (Stands (sends 1) [] (sendingWrite 1) [] ∧ (sends 1).fwd.sending = [0] ∧ (0 : Nat) ∉ ([] : List Nat)) := by decide +kernel

theorem witness_MemoryItemsPass :
    let r := { txn .read .forwarded 2 with delivered := 1 }
    let w := { txn .write .forwarded with strobes := [0xFF], tracked := true }
    let s := holdingTxns [txn .read .forwarded 2]
    let t := holdingTxns [r]
    let own : State := { t with tracker := { t.tracker with hostChan := some 0, eligible := [[3]] } }
    let turn : State := { t with tracker := { t.tracker with eligible := [[3]], lastSource := .localAnswer } }
    let kept : State := { s with fwd := { s.fwd with head := some (.readBeat 5 7 .err) } }
    let u := holdingTxns [w] (checkedIn (.signing (.drainingWrites 1)))
    (PinsReleased s ∧ Stands s [] (txn .read .forwarded 2) [] ∧ NoneOfStream [] (txn .read .forwarded 2) ∧
      (txn .read .forwarded 2).slot = none ∧
      itemDir (.readBeat 5 7 .err) = .read ∧ (MemItem.readBeat 5 7 .err).id = (5 : HostId).setWidth 5 ∧
      s.fwd.head = none ∧ s.tracker.hostChan = none ∧ s.tracker.localTurn = false ∧ s.tracker.eligible = [] ∧
      0 + 1 < (txn .read .forwarded 2).req.beats) ∧
    (Stands kept [] (txn .read .forwarded 2) [] ∧ kept.fwd.head = some (.readBeat 5 7 .err)) ∧
    (PinsReleased own ∧ Stands own [] r [] ∧ own.tracker.hostChan = some r.tag ∧ r.req.beats ≤ r.delivered + 1) ∧
    (PinsReleased turn ∧ Stands turn [] r [] ∧ turn.tracker.hostChan = none ∧ turn.tracker.localTurn = false ∧
      turn.tracker.lastSource = .localAnswer) ∧
    (PinsReleased u ∧ Stands u [] w [] ∧ w.slot = none ∧ u.tracker.eligible = [] ∧ w.delivered + 1 = 1 ∧
      w.isInto (u.table.active.get 2) = true ∧ u.sig.life.get 2 = some (.signing (.drainingWrites 1))) := by decide +kernel

theorem witness_ItemsDiscardedOrKeptWaiting :
    let s := State.reset
    let p : State := { s with pins := { por := false, prst := true } }
    let sends := holdingTxns [sendingWrite 0]
    let behind := holdingTxns [txn .write (.localAnswer .malformed .err) 1 1, txn .write .forwarded]
    let one := holdingTxns [txn .write .forwarded]
    let taken : State := { one with tracker := { one.tracker with hostChan := some 9 } }
    let turn : State := { one with tracker := { one.tracker with localTurn := true, eligible := [[9]] } }
    let next : State := { one with tracker := { one.tracker with eligible := [[9]], lastSource := .memory } }
    let kept : State := { one with fwd := { one.fwd with head := some (.writeDone 5 .ok) } }
    (s.pins.por = false ∧ s.fwd.head = none ∧ 17 ≤ (MemItem.writeDone 17 .ok).id.toNat) ∧
    (itemDir (.writeDone 16 .ok) = .write ∧ itemDir (.readBeat 16 0 .ok) = .read ∧ ∀ r, s.scan.engine ≠ .reading r) ∧
    ((MemItem.writeDone 15 .ok).id.toNat < 16 ∧ ∀ x ∈ s.tracker.txns, x.phase ≠ .forwarded) ∧
    (p.pins.por = false ∧ p.pins.prst = true ∧ p.fwd.head = none) ∧
    (PinsReleased sends ∧ Stands sends [] (sendingWrite 0) [] ∧ (sendingWrite 0).phase = .forwarded ∧
      (MemItem.writeDone 5 .ok).id = (sendingWrite 0).req.id.setWidth 5 ∧ (sendingWrite 0).slot ≠ none) ∧
    (Stands behind [txn .write (.localAnswer .malformed .err) 1 1] (txn .write .forwarded) [] ∧
      behind.tracker.hostChan = none ∧
      ¬NoneOfStream [txn .write (.localAnswer .malformed .err) 1 1] (txn .write .forwarded) ∧
      ∀ y ∈ [txn .write (.localAnswer .malformed .err) 1 1], y.phase ≠ .forwarded) ∧
    (Stands taken [] (txn .write .forwarded) [] ∧ taken.tracker.hostChan = some 9 ∧ 9 ≠ (txn .write .forwarded).tag) ∧
    (turn.tracker.hostChan = none ∧ turn.tracker.localTurn = true) ∧
    (next.tracker.hostChan = none ∧ next.tracker.eligible ≠ [] ∧ next.tracker.lastSource = .memory) ∧
    (kept.fwd.head = some (.writeDone 5 .ok) ∧ MemItem.writeDone 5 .ok ≠ .readBeat 5 0 .ok) := by
  refine ⟨by decide +kernel, ⟨rfl, rfl, nofun⟩, by decide +kernel, by decide +kernel, by decide +kernel, by decide +kernel,
    by decide +kernel, by decide +kernel, by decide +kernel, by decide +kernel⟩

/-- An outstanding chunk read of a job at a cursor, its first three beats returned, off pending or not. -/
def returning (off : Bool) (kind : JobKind) (cursor : Nat) (life : Life) : State :=
  scanning (.reading { chunkRead threeBeats with offPending := off }) (some (job kind cursor)) (checkedIn life)

theorem witness_ChunksReturnAndAreFolded :
    (∀ off : Bool,
      let s := returning off .verifyRound 192 (.intact 5)
      let r := { chunkRead threeBeats with offPending := off }
      s.pins.por = false ∧ s.fwd.head = none ∧ s.scan.engine = .reading r ∧ s.scan.context = some (job .verifyRound 192) ∧
      r.disposition = .apply ∧ r.beats = threeBeats ∧
      (job .verifyRound 192).cursor + 32 ≠ 256 * (s.table.active.get 2).size.toNat ∧ r.offPending = off) ∧
    ((reading []).pins.por = false ∧ (reading []).fwd.head = none ∧ (reading []).scan.engine = .reading (chunkRead []) ∧
      (chunkRead []).beats.length < 3) ∧
    ((scanning (.reading (chunkRead threeBeats .discard)) none).scan.engine = .reading (chunkRead threeBeats .discard) ∧
      (chunkRead threeBeats .discard).beats.length = 3 ∧ (chunkRead threeBeats .discard).disposition = .discard) := by
  decide +kernel

theorem witness_JobsEnd :
    let more := fun (s : State) => ({ s with scan := { s.scan with
      queue := { s.scan.queue with demand := [3] } } } : State)
    let r := { chunkRead threeBeats with offPending := false }
    let sig := crc32Fold crc32Init (beatBytes 0 ++ beatBytes 0 ++ beatBytes 0 ++ beatBytes 0) ^^^ 0xFFFFFFFF#32
    let at' := fun (kind : JobKind) (life : Life) (s : State) =>
      s = returning false kind 224 life ∧ s.pins.por = false ∧ s.scan.engine = .reading r ∧
      s.scan.context = some (job kind 224) ∧ r.disposition = .apply ∧
      s.fwd.head = none ∧ (job kind 224).cursor + 32 = 256 * (s.table.active.get 2).size.toNat ∧
      s.sig.life.get 2 = some life
    at' .sign (.signing .active) (returning false .sign 224 (.signing .active)) ∧
    at' .verifyDemand (.intact sig) (returning false .verifyDemand 224 (.intact sig)) ∧
    (at' .verifyRound (.intact 5) (returning false .verifyRound 224 (.intact 5)) ∧ sig ≠ 5) ∧
    at' .verifyDemand (.corrupt 5) (returning false .verifyDemand 224 (.corrupt 5)) ∧
    ((more (returning false .sign 224 (.signing .active))).scan.engine = .reading r ∧
      (more (returning false .sign 224 (.signing .active))).scan.queue.jobs = [(3, .verifyDemand)]) := by decide +kernel

theorem witness_ReadErrorsRetryThenHalt : ∀ off : Bool, ∀ streak ∈ [1, 2],
    let t := returning off .sign 32 (.signing .active)
    let s := { t with scan := { t.scan with streak := streak } }
    let r := { chunkRead threeBeats with offPending := off }
    s.pins.por = false ∧ s.fwd.head = none ∧ s.scan.engine = .reading r ∧ s.scan.context = some (job .sign 32) ∧
    r.disposition = .apply ∧
    r.beats.length = 3 ∧ s.scan.streak = streak ∧ r.offPending = off := by decide +kernel

/-- An engine with queued jobs of region 2. -/
def queuedJobs (engine : EngineState) (q : ScanQueue) (life : Life) : State :=
  let s := scanning engine none (checkedIn life)
  { s with scan := { s.scan with queue := q } }

theorem witness_IdleEngineTakesTheHead :
    let sign := queuedJobs .idle { sign := [2], demand := [], round := [] } (.signing .queued)
    let demand := queuedJobs .idle { sign := [], demand := [2], round := [] } (.intact 5)
    let round := queuedJobs .idle { sign := [], demand := [], round := [2] } (.intact 5)
    (sign.pins.por = false ∧ sign.scan.engine = .idle ∧ sign.scan.queue.sign = [2] ∧
      sign.sig.life.get 2 = some (.signing .queued)) ∧
    (demand.scan.engine = .idle ∧ demand.scan.queue.sign = [] ∧ demand.scan.queue.demand = [2]) ∧
    (round.scan.engine = .idle ∧ round.scan.queue.sign = [] ∧ round.scan.queue.demand = [] ∧
      round.scan.queue.round = [2]) ∧
    ((scanning .idle none).scan.engine = .idle ∧ (scanning .idle none).scan.queue.jobs = []) ∧
    State.reset.scan.engine ≠ .idle := by decide +kernel

theorem witness_JobsAreAbandoned :
    (∀ engine ∈ [EngineState.waitingGap, .halted, .off, .reading (chunkRead [])],
      let s := scanning engine (some (job .sign))
      s.scan.context = some (job .sign) ∧ (job .sign).region = 2 ∧ s.scan.engine = engine) ∧
    (∀ c, State.reset.scan.context = some c → c.region ≠ 2) ∧
    (∀ c, (scanning .halted (some (job .sign))).scan.context = some c → c.region ≠ 3) := by
  refine ⟨by decide +kernel, nofun, ?_⟩
  rintro c ⟨⟩
  decide

theorem witness_TimersExpire :
    let jobs := fun s : State => allIx.filter fun i => (s.scan.queue.jobOf i).isNone &&
      (match s.sig.life.get i with
        | some (.intact _) => true
        | _ => false)
    let due := fun s : State => s.pins.por = false ∧ s.scan.engine = .idle ∧
      s.scan.roundTimer = some { limit := 100000000, elapsed := 100000000, mhz := 100 }
    (due (roundIsDue (.intact 5)) ∧ jobs (roundIsDue (.intact 5)) ≠ []) ∧
    (due (roundIsDue (.corrupt 5)) ∧ jobs (roundIsDue (.corrupt 5)) = []) ∧
    (waiting.pins.por = false ∧ waiting.scan.starvation = some { limit := 200000, elapsed := 0, mhz := 100 }) ∧
    State.reset.scan.starvation = none ∧
    ((rounds (.intact 5)).scan.roundTimer = some { limit := 100000000, elapsed := 0, mhz := 100 } ∧
      jobs (rounds (.intact 5)) ≠ []) ∧
    ((rounds (.corrupt 5)).scan.roundTimer.isSome = true ∧ jobs (rounds (.corrupt 5)) = []) ∧
    State.reset.scan.roundTimer = none ∧
    State.reset.scan.engine ≠ .idle ∧
    (State.reset.pins.prst = false ∧ State.reset.fwd.queue = [] ∧
      (∀ x ∈ State.reset.tracker.txns, x.phase ≠ .forwarded) ∧ State.reset.fwd.idleGap = none) ∧
    gapMetState.fwd.idleGap = some { hold := 64, count := 64 } ∧
    queued.fwd.queue ≠ [] ∧ ∃ x ∈ (holdingTxns [txn .read .forwarded]).tracker.txns, x.phase = .forwarded := by decide +kernel

theorem witness_DrainsCutShort :
    ((draining waiting).pins.por = false ∧ (draining waiting).commit.draining = some (drainOf waiting) ∧
      withheld (draining waiting) = true) ∧
    (State.reset.pins.por = false ∧ State.reset.commit.draining = none) := by decide +kernel

theorem witness_DrainsComplete :
    let clear := fun s : State =>
      (∀ x ∈ s.tracker.txns, (x.phase = .waitingForward ∨ x.phase = .forwarded) → (drainOf s).meetsBurst x.req = false) ∧
      ∀ r, s.scan.engine = .reading r → (drainOf s).meetsChunk r.addr.toNat = false
    let one := draining (holdingTxns [txn .read .forwarded])
    ((draining waiting).pins.por = false ∧ (draining waiting).commit.draining = some (drainOf (draining waiting)) ∧
      clear (draining waiting)) ∧
    (one.pins.por = false ∧ one.commit.draining = some (drainOf one) ∧ ¬clear one) := by
  refine ⟨⟨rfl, rfl, by decide +kernel, nofun⟩, rfl, rfl, ?_⟩
  rintro ⟨h, -⟩
  exact absurd (h (txn .read .forwarded) (List.mem_singleton.2 rfl) (.inr rfl)) (by decide +kernel)

/-- A write held during the drain, and behind it a read of its id. -/
def heldPair : List Txn :=
  [{ txn .write (.held .range) with slot := some { state := .full, beats := [beat 0] } }, txn .read (.held .stream) 1 1]

theorem witness_HeldAreReleased :
    let s := holdingTxns heldPair
    let x : Txn := { txn .write (.held .range) with slot := some { state := .full, beats := [beat 0] } }
    let judged := fun (r : Txn) => { r with phase := .judging }
    (s.tracker.txns = [] ++ x :: [txn .read (.held .stream) 1 1] ∧ x.isHeld = true ∧ x.req.beatsLegal = true) ∧
    (∀ y ∈ State.reset.tracker.txns, y.isHeld = false) ∧
    requestWellFormed { readElsewhere with addr := 0x1004 } = false ∧
    (requestWellFormed x.req = true ∧ x.req.dir = .write ∧ causeSet s x.req (judged x).beatsHeld = []) ∧
    causeSet (checkedIn .blank) x.req (judged x).beatsHeld = [(2, .checked)] ∧
    (∀ i, (checkedIn .blank).sig.life.get i = none ∨ (checkedIn .blank).sig.life.get i = some .blank) ∧
    (after .drainTimerExpiry (draining (holdingTxns heldPair (checkedIn (.corrupt 5))))).tracker.txns.map Txn.phase =
      [.localAnswer (.refuse 2) .err, .localAnswer (.refuse 2) .err] := by decide +kernel

theorem witness_WriteDrainsEnd :
    let done := fun (s : State) (i : Ix) => s.sig.life.get i = some (.signing (.drainingWrites 0))
    let one := checkedIn (.signing (.drainingWrites 0))
    let idle := scanning .idle none one
    (State.reset.pins.por = false ∧ ∀ i, ¬done State.reset i) ∧
    (one.pins.por = false ∧ one.scan.engine ≠ .idle ∧ ∃ i, done one i) ∧
    (idle.pins.por = false ∧ done idle 2 ∧ ∀ j, done idle j → j = 2) := by decide +kernel

/-! ## The supervisor's commands -/

/-- The bytes of an enabled GUARD entry of one granule at address 0x300. -/
def guardBytes : RawEntry := #v[1, 0, 3, 0, 0, 1, 0, 0, 0, 0, 0, 0, 0, 0, 0, 0]

theorem witness_StagingCommands :
    let quiesced := fun (s : State) (j : Ix) => ∃ d, s.commit.draining = some d ∧ d.quiesce.get j = true
    State.reset.pins.por = false ∧ 15 < (16 : Byte).toNat ∧ quiesced (draining) 2 ∧ ¬quiesced (draining) 3 ∧
    ¬quiesced State.reset 2 ∧ fieldChecks (guardBytes.set 5 0) = .error 2 ∧ fieldChecks guardBytes = .ok (region 3 1 .guard) ∧
    (∃ j, (maskSet 0x000C).get j = true ∧ quiesced draining j) ∧
    (∀ j, (maskSet 0x000C).get j = true → ¬quiesced State.reset j) := by
  refine ⟨rfl, by decide, ⟨drainOf State.reset, rfl, by decide +kernel⟩, ?_, nofun, rfl, rfl,
    ⟨2, by decide +kernel, drainOf State.reset, rfl, by decide +kernel⟩, nofun⟩
  rintro ⟨d, ⟨⟩, h⟩
  exact absurd h (by decide +kernel)

/-- The reset state with entries staged and pending. -/
def staging (entries : List (Ix × Entry)) : State :=
  entries.foldl (fun s p => { s with table := { s.table with
    staged := s.table.staged.set p.1 p.2, pendingSet := s.table.pendingSet.set p.1 true } }) State.reset

theorem witness_CommitCommand :
    let clash := fun (table : Tab Entry) (i : Ix) => ∃ j, j ≠ i ∧ overlaps (table.get i) (table.get j) = true
    let table := fun (s : State) (which : IxSet) => Tab.ofFn fun i =>
      if which.get i then s.table.staged.get i else s.table.active.get i
    let immediate := fun s : State => Tab.ofFn fun i => s.table.pendingSet.get i && !(s.table.staged.get i).quiesce
    let moved := { region 3 1 .guard with quiesce := true }
    let plain := staging [(4, region 3 1 .guard)]
    let both := staging [(4, region 3 2 .guard), (6, region 4 1 .guard)]
    let later := staging [(4, region 3 2 .guard), (6, { region 4 1 .guard with quiesce := true })]
    let drains := staging [(4, moved)]
    let busy := holdingTxns [{ txn .read .forwarded with req := { dir := .read, id := 0, addr := 0x300, beats := 1 } }] drains
    State.reset.pins.por = false ∧ (draining).commit.draining ≠ none ∧
    (State.reset.commit.draining = none ∧ ∀ i, State.reset.table.pendingSet.get i = false) ∧
    (clash (table both (immediate both)) 4 ∧ ∀ j, clash (table both (immediate both)) j → 4 ≤ j) ∧
    ((∀ j, ¬clash (table later (immediate later)) j) ∧ clash (table later later.table.pendingSet) 4 ∧
      ∀ j, clash (table later later.table.pendingSet) j → 4 ≤ j) ∧
    (plain.commit.draining = none ∧ (∃ i, plain.table.pendingSet.get i = true) ∧
      (∀ i, ¬clash (table plain (immediate plain)) i) ∧ (∀ i, ¬clash (table plain plain.table.pendingSet) i) ∧
      ∀ i, ((plain.table.pendingSet.get i) && (plain.table.staged.get i).quiesce) = false) ∧
    (∀ s ∈ [drains, busy], s.commit.draining = none ∧ (∀ x ∈ s.tracker.txns, x.isHeld = false) ∧ (∀ i, ¬clash (table s (immediate s)) i) ∧
      (∀ i, ¬clash (table s s.table.pendingSet) i) ∧ ((s.table.pendingSet.get 4) && (s.table.staged.get 4).quiesce) = true) ∧
    (after .commit drains).commit.outcome = .done ∧ (after .commit busy).commit.draining.isSome = true := by
  decide +kernel

theorem witness_SwitchEffects :
    let staged := fun s : State => { s with table := { s.table with staged := s.table.staged.set 2 (region 3 1 .guard) } }
    let changed := fun s : State => (noIx.set 2 true).get 2 && identityChange (s.table.active.get 2) (s.table.staged.get 2)
    (∀ c, State.reset.scan.context = some c → False) ∧
    (∀ e ∈ [EngineState.reading (chunkRead []), .waitingGap, .halted, .off],
      let s := staged (scanning e (some (job .sign)) (checkedIn (.signing .active)))
      s.scan.context = some (job .sign) ∧ (job .sign).region = 2 ∧ changed s = true ∧ s.scan.engine ≠ .idle) ∧
    (let s := scanning .halted (some (job .sign)) (checkedIn (.signing .active))
     s.scan.context = some (job .sign) ∧ changed s = false) := by
  refine ⟨nofun, ?_, by decide +kernel⟩
  intro e he
  simp only [List.mem_cons, List.not_mem_nil, or_false] at he
  rcases he with rfl | rfl | rfl | rfl <;> decide +kernel

theorem witness_OpenCommand :
    let s := checkedIn (.corrupt 5)
    s.pins.por = false ∧ (s.table.active.get 2).isChecked = true ∧ s.sig.life.get 2 = some (.corrupt 5) ∧
    Life.corrupt 5 ≠ .opened := by decide +kernel

theorem witness_CloseAndResign :
    let write := { txn .write .forwarded with strobes := [0x80] }
    let n := fun s : State => (s.tracker.txns.filter fun x => x.inFlight && x.isInto (s.table.active.get 2)).length
    (∀ life ∈ [Life.opened, .blank, .intact 5, .corrupt 5],
      (checkedIn life).pins.por = false ∧ ((checkedIn life).table.active.get 2).isChecked = true ∧
      (checkedIn life).sig.life.get 2 = some life ∧ n (checkedIn life) = 0) ∧
    0 < n (holdingTxns [write] (checkedIn .opened)) := by decide +kernel

theorem witness_VerifyAndRefusals :
    let demand := queuedJobs .halted { sign := [], demand := [2], round := [] } (.intact 5)
    let round := queuedJobs .halted { sign := [], demand := [], round := [2] } (.intact 5)
    State.reset.pins.por = false ∧ 15 < (0xFF : Byte).toNat ∧ (State.reset.table.active.get 2).isChecked = false ∧
    ((checkedIn .blank).table.active.get 2).isChecked = true ∧ (checkedIn .blank).sig.life.get 2 = some .blank ∧
    (waiting.scan.context = some (job .verifyRound) ∧ waiting.sig.life.get 2 = some (.intact 5)) ∧
    (demand.scan.context = none ∧ demand.scan.queue.jobOf 2 = some .verifyDemand ∧ demand.sig.life.get 2 = some (.intact 5)) ∧
    (round.scan.context = none ∧ round.scan.queue.jobOf 2 = some .verifyRound) ∧
    ((checkedIn (.corrupt 5)).scan.context = none ∧ (checkedIn (.corrupt 5)).scan.queue.jobOf 2 = none ∧
      (checkedIn (.corrupt 5)).sig.life.get 2 = some (.corrupt 5)) := by decide +kernel

theorem witness_IdentityAndUnitStatus : State.reset.pins.por = false := rfl

theorem witness_StatusReports :
    State.reset.pins.por = false ∧ 15 < (16 : Byte).toNat ∧ 1 < (2 : Byte).toNat ∧ State.reset.commit.draining = none ∧
    (draining).commit.draining = some (drainOf State.reset) := by decide +kernel

theorem witness_ScanControl :
    let streak := fun (n : Nat) =>
      let s := scanning .off (some (job .sign))
      ({ s with scan := { s.scan with streak := n } } : State)
    (State.reset.pins.por = false ∧ State.reset.scan.engine = .off ∧ State.reset.scan.context = none) ∧
    ((streak 2).scan.engine = .off ∧ (streak 2).scan.context.isSome = true ∧ (streak 2).scan.streak < 3) ∧
    3 ≤ (streak 3).scan.streak ∧ (reading []).scan.engine = .reading (chunkRead []) ∧
    (∀ e ∈ [EngineState.idle, .waitingGap, .halted], (scanning e none).scan.engine = e) ∧
    ((scanning .idle none).scan.queue.round = []) ∧ (scanning .halted (some (job .sign))).scan.engine = .halted ∧
    State.reset.scan.engine ≠ .halted := by decide +kernel

theorem witness_EventsAreTaken :
    let e : Event := malformedEvent (txn .read .judging).req
    let one := EventUnit.reset.take e
    let full := { EventUnit.reset with log := List.replicate 32 { seq := 0, event := e, repeats := 255, droppedBefore := 0 } }
    (one.log = [] ++ [{ seq := 0, event := e, repeats := 1, droppedBefore := 0 }] ∧ e.kind.code.toNat ≤ 5) ∧
    (EventUnit.reset.log = [] ∧ EventUnit.reset.log.length < 32) ∧
    (full.log.length = 32 ∧ full.log.getLast?.map (fun r => r.repeats.toNat) = some 255) := by decide +kernel

theorem witness_EventCommands :
    let s := raise State.reset (malformedEvent (txn .read .judging).req)
    State.reset.pins.por = false ∧ State.reset.events.log = [] ∧ s.events.log.length = 1 ∧
    64 ≤ (64 : Byte).toNat ∧ (63 : Byte).toNat < 64 := by decide +kernel

theorem witness_DirtyBlocksAndHandOff :
    let list := (List.range 64).map fun k => ({ region := 5, block := k } : DirtyEntry)
    let s := { State.reset with dirty := { State.reset.dirty with list := list } }
    let u := twoTracks
    let beats := List.replicate 16 (beat 0)
    let at' := fun addr : Addr => ({ dir := .write, id := 4, addr := addr, beats := 16 } : Request)
    let blocks := fun addr : Addr => (trackedBlocks u (at' addr) beats).map fun b => (b.1, b.2.2.2)
    (({ region := 5, block := 63 } : DirtyEntry) ∈ s.dirty.list ∧ ({ region := 5, block := 64 } : DirtyEntry) ∉ s.dirty.list ∧
      64 ≤ s.dirty.list.length ∧ s.dirty.overflow.get 5 = false ∧ (noIx.set 5 true).get 5 = true) ∧
    (({ region := 5, block := 0 } : DirtyEntry) ∉ State.reset.dirty.list ∧ State.reset.dirty.list.length < 64) ∧
    ((∀ i j, i ≠ j → overlaps (u.table.active.get i) (u.table.active.get j) = false) ∧
      ([0x1007C0, 0x1003C0, 0x100000, 0x300000].all fun a => (at' a).beatsLegal && requestWellFormed (at' a)) = true) ∧
    blocks 0x1007C0 = [(2, 1), (3, 0)] ∧ blocks 0x1003C0 = [(2, 0), (2, 1)] ∧ blocks 0x100000 = [(2, 0)] ∧
    blocks 0x300000 = [] := by
  decide +kernel

theorem witness_DirtyCommands :
    State.reset.pins.por = false ∧ (0 : Byte).toNat = 0 ∧ 8 < (9 : Byte).toNat ∧ 1 ≤ (8 : Byte).toNat ∧
    15 < (16 : Byte).toNat ∧ (15 : Byte) = BitVec.ofNat 8 (15 : Ix).val ∧ 64 < (65 : Byte).toNat ∧ (64 : Byte).toNat ≤ 64 := by
  decide

theorem witness_SoftClear :
    State.reset.pins.por = false ∧ (draining).commit.draining ≠ none ∧ State.reset.commit.draining = none := by decide +kernel

theorem witness_SetTiming :
    State.reset.pins.por = false ∧ (50 ≤ (400 : BitVec 16).toNat ∧ (400 : BitVec 16).toNat ≤ 400) ∧
    (1 ≤ (1023 : BitVec 16).toNat ∧ (1023 : BitVec 16).toNat ≤ 1023) ∧ ¬(1 ≤ (0 : BitVec 16).toNat) ∧
    100 ≤ (100 : BitVec 16).toNat ∧ (99 : BitVec 16).toNat < 100 ∧ (0 : BitVec 16).toNat = 0 := by decide

theorem witness_FramesWithoutCommand :
    let codes : List (Nat × Nat) := [(0x01, 0), (0x05, 2), (0x06, 0), (0x31, 0)]
    State.reset.pins.por = false ∧ (0x06 : Byte) ≠ 0 ∧ (∀ n, ((0x06 : Byte).toNat, n) ∈ codes → n = 0) ∧
    ((0x06 : Byte).toNat, 0) ∈ codes ∧ ([] : List Byte).length ≠ 0 + 1 ∧ [(0x13 : Byte)] = [] ++ [0x13] ∧
    (0x13 : Byte) ≠ crc8 [0x06] ∧ (∀ p ∈ codes, p.1 ≠ (0x32 : Byte).toNat) ∧
    ((0 : Byte).toNat = 0 ∧ 5 < (6 : Byte).toNat ∧ 5 < (0xFF : Byte).toNat) ∧ encodeFrame .commit = some [0x06, 0x12] := by
  refine ⟨rfl, by decide, ?_, by decide, by decide, rfl, by decide +kernel, by decide, by decide, by decide +kernel⟩
  intro n h
  simpa using h

end Sys2Proof.Tests
end

/-! How the Region Table and the quiesce set of a draining commit can change: all but eight commands leave them alone, and every
command changes them in one of the ways that `Reconfigured` lists. The two invariants of the staged configuration, an exact Pending
Set (R17) and tables free of overlap (R20, R25), are read off that list. -/

namespace Sys2Proof.Machine


/-! ## Commands that leave the configuration alone -/

/-- The commands that can change the Region Table or the Commit Unit. -/
def reconfigures : Instr → Bool
  | .powerOnReset | .portResetAssert | .drainTimerExpiry | .drainComplete | .stageEntry _ _ | .discard _ | .commit
  | .abortCommit => true
  | _ => false

/-- An outcome whose next state, if any, has the Region Table and the Commit Unit of the state before. -/
def KeepsConfig (s : State) (o : Host.Outcome State Fault Refusal) : Prop :=
  ∀ t, o = .next t → t.table = s.table ∧ t.commit = s.commit

theorem keepsConfig_next {s u : State} (h : u.table = s.table ∧ u.commit = s.commit) : KeepsConfig s (.next u) := by
  rintro t ⟨⟩; exact h

theorem keepsConfig_stepWhen {s u : State} (ready : Bool) (h : u.table = s.table ∧ u.commit = s.commit) :
    KeepsConfig s (stepWhen ready s u) :=
  fun _ ht => stepWhen_keeps (P := fun t => t.table = s.table ∧ t.commit = s.commit) ht ⟨rfl, rfl⟩ fun _ _ => h

theorem keepsConfig_takeCommand {s : State} (n : Nat) {owner : State → State × Response}
    (h : (owner s).1.table = s.table ∧ (owner s).1.commit = s.commit) : KeepsConfig s (takeCommand n s owner) :=
  fun _ ht => takeCommand_keeps (P := fun t => t.table = s.table ∧ t.commit = s.commit) ht ⟨rfl, rfl⟩ h

theorem keepsConfig_lifeCommand {s : State} (index : Byte) {allowed : Life → Bool} {effect : State → Ix → State × List Byte}
    (h : ∀ i, (effect s i).1.table = s.table ∧ (effect s i).1.commit = s.commit) :
    KeepsConfig s (takeCommand 1 s fun t => lifeCommand index t allowed (effect t)) :=
  keepsConfig_takeCommand 1
    (lifeCommand_keeps (P := fun t => t.table = s.table ∧ t.commit = s.commit) ⟨rfl, rfl⟩ fun i _ _ _ _ _ => h i)

theorem verifyAt_config (s : State) (i : Ix) :
    (verifyAt s i).1.table = s.table ∧ (verifyAt s i).1.commit = s.commit := by
  unfold verifyAt joinDemand
  split <;> simp

theorem takeWriteBeat_config (s : State) (x : Txn) (beats : List WriteBeat) (sent : Nat) :
    (takeWriteBeat s x beats sent).table = s.table ∧ (takeWriteBeat s x beats sent).commit = s.commit := by
  unfold takeWriteBeat
  split <;> exact ⟨rfl, rfl⟩

theorem enableEngine_config (s : State) :
    (enableEngine s).table = s.table ∧ (enableEngine s).commit = s.commit := by
  unfold enableEngine
  split
  · simp
  · split <;> simp
  all_goals exact ⟨rfl, rfl⟩

theorem disableEngine_config (s : State) :
    (disableEngine s).table = s.table ∧ (disableEngine s).commit = s.commit := by
  unfold disableEngine
  split <;> simp

theorem doResume_config (s : State) : (doResume s).1.table = s.table ∧ (doResume s).1.commit = s.commit := by
  unfold doResume
  split <;> simp [scanAction]

/-- READ_ENTRY changes no state of its own (R19). -/
theorem doReadEntry_state (index selector : Byte) (s : State) : (doReadEntry index selector s).1 = s := by
  unfold doReadEntry
  split
  · rfl
  · split
    · rfl
    · split <;> rfl

/-- REGION_STATUS changes no state of its own (R125). -/
theorem doRegionStatus_state (index : Byte) (s : State) : (doRegionStatus index s).1 = s := by
  unfold doRegionStatus
  split <;> rfl

theorem doReadEvent_config (s : State) : (doReadEvent s).1.table = s.table ∧ (doReadEvent s).1.commit = s.commit := by
  unfold doReadEvent
  split <;> exact ⟨rfl, rfl⟩

theorem doClearFlags_config (mask : Byte) (s : State) :
    (doClearFlags mask s).1.table = s.table ∧ (doClearFlags mask s).1.commit = s.commit := by
  unfold doClearFlags
  split <;> exact ⟨rfl, rfl⟩

theorem doSetAlertMask_config (mask : Byte) (s : State) :
    (doSetAlertMask mask s).1.table = s.table ∧ (doSetAlertMask mask s).1.commit = s.commit := by
  unfold doSetAlertMask
  split <;> exact ⟨rfl, rfl⟩

theorem doSetTiming_config (timing : Timing) (s : State) :
    (doSetTiming timing s).1.table = s.table ∧ (doSetTiming timing s).1.commit = s.commit := by
  unfold doSetTiming
  split <;> exact ⟨rfl, rfl⟩

/-- Every command but the eight that configure leaves the Region Table and the Commit Unit as they were. -/
theorem exec_keepsConfig (c : Instr) (s : State) (hc : reconfigures c = false) : KeepsConfig s (exec c s) := by
  cases c with
  | powerOnReset | portResetAssert | drainTimerExpiry | drainComplete | stageEntry | discard | commit | abortCommit =>
    cases hc
  | powerOnResetRelease => exact keepsConfig_next ⟨rfl, rfl⟩
  | portResetDeassert =>
    simp only [exec, execPortResetDeassert, resumeStarvation]
    split
    · exact keepsConfig_next ⟨rfl, rfl⟩
    · split
      · exact keepsConfig_next ⟨rfl, rfl⟩
      · exact keepsConfig_next (by split <;> exact ⟨rfl, rfl⟩)
  | hostRequestAccept req =>
    simp only [exec, execHostRequestAccept]
    split
    · exact keepsConfig_stepWhen _ (by simp)
    · rintro t ⟨⟩
  | hostWriteBeat offer =>
    simp only [exec, execHostWriteBeat]
    split
    · exact keepsConfig_stepWhen _ (by simp)
    · exact keepsConfig_next ⟨rfl, rfl⟩
  | hostClaimGrant =>
    simp only [exec, execHostClaimGrant]
    split
    · exact keepsConfig_stepWhen _ ⟨rfl, rfl⟩
    · exact keepsConfig_next ⟨rfl, rfl⟩
  | scanClaimGrant =>
    simp only [exec, execScanClaimGrant]
    split
    · exact keepsConfig_stepWhen _ ⟨rfl, rfl⟩
    · exact keepsConfig_next ⟨rfl, rfl⟩
  | forcedClaimGrant =>
    simp only [exec, execForcedClaimGrant]
    split
    · exact keepsConfig_stepWhen _ ⟨rfl, rfl⟩
    · exact keepsConfig_next ⟨rfl, rfl⟩
  | memoryRequestTaken =>
    simp only [exec, execMemoryRequestTaken]
    split
    · split
      · exact keepsConfig_stepWhen _ ⟨rfl, rfl⟩
      · exact keepsConfig_next ⟨rfl, rfl⟩
    · exact keepsConfig_stepWhen _ ⟨rfl, rfl⟩
    · exact keepsConfig_next ⟨rfl, rfl⟩
  | memoryWriteBeatTaken =>
    simp only [exec, execMemoryWriteBeatTaken]
    split
    · exact keepsConfig_stepWhen _ (takeWriteBeat_config ..)
    · exact keepsConfig_next ⟨rfl, rfl⟩
  | memoryResponseDiscard item =>
    simp only [exec, execMemoryResponseDiscard]
    split
    · exact keepsConfig_next ⟨rfl, rfl⟩
    · exact keepsConfig_stepWhen _ ⟨rfl, rfl⟩
  | localAnswerItemTaken =>
    simp only [exec, execLocalAnswerItemTaken]
    split
    · split
      · exact keepsConfig_stepWhen _ (by simp)
      all_goals exact keepsConfig_next ⟨rfl, rfl⟩
    · exact keepsConfig_next ⟨rfl, rfl⟩
  | chunkReadReturn data status =>
    simp only [exec, execChunkReadReturn]
    split
    · exact keepsConfig_stepWhen _ (by simp)
    all_goals exact keepsConfig_stepWhen _ ⟨rfl, rfl⟩
  | chunkReadBeat data status =>
    simp only [exec, execChunkReadBeat]
    split
    all_goals exact keepsConfig_stepWhen _ ⟨rfl, rfl⟩
  | commandFrameRejected frame partByte =>
    simp only [exec, execCommandFrameRejected]
    split
    · exact keepsConfig_stepWhen _ ⟨rfl, rfl⟩
    · exact keepsConfig_next ⟨rfl, rfl⟩
  | memoryResponseItemPass offer => exact keepsConfig_stepWhen _ (by simp)
  | localAnswerSend dir id head => exact keepsConfig_stepWhen _ (by cases head <;> simp)
  | roundTimerExpiry => exact keepsConfig_stepWhen _ (by simp)
  | writeDrainDone => exact keepsConfig_stepWhen _ (by simp)
  | idleGapMet | starvationTimerExpiry | fetch | emptyFrame => exact keepsConfig_stepWhen _ ⟨rfl, rfl⟩
  | readEntry index selector => exact keepsConfig_takeCommand 2 (by simp [doReadEntry_state])
  | openRegion index => exact keepsConfig_lifeCommand index (by simp)
  | closeRegion index => exact keepsConfig_lifeCommand index (by simp)
  | resign index => exact keepsConfig_lifeCommand index (by simp [resignAt])
  | verify index => exact keepsConfig_lifeCommand index (verifyAt_config s)
  | regionStatus index => exact keepsConfig_takeCommand 1 (by simp [doRegionStatus_state])
  | enable => exact keepsConfig_takeCommand 1 (enableEngine_config s)
  | disable => exact keepsConfig_takeCommand 1 (disableEngine_config s)
  | resume => exact keepsConfig_takeCommand 1 (doResume_config s)
  | readEvent => exact keepsConfig_takeCommand 0 (doReadEvent_config s)
  | clearFlags mask => exact keepsConfig_takeCommand 1 (doClearFlags_config mask s)
  | setAlertMask mask => exact keepsConfig_takeCommand 1 (doSetAlertMask_config mask s)
  | takeDirty count =>
    exact keepsConfig_takeCommand 1 ⟨takeBetween_table s (.takeDirty count), takeBetween_commit s (.takeDirty count)⟩
  | clearDirty index =>
    exact keepsConfig_takeCommand 1 ⟨takeBetween_table s (.clearDirty index), takeBetween_commit s (.clearDirty index)⟩
  | setDirtyThreshold threshold =>
    exact keepsConfig_takeCommand 1
      ⟨takeBetween_table s (.setDirtyThreshold threshold), takeBetween_commit s (.setDirtyThreshold threshold)⟩
  | softClear => exact keepsConfig_takeCommand 0 ⟨takeBetween_table s .softClear, takeBetween_commit s .softClear⟩
  | setTiming => exact keepsConfig_takeCommand 10 (doSetTiming_config _ s)
  | roundsOn | roundsOff => exact keepsConfig_takeCommand 1 ⟨rfl, rfl⟩
  | commitStatus | scanStatus | eventStatus | dirtyStatus | portStatus | identify =>
    exact keepsConfig_takeCommand 0 ⟨rfl, rfl⟩


/-! ## Overlap -/

theorem overlapsAnother_iff (table : Tab Entry) (i : Ix) :
    overlapsAnother table i = true ↔ ∃ j, j ≠ i ∧ overlaps (table.get i) (table.get j) = true := by
  simp [overlapsAnother, mem_allIx]

/-- The search for an overlapping pair finds none exactly in a table free of overlap (R22, R25). -/
theorem lowestOverlap_eq_none_iff (table : Tab Entry) : lowestOverlap table = none ↔ NoOverlap table := by
  simp only [lowestOverlap, List.find?_eq_none, overlapsAnother_iff, NoOverlap]
  constructor
  · intro h i j hij
    exact Bool.eq_false_iff.2 fun ho => h i (mem_allIx i) ⟨j, hij.symm, ho⟩
  · rintro h i - ⟨j, hji, ho⟩
    rw [h i j hji.symm] at ho
    cases ho

/-! ## How the configuration changes -/

/-- The quiesce set of the draining commit, if one drains. -/
def State.quiesced (s : State) : Option IxSet := s.commit.draining.map Drain.quiesce

theorem inQuiesceSet_iff (s : State) (i : Ix) :
    inQuiesceSet s i = true ↔ ∃ d, s.commit.draining = some d ∧ d.quiesce.get i = true := by
  unfold inQuiesceSet
  split <;> simp_all

/-- All that a command can do to the Region Table and to the quiesce set of the draining commit. -/
inductive Reconfigured (s : State) : RegionTable → Option IxSet → Prop
  | kept : Reconfigured s s.table s.quiesced
  | drainCut : Reconfigured s s.table none
  | staged (i : Ix) (e : Entry) (hi : inQuiesceSet s i = false) : Reconfigured s (stageAt s.table i e) s.quiesced
  | discarded (which : IxSet) (hw : touchesQuiesceSet s which = false) :
      Reconfigured s (discardAt s.table which) s.quiesced
  | switched (hi : NoOverlap (intermediateTable s.table)) :
      Reconfigured s (switchTable s.table (immediatePart s.table)) none
  | drainBegun (hi : NoOverlap (intermediateTable s.table)) (hf : NoOverlap (finalTable s.table)) :
      Reconfigured s (switchTable s.table (immediatePart s.table)) (some (quiesceSet s.table))
  | switchedAll (hf : NoOverlap (finalTable s.table)) :
      Reconfigured s (switchTable (switchTable s.table (immediatePart s.table)) (quiesceSet s.table)) none
  | drainDone (quiesce : IxSet) (hq : s.quiesced = some quiesce) : Reconfigured s (switchTable s.table quiesce) none
  | reset : Reconfigured s RegionTable.reset none

/-- The Region Table and quiesce set of a state come from those of another in one of the ways listed. -/
def ReconfiguredTo (s t : State) : Prop := Reconfigured s t.table t.quiesced

theorem ReconfiguredTo.of_same {s t : State} (h : t.table = s.table ∧ t.commit = s.commit) : ReconfiguredTo s t := by
  unfold ReconfiguredTo State.quiesced
  rw [h.1, h.2]
  exact .kept

theorem ReconfiguredTo.refl (s : State) : ReconfiguredTo s s := .of_same ⟨rfl, rfl⟩

theorem ReconfiguredTo.of_cut {s t : State} (ht : t.table = s.table) (hd : t.commit.draining = none) :
    ReconfiguredTo s t := by
  unfold ReconfiguredTo State.quiesced
  rw [ht, hd]
  exact .drainCut

theorem reconfigured_doStageEntry (index : Byte) (raw : RawEntry) (s : State) :
    ReconfiguredTo s (doStageEntry index raw s).1 := by
  unfold doStageEntry
  split
  · exact .refl s
  · next i _ =>
    split
    · exact .refl s
    · next hi =>
      split
      · exact .refl s
      · next e _ => exact .staged i e (by simpa using hi)

theorem reconfigured_doDiscard (mask : BitVec 16) (s : State) : ReconfiguredTo s (doDiscard mask s).1 := by
  unfold doDiscard
  split
  · exact .refl s
  · next h => exact .discarded (maskSet mask) (by simpa using h)

theorem reconfigured_acceptCommit (s : State) (hd : s.commit.draining = none)
    (hi : NoOverlap (intermediateTable s.table)) (hf : NoOverlap (finalTable s.table)) :
    ReconfiguredTo s (acceptCommit s) := by
  unfold acceptCommit ReconfiguredTo State.quiesced
  dsimp only
  split
  · simpa [hd] using Reconfigured.switched hi
  · split
    · simpa [newDrain] using Reconfigured.switchedAll hf
    · simpa [newDrain] using Reconfigured.drainBegun hi hf

theorem reconfigured_doCommit (s : State) : ReconfiguredTo s (doCommit s).1 := by
  unfold doCommit
  split
  · exact .refl s
  · next hd =>
    split
    · exact .refl s
    · split
      · exact .refl s
      · exact .refl s
      · next hi hf =>
        exact reconfigured_acceptCommit s (by simpa using hd) ((lowestOverlap_eq_none_iff _).1 hi)
          ((lowestOverlap_eq_none_iff _).1 hf)

theorem reconfigured_doAbortCommit (s : State) : ReconfiguredTo s (doAbortCommit s).1 := by
  unfold doAbortCommit
  split
  · exact .refl s
  · exact .of_cut (by simp) (by simp)

theorem reconfigured_portResetAssert {s t : State} (h : execPortResetAssert s = .next t) : ReconfiguredTo s t := by
  unfold execPortResetAssert at h
  split at h
  · cases h; exact .refl s
  · split at h
    · cases h; exact .of_same ⟨rfl, rfl⟩
    · cases h
      unfold portResetCommit
      split
      · exact .of_cut (by simp) (by simp)
      · exact .of_same (by simp)

/-- A taken command reconfigures as its owner does. -/
theorem reconfigured_takeCommand {s t : State} {n : Nat} {owner : State → State × Response}
    (h : takeCommand n s owner = .next t) (ho : ReconfiguredTo s (owner s).1) : ReconfiguredTo s t :=
  takeCommand_keeps (P := ReconfiguredTo s) h (.refl s) ho

/-- Every command reconfigures in one of the ways listed. -/
theorem exec_reconfigured {c : Instr} {s t : State} (h : exec c s = .next t) : ReconfiguredTo s t := by
  by_cases hc : reconfigures c = false
  · exact .of_same (exec_keepsConfig c s hc t h)
  cases c with
  | powerOnReset => cases h; exact .reset
  | portResetAssert => exact reconfigured_portResetAssert h
  | drainTimerExpiry =>
    simp only [exec, execDrainTimerExpiry] at h
    split at h
    · exact stepWhen_keeps h (.refl s) fun _ _ => .of_cut (by simp) (by simp)
    · cases h; exact .refl s
  | drainComplete =>
    simp only [exec, execDrainComplete] at h
    split at h
    · next d hd =>
      refine stepWhen_keeps h (.refl s) fun _ _ => ?_
      simpa [ReconfiguredTo, State.quiesced] using Reconfigured.drainDone d.quiesce (by simp [State.quiesced, hd])
    · cases h; exact .refl s
  | stageEntry index raw => exact reconfigured_takeCommand h (reconfigured_doStageEntry index raw s)
  | discard mask => exact reconfigured_takeCommand h (reconfigured_doDiscard mask s)
  | commit => exact reconfigured_takeCommand h (reconfigured_doCommit s)
  | abortCommit => exact reconfigured_takeCommand h (reconfigured_doAbortCommit s)
  | _ => exact absurd rfl hc

/-! ## The Pending Set -/

theorem pendingAgrees_reset : PendingAgrees RegionTable.reset := by
  intro i
  simp [RegionTable.reset]

/-- Recomputing one index keeps the Pending Set exact (R15). -/
theorem pendingAgrees_stageAt {t : RegionTable} (h : PendingAgrees t) (i : Ix) (e : Entry) :
    PendingAgrees (stageAt t i e) := by
  intro j
  by_cases hj : j = i
  · subst hj; simp [stageAt]
  · simp [stageAt, Tab.get_set_of_ne _ _ hj, h j]

/-- At the indices discarded the copies agree, and they are not pending (R18). -/
theorem pendingAgrees_discardAt {t : RegionTable} (h : PendingAgrees t) (which : IxSet) :
    PendingAgrees (discardAt t which) := by
  intro j
  cases hj : which.get j <;> simp [discardAt, hj, h j]

/-- At the indices switched the copies agree, and they are not pending (R37). -/
theorem pendingAgrees_switchTable {t : RegionTable} (h : PendingAgrees t) (which : IxSet) :
    PendingAgrees (switchTable t which) := by
  intro j
  cases hj : which.get j <;> simp [switchTable, hj, h j]

theorem Reconfigured.pendingAgrees {s : State} {table : RegionTable} {quiesce : Option IxSet}
    (h : Reconfigured s table quiesce) (hs : PendingAgrees s.table) : PendingAgrees table := by
  cases h with
  | kept | drainCut => exact hs
  | staged i e => exact pendingAgrees_stageAt hs i e
  | discarded which => exact pendingAgrees_discardAt hs which
  | switched | drainBegun => exact pendingAgrees_switchTable hs _
  | switchedAll => exact pendingAgrees_switchTable (pendingAgrees_switchTable hs _) _
  | drainDone quiesce => exact pendingAgrees_switchTable hs quiesce
  | reset => exact pendingAgrees_reset

/-! ## Overlap -/

/-- A table and the table a draining commit would leave are free of overlap: `TableLegal` of what it looks at alone. -/
def ConfigLegal (table : RegionTable) (quiesce : Option IxSet) : Prop :=
  NoOverlap table.active ∧ ∀ q, quiesce = some q → NoOverlap (switchedTable table q)

theorem tableLegal_iff (s : State) : TableLegal s ↔ ConfigLegal s.table s.quiesced := by
  simp [TableLegal, ConfigLegal, State.quiesced]

theorem noOverlap_reset : NoOverlap RegionTable.reset.active := by
  intro i j _
  simp [RegionTable.reset, overlaps, Entry.reset]

/-- Staging outside a set of indices does not change the table that a switch of the set leaves (R13). -/
theorem switchedTable_stageAt (t : RegionTable) {i : Ix} (e : Entry) {q : IxSet} (h : q.get i = false) :
    switchedTable (stageAt t i e) q = switchedTable t q := by
  refine Tab.ext_get fun j => ?_
  by_cases hj : j = i
  · subst hj; simp [h, stageAt]
  · simp [stageAt, Tab.get_set_of_ne _ _ hj]

/-- Discarding outside a set of indices does not change the table that a switch of the set leaves (R18). -/
theorem switchedTable_discardAt (t : RegionTable) {which q : IxSet} (h : ∀ i, which.get i = true → q.get i = false) :
    switchedTable (discardAt t which) q = switchedTable t q := by
  refine Tab.ext_get fun j => ?_
  cases hj : which.get j
  · simp [discardAt, hj]
  · simp [discardAt, h j hj]

/-- The switch of the quiesce set after that of the immediate part leaves the final table (R25). -/
theorem switchedTable_immediate_quiesce (t : RegionTable) :
    switchedTable (switchTable t (immediatePart t)) (quiesceSet t) = finalTable t := by
  refine Tab.ext_get fun j => ?_
  cases hp : t.pendingSet.get j <;> cases hq : (t.staged.get j).quiesce <;>
    simp [finalTable, immediatePart, quiesceSet, hp, hq]

theorem Reconfigured.configLegal {s : State} {table : RegionTable} {quiesce : Option IxSet}
    (h : Reconfigured s table quiesce) (hs : ConfigLegal s.table s.quiesced) : ConfigLegal table quiesce := by
  cases h with
  | kept => exact hs
  | drainCut => exact ⟨hs.1, nofun⟩
  | staged i e hi =>
    refine ⟨hs.1, fun q hq => ?_⟩
    obtain ⟨d, hd, rfl⟩ := Option.map_eq_some_iff.1 hq
    rw [switchedTable_stageAt _ _ (by simpa [inQuiesceSet, hd] using hi)]
    exact hs.2 _ hq
  | discarded which hw =>
    refine ⟨hs.1, fun q hq => ?_⟩
    obtain ⟨d, hd, rfl⟩ := Option.map_eq_some_iff.1 hq
    rw [switchedTable_discardAt _ (by simpa [touchesQuiesceSet, inQuiesceSet, hd, mem_allIx] using hw)]
    exact hs.2 _ hq
  | switched hi => exact ⟨hi, nofun⟩
  | drainBegun hi hf =>
    refine ⟨hi, ?_⟩
    rintro _ ⟨⟩
    rwa [switchedTable_immediate_quiesce]
  | switchedAll hf =>
    refine ⟨?_, nofun⟩
    rwa [switchTable_active, switchedTable_immediate_quiesce]
  | drainDone quiesce hq => exact ⟨hs.2 quiesce hq, nofun⟩
  | reset => exact ⟨noOverlap_reset, nofun⟩

theorem advance_quiesced (s : State) : (advance s).quiesced = s.quiesced := by
  simp [State.quiesced, advance, Option.map_map, Function.comp_def]

/-! ## Settled -/

/-- Settles O8: every way in which the table can change keeps the Pending Set exact. -/
theorem pendingSetStaysExact : Obligations.PendingSetStaysExact := fun _ _ h =>
  step_keeps (P := fun s => PendingAgrees s.table) (fun _ _ hs => hs) (fun _ hs => hs)
    (fun _ _ _ hx hs => (exec_reconfigured hx).pendingAgrees hs) h

/-- Settles O9: staging and discarding stay outside the quiesce set, and a COMMIT is accepted only when its intermediate and its final
table are free of overlap; the drain's end switches to the latter. -/
theorem tablesStayFreeOfOverlap : Obligations.TablesStayFreeOfOverlap := by
  intro s t h
  rw [tableLegal_iff, tableLegal_iff]
  exact step_keeps (P := fun s => ConfigLegal s.table s.quiesced) (fun _ _ hs => hs)
    (fun s hs => (advance_quiesced s).symm ▸ hs)
    (fun _ _ _ hx hs => (exec_reconfigured hx).configLegal hs) h

end Sys2Proof.Machine

/-! The state after power-on reset: its values block by block, and the properties that every step keeps. -/

namespace Sys2Proof.Machine

theorem tableLegal_reset : TableLegal State.reset :=
  (tableLegal_iff _).2 ⟨noOverlap_reset, nofun⟩

theorem dirtyLegal_reset : DirtyLegal State.reset.dirty := by
  simp [DirtyLegal, State.reset, DirtyTracker.reset]

theorem logLegal_reset : LogLegal State.reset.events := by
  simp [LogLegal, State.reset, EventUnit.reset]

theorem timingLegal_reset : TimingLegal State.reset.mgmt.timing := by
  simp [TimingLegal, State.reset, Management.reset, Timing.default]

theorem trackerLegal_reset : TrackerLegal State.reset.tracker := by
  simp [TrackerLegal, State.reset, Tracker.reset, slotsUsed]

/-- After power-on reset no entry is enabled, and no index has a life state (R2, R109). -/
theorem lifeLegal_reset : LifeLegal State.reset := by
  intro i
  simp [State.reset, SignatureUnit.reset, RegionTable.reset, Entry.isChecked, Entry.reset]

theorem engineLegal_reset : EngineLegal State.reset.scan := by
  simp [EngineLegal, State.reset, ScanEngine.reset, EngineState.fits, roundsDue]

theorem jobsLegal_reset : JobsLegal State.reset := by
  simp [JobsLegal, State.reset, ScanEngine.reset, ScanQueue.empty, SignatureUnit.reset]

theorem streamsLegal_reset : StreamsLegal State.reset := by
  simp [StreamsLegal, State.reset, Tracker.reset, Forwarder.reset]

theorem forwarderLegal_reset : ForwarderLegal State.reset := by
  simp [ForwarderLegal, State.reset, Tracker.reset, Forwarder.reset]

theorem writesCounted_reset : WritesCounted State.reset := by
  simp [WritesCounted, State.reset, Tracker.reset, DirtyTracker.reset, SignatureUnit.reset]

theorem channelLegal_reset : ChannelLegal State.reset := by
  simp [ChannelLegal, State.reset, Tracker.reset, Forwarder.reset, memoryCandidate]

/-- Settles O6, property by property. -/
theorem resetIsLegal : Obligations.ResetIsLegal :=
  ⟨pendingAgrees_reset, tableLegal_reset, dirtyLegal_reset, logLegal_reset, timingLegal_reset, trackerLegal_reset,
    lifeLegal_reset, engineLegal_reset, jobsLegal_reset, streamsLegal_reset, forwarderLegal_reset, writesCounted_reset,
    channelLegal_reset⟩

/-- Settles O5: the two meanings and the units without a table are read off by evaluation, the rows of the tables by what a constant
table holds. -/
theorem powerOnReset : Obligations.PowerOnReset := by
  refine ⟨fun s => ⟨rfl, rfl⟩, fun i => ?_, ?_⟩
  · simp [State.reset, RegionTable.reset, Entry.reset, CommitUnit.reset, DirtyTracker.reset, SignatureUnit.reset,
      Policy.reset]
  · decide

end Sys2Proof.Machine

/-! What the commands of the Region Table and the status commands answer: one equation per case of each owner, and the layouts of
section 10.6 in the words of the statements. -/

namespace Sys2Proof.Machine

/-! ## Indices and masks -/

/-- An index stands in the quiesce set of the draining commit, if one drains. -/
theorem inQuiesceSet_eq_false_iff (s : State) (i : Ix) :
    inQuiesceSet s i = false ↔ ¬∃ d, s.commit.draining = some d ∧ d.quiesce.get i = true := by
  rw [← inQuiesceSet_iff, Bool.not_eq_true]

theorem touchesQuiesceSet_iff (s : State) (which : IxSet) :
    touchesQuiesceSet s which = true ↔ ∃ i, which.get i = true ∧ inQuiesceSet s i = true := by
  simp [touchesQuiesceSet, mem_allIx]

@[simp] theorem maskSet_get (mask : BitVec 16) (i : Ix) : (maskSet mask).get i = mask.getLsbD i.val := by simp [maskSet]

/-! ## STAGE_ENTRY and DISCARD -/

theorem exec_stageEntry (index : Byte) (raw : RawEntry) (s : State) (hp : s.pins.por = false) :
    exec (.stageEntry index raw) s = .next (answered (doStageEntry index raw s).1 17 (doStageEntry index raw s).2) :=
  takeCommand_taken _ _ _ hp

theorem exec_discard (mask : BitVec 16) (s : State) (hp : s.pins.por = false) :
    exec (.discard mask) s = .next (answered (doDiscard mask s).1 2 (doDiscard mask s).2) :=
  takeCommand_taken _ _ _ hp

theorem doStageEntry_badIndex {index : Byte} (raw : RawEntry) (s : State) (h : 15 < index.toNat) :
    doStageEntry index raw s = (s, { status := .range, result := [0, 0, 0] }) := by
  simp [doStageEntry, indexOf_above index h, refusedResponse, padTo]

theorem doStageEntry_busy {i : Ix} (raw : RawEntry) {s : State} (h : inQuiesceSet s i = true) :
    doStageEntry (BitVec.ofNat 8 i.val) raw s = (s, { status := .busy, result := [0, 0, 0] }) := by
  simp [doStageEntry, indexOf_ofNat, h, refusedResponse, padTo]

theorem doStageEntry_badEntry {i : Ix} {raw : RawEntry} {s : State} {check : Nat} (h : inQuiesceSet s i = false)
    (he : fieldChecks raw = .error check) :
    doStageEntry (BitVec.ofNat 8 i.val) raw s = (s, { status := .range, result := [BitVec.ofNat 8 check, 0, 0] }) := by
  simp [doStageEntry, indexOf_ofNat, h, he, refusedResponse, padTo]

theorem doStageEntry_staged {i : Ix} {raw : RawEntry} {s : State} {e : Entry} (h : inQuiesceSet s i = false)
    (he : fieldChecks raw = .ok e) :
    doStageEntry (BitVec.ofNat 8 i.val) raw s =
      ({ s with table := stageAt s.table i e },
        okResponse (yesNo (decide (e ≠ s.table.active.get i)) :: maskBytes (stageAt s.table i e).pendingSet)) := by
  simp [doStageEntry, indexOf_ofNat, h, he, stageAt]

theorem doDiscard_busy {mask : BitVec 16} {s : State} (h : touchesQuiesceSet s (maskSet mask) = true) :
    doDiscard mask s = (s, { status := .busy, result := [0, 0, 0, 0] }) := by
  simp [doDiscard, h, refusedResponse, padTo]

theorem doDiscard_done {mask : BitVec 16} {s : State} (h : touchesQuiesceSet s (maskSet mask) = false) :
    doDiscard mask s = ({ s with table := discardAt s.table (maskSet mask) },
      okResponse (maskBytes (interIx (maskSet mask) s.table.pendingSet) ++
        maskBytes (discardAt s.table (maskSet mask)).pendingSet)) := by
  simp [doDiscard, h]

/-- Settles O45: the cases are those of the tests, in their order. -/
theorem stagingCommands : Obligations.StagingCommands := by
  intro s i raw mask hp index quiesced
  have quiesced_iff : ∀ j, quiesced j ↔ inQuiesceSet s j = true := fun j => (inQuiesceSet_iff s j).symm
  have not_quiesced : ¬quiesced i → inQuiesceSet s i = false := (inQuiesceSet_eq_false_iff s i).2
  refine ⟨fun b hb => ?_, fun hq => ?_, fun check hq he => ?_, fun e hq he => ?_, ?_, ?_⟩
  · rw [exec_stageEntry _ _ _ hp, doStageEntry_badIndex raw s hb]
  · rw [exec_stageEntry _ _ _ hp, doStageEntry_busy raw ((quiesced_iff i).1 hq)]
  · rw [exec_stageEntry _ _ _ hp, doStageEntry_badEntry (not_quiesced hq) he]
  · rw [exec_stageEntry _ _ _ hp, doStageEntry_staged (not_quiesced hq) he]
    rfl
  · rintro ⟨j, hj, hq⟩
    rw [exec_discard _ _ hp, doDiscard_busy ((touchesQuiesceSet_iff _ _).2 ⟨j, hj, (quiesced_iff j).1 hq⟩)]
  · intro hfree named left gone
    have untouched : touchesQuiesceSet s (maskSet mask) = false := by
      rw [← Bool.not_eq_true, touchesQuiesceSet_iff]
      rintro ⟨j, hj, hq⟩
      exact hfree j hj ((quiesced_iff j).2 hq)
    rw [exec_discard _ _ hp, doDiscard_done untouched]
    simp [discardAt, diffIx, interIx, okResponse, named, left, gone]

/-! ## Layouts -/

/-- Doubling from the last indication down gives each its power of two. -/
theorem two_pow_mul_foldr_bits (bits : List Bool) (n : Nat) :
    2 ^ n * bits.foldr (fun b acc => 2 * acc + (if b then 1 else 0)) 0 =
      ((bits.zipIdx n).map fun p => if p.1 then 2 ^ p.2 else 0).sum := by
  induction bits generalizing n with
  | nil => rfl
  | cons b bits ih =>
    rw [List.zipIdx_cons, List.map_cons, List.sum_cons, ← ih (n + 1), List.foldr_cons, Nat.pow_succ]
    cases b <;> simp <;> ring

/-- A byte of indications is the sum of the powers of two of those that hold (section 10.6). -/
theorem bitByte_eq_sum (bits : List Bool) :
    bitByte bits = BitVec.ofNat 8 (bits.zipIdx.map fun p => if p.1 then 2 ^ p.2 else 0).sum := by
  rw [bitByte, ← two_pow_mul_foldr_bits bits 0, Nat.pow_zero, Nat.one_mul]

/-- The queued jobs from the head, each with the code of its kind (R129, section 10.6). -/
theorem jobs_map_code (q : ScanQueue) :
    q.jobs.map (fun j => (j.1, jobKindCode (some j.2))) =
      q.sign.map (fun j => (j, 1)) ++ q.demand.map (fun j => (j, 3)) ++ q.round.map (fun j => (j, 2)) := by
  simp [ScanQueue.jobs, jobKindCode, Function.comp_def]

/-- An absent reference reads as zero (R179). -/
theorem reference_getD (ref : Option (BitVec 32)) : (ref.map BitVec.toNat).getD 0 = (ref.getD 0).toNat := by
  cases ref <;> rfl

/-! ## Status commands -/

/-- A status command answers with its result and changes no state of its own. -/
theorem takeCommand_report (n : Nat) (s : State) (result : State → List Byte) (hp : s.pins.por = false) :
    takeCommand n s (fun t => (t, okResponse (result t))) = .next (answered s n { status := .ok, result := result s }) :=
  takeCommand_taken _ _ _ hp

theorem doReadEntry_badOperand {index selector : Byte} (s : State) (h : 15 < index.toNat ∨ 1 < selector.toNat) :
    doReadEntry index selector s = (s, { status := .range, result := List.replicate 18 0 }) := by
  unfold doReadEntry
  split
  · rfl
  · next i hi =>
    have hsel : 1 < selector.toNat := h.resolve_left fun hb => by simp [indexOf_above index hb] at hi
    rw [if_neg (by rintro rfl; simp at hsel), if_neg (by rintro rfl; simp at hsel)]
    rfl

theorem doReadEntry_staged (i : Ix) (s : State) :
    doReadEntry (BitVec.ofNat 8 i.val) 0 s = (s, okResponse (entryResult s i (s.table.staged.get i))) := by
  simp [doReadEntry, indexOf_ofNat]

theorem doReadEntry_active (i : Ix) (s : State) :
    doReadEntry (BitVec.ofNat 8 i.val) 1 s = (s, okResponse (entryResult s i (s.table.active.get i))) := by
  simp [doReadEntry, indexOf_ofNat]

theorem doRegionStatus_badIndex {index : Byte} (s : State) (h : 15 < index.toNat) :
    doRegionStatus index s = (s, { status := .range, result := List.replicate 17 0 }) := by
  simp [doRegionStatus, indexOf_above index h, refusedResponse, padTo]

theorem doRegionStatus_report (i : Ix) (s : State) :
    doRegionStatus (BitVec.ofNat 8 i.val) s = (s, okResponse (regionStatusResult s i)) := by
  simp [doRegionStatus, indexOf_ofNat]

theorem commitStatusResult_idle {s : State} (h : s.commit.draining = none) :
    commitStatusResult s = List.replicate 8 0 ++ (maskBytes s.table.pendingSet ++
      [s.commit.outcome.code, s.commit.outcome.reason] ++ maskBytes s.commit.switched ++ maskBytes s.commit.leftPending) := by
  simp [commitStatusResult, h]

theorem commitStatusResult_draining {s : State} {d : Drain} (h : s.commit.draining = some d) :
    commitStatusResult s = [1] ++ maskBytes d.quiesce ++ leBytes 2 (d.timer.elapsed / d.timer.mhz) ++
      [BitVec.ofNat 8 (s.tracker.txns.filter fun x => x.isForward && d.meetsBurst x.req).length,
        BitVec.ofNat 8 (countedChunk s d), BitVec.ofNat 8 (s.tracker.txns.filter Txn.isHeld).length] ++
      (maskBytes s.table.pendingSet ++
        [s.commit.outcome.code, s.commit.outcome.reason] ++ maskBytes s.commit.switched ++ maskBytes s.commit.leftPending) := by
  simp [commitStatusResult, h, countedHost, heldCount, Timer.micros, List.countP_eq_length_filter]

/-- Settles O52, command by command. -/
theorem statusReports : Obligations.StatusReports := by
  refine ⟨rfl, ?_⟩
  intro s i hp index ok count entry life commitTail flag context jobs
  refine ⟨fun b sel h => ?_, ?_, ?_, fun h => ?_, fun d h => ?_, fun b h => ?_, ?_, ?_, ?_⟩
  · exact (takeCommand_taken _ _ _ hp).trans (by rw [doReadEntry_badOperand s h])
  · exact (takeCommand_taken _ _ _ hp).trans (by rw [doReadEntry_staged]; rfl)
  · exact (takeCommand_taken _ _ _ hp).trans (by rw [doReadEntry_active]; rfl)
  · exact (takeCommand_report _ _ _ hp).trans (by rw [commitStatusResult_idle h])
  · exact (takeCommand_report _ _ _ hp).trans (by rw [commitStatusResult_draining h])
  · exact (takeCommand_taken _ _ _ hp).trans (by rw [doRegionStatus_badIndex s h])
  · refine (takeCommand_taken _ _ _ hp).trans ?_
    rw [doRegionStatus_report]
    simp [regionStatusResult, okResponse, ok, life, flag, bitByte_eq_sum, reference_getD]
  · refine (takeCommand_report _ _ _ hp).trans ?_
    have hjobs : s.scan.queue.jobs.map (fun j => (j.1, jobKindCode (some j.2))) = jobs := jobs_map_code _
    have hcontext : contextBytes s.scan.context = context := rfl
    rw [← hjobs, ← hcontext]
    simp [scanStatusResult, scanStatusBits, queueBytes, bitByte_eq_sum, ok, flag, List.flatMap_map, Nat.add_assoc]
  · refine (takeCommand_report _ _ _ hp).trans ?_
    simp [portStatusResult, slotsUsed, outstanding, bitByte_eq_sum, List.countP_eq_length_filter, beq_eq_decide, ok, flag,
      count, Nat.add_assoc]

end Sys2Proof.Machine

/-! COMMIT: its tests in their order, and what an accepted COMMIT leaves: the commit ended, or the unit draining, or, where the
drain has nothing to wait for, the drain's end. -/

namespace Sys2Proof.Machine

/-! ## The tests -/

theorem emptyIx_iff (set : IxSet) : emptyIx set = true ↔ ∀ i, set.get i = false := by
  simp [emptyIx, mem_allIx]

theorem emptyIx_eq_false_iff (set : IxSet) : emptyIx set = false ↔ ∃ i, set.get i = true := by
  simp [← Bool.not_eq_true, emptyIx_iff]

theorem eq_noIx_of_forall {set : IxSet} (h : ∀ i, set.get i = false) : set = noIx :=
  Tab.ext_get fun i => by simp [h i]

/-- An index of a table belongs to an overlapping pair (R22). -/
def Clashes (table : Tab Entry) (i : Ix) : Prop := ∃ j, j ≠ i ∧ overlaps (table.get i) (table.get j) = true

theorem lowestOverlap_eq_some_iff (table : Tab Entry) (i : Ix) :
    lowestOverlap table = some i ↔ Clashes table i ∧ ∀ j, Clashes table j → i ≤ j := by
  simp only [lowestOverlap, allIx_find_eq_some, overlapsAnother_iff, Clashes]

theorem lowestOverlap_eq_none_iff_not_clashes (table : Tab Entry) :
    lowestOverlap table = none ↔ ∀ i, ¬Clashes table i := by
  simp [lowestOverlap, List.find?_eq_none, mem_allIx, ← overlapsAnother_iff, Clashes]

/-! ## Refusals -/

theorem exec_commit (s : State) (hp : s.pins.por = false) :
    exec .commit s = .next (answered (doCommit s).1 0 (doCommit s).2) :=
  takeCommand_taken _ _ _ hp

theorem exec_commit_refused {s : State} {r : Response} (hp : s.pins.por = false) (h : doCommit s = (s, r)) :
    exec .commit s = .next (answered s 0 r) := by
  rw [exec_commit s hp, h]

theorem doCommit_busy {s : State} (h : s.commit.draining ≠ none) :
    doCommit s = (s, { status := .busy, result := [0, 0, 0, 0, 0] }) := by
  simp [doCommit, Option.isSome_iff_ne_none.2 h, refusedResponse, padTo]

theorem doCommit_empty {s : State} (h : s.commit.draining = none) (he : ∀ i, s.table.pendingSet.get i = false) :
    doCommit s = (s, { status := .empty, result := [0, 0, 0, 0, 0] }) := by
  simp [doCommit, h, (emptyIx_iff _).2 he, refusedResponse, padTo]

theorem doCommit_clash_intermediate {s : State} {i : Ix} (h : s.commit.draining = none)
    (he : ∃ j, s.table.pendingSet.get j = true) (hi : lowestOverlap (intermediateTable s.table) = some i) :
    doCommit s = (s, { status := .invalid, result := [0, BitVec.ofNat 8 i.val, 0, 0, 0] }) := by
  simp [doCommit, h, (emptyIx_eq_false_iff _).2 he, hi, refusedResponse, padTo]

theorem doCommit_clash_final {s : State} {i : Ix} (h : s.commit.draining = none)
    (he : ∃ j, s.table.pendingSet.get j = true) (hi : lowestOverlap (intermediateTable s.table) = none)
    (hf : lowestOverlap (finalTable s.table) = some i) :
    doCommit s = (s, { status := .invalid, result := [1, BitVec.ofNat 8 i.val, 0, 0, 0] }) := by
  simp [doCommit, h, (emptyIx_eq_false_iff _).2 he, hi, hf, refusedResponse, padTo]

theorem doCommit_accepted {s : State} (h : s.commit.draining = none) (he : ∃ j, s.table.pendingSet.get j = true)
    (hi : lowestOverlap (intermediateTable s.table) = none) (hf : lowestOverlap (finalTable s.table) = none) :
    doCommit s = (acceptCommit s,
      okResponse (commitResult (acceptCommit s) (immediatePart s.table) (quiesceSet s.table))) := by
  simp [doCommit, h, (emptyIx_eq_false_iff _).2 he, hi, hf]

/-! ## An accepted COMMIT -/

/-- COMMIT's result reports the commit state after the command (R26). -/
theorem exec_commit_accepted {s t : State} {draining : Bool} (hp : s.pins.por = false) (h : s.commit.draining = none)
    (he : ∃ j, s.table.pendingSet.get j = true) (hi : lowestOverlap (intermediateTable s.table) = none)
    (hf : lowestOverlap (finalTable s.table) = none) (ht : acceptCommit s = t)
    (hd : t.commit.draining.isSome = draining) :
    exec .commit s = .next (answered t 0
      { status := .ok
        result := yesNo draining :: (maskBytes (immediatePart s.table) ++ maskBytes (quiesceSet s.table)) }) := by
  rw [exec_commit s hp, doCommit_accepted h he hi hf, ht, commitResult, hd]
  rfl

/-- The end of a commit in a unit that does not drain (R26, R41). -/
theorem endCommit_idle {s : State} (h : s.commit.draining = none) (o : LastOutcome) (switched left : IxSet) :
    endCommit s o switched left = { s with
      commit := { draining := none, outcome := o, switched := switched, leftPending := left },
      events := s.events.take (commitEvent o.event switched left o.reason) } := by
  simp [endCommit, raise, h]

theorem acceptCommit_done {s : State} (h : ∀ i, (quiesceSet s.table).get i = false) :
    acceptCommit s = endCommit (switchSet s (immediatePart s.table)) .done (immediatePart s.table) noIx := by
  simp [acceptCommit, (emptyIx_iff _).2 h]

/-- The state in which an accepted COMMIT has entered DRAINING (R26, R27, R30). -/
def drainEntered (s : State) : State := enterDraining (switchSet s (immediatePart s.table)) (newDrain s)

theorem acceptCommit_draining {s : State} (h : ∃ i, (quiesceSet s.table).get i = true)
    (hm : drainMet (drainEntered s) (newDrain s) = false) : acceptCommit s = drainEntered s := by
  unfold drainEntered at hm
  simp [acceptCommit, (emptyIx_eq_false_iff _).2 h, hm, drainEntered]

theorem acceptCommit_drained {s : State} (h : ∃ i, (quiesceSet s.table).get i = true)
    (hm : drainMet (drainEntered s) (newDrain s) = true) :
    acceptCommit s = completeDrain (drainEntered s) (newDrain s) false := by
  unfold drainEntered at hm
  simp [acceptCommit, (emptyIx_eq_false_iff _).2 h, hm, drainEntered]

/-! ## A drain that ends with nothing held -/

/-- With no transaction held the release judges none (R32). -/
theorem releaseEach_of_none_held (s : State) (portFree : Bool) {txns : List Txn} (h : ∀ x ∈ txns, x.isHeld = false) :
    releaseEach s portFree txns = (s, txns) := by
  induction txns with
  | nil => rfl
  | cons x rest ih =>
    rw [List.forall_mem_cons] at h
    simp [releaseEach, h.1, ih h.2]

/-- With no transaction held it is the same whether the port is free to take the commands that come between additions. -/
theorem releaseHeld_of_none_held (s : State) (portFree : Bool) (h : ∀ x ∈ s.tracker.txns, x.isHeld = false) :
    releaseHeld s portFree = takeTurns s := by
  simp [releaseHeld, releaseEach_of_none_held s portFree h]

theorem completeDrain_of_none_held (s : State) (d : Drain) (portFree portFree' : Bool)
    (h : ∀ x ∈ s.tracker.txns, x.isHeld = false) : completeDrain s d portFree = completeDrain s d portFree' := by
  unfold completeDrain
  rw [releaseHeld_of_none_held _ _ (by simpa using h), releaseHeld_of_none_held _ _ (by simpa using h)]

theorem exec_drainComplete {s : State} {d : Drain} (hp : s.pins.por = false) (hd : s.commit.draining = some d)
    (hm : drainMet s d = true) : exec .drainComplete s = .next (completeDrain s d true) := by
  simp only [exec, execDrainComplete, hd]
  exact stepWhen_taken hp hm

/-- Settles O46: the refusals in their order, then the three ends of an accepted COMMIT. -/
theorem commitCommand : Obligations.CommitCommand := by
  intro s hp refuse immediate quiesce withStaged clashes lowest switched timer drain t waiting free
  have none_clashes : ∀ table, (∀ i, ¬clashes table i) → lowestOverlap table = none := fun table =>
    (lowestOverlap_eq_none_iff_not_clashes table).2
  have entered : drainEntered s = waiting := by
    simp only [drainEntered, enterDraining, withholdClaim, Bool.and_eq_true, beq_iff_eq]
    rfl
  refine ⟨fun hd => ?_, fun hd he => ?_, fun i hd he hi => ?_, fun i hd he hi hf => ?_, ?_, ?_, ?_⟩
  · exact exec_commit_refused hp (doCommit_busy hd)
  · exact exec_commit_refused hp (doCommit_empty hd he)
  · exact exec_commit_refused hp (doCommit_clash_intermediate hd he ((lowestOverlap_eq_some_iff _ _).2 hi))
  · exact exec_commit_refused hp
      (doCommit_clash_final hd he (none_clashes _ hi) ((lowestOverlap_eq_some_iff _ _).2 hf))
  · rintro ⟨hd, he, hi, hf⟩ hq
    have idle : (switchSet s immediate).commit.draining = none := by rw [switchSet_commit, hd]
    refine (exec_commit_accepted (draining := false) hp hd he (none_clashes _ hi) (none_clashes _ hf)
      ((acceptCommit_done hq).trans (endCommit_idle idle _ _ _)) rfl).trans ?_
    have nothing : quiesceSet s.table = noIx := eq_noIx_of_forall hq
    rw [nothing]
    rfl
  · rintro ⟨hd, he, hi, hf⟩ hq hm
    rw [← entered] at hm ⊢
    exact exec_commit_accepted (draining := true) hp hd he (none_clashes _ hi) (none_clashes _ hf) (acceptCommit_draining hq hm)
      (by simp [drainEntered])
  · rintro ⟨hd, he, hi, hf⟩ hq hm hheld
    rw [← entered] at hm ⊢
    have drained : acceptCommit s = completeDrain (drainEntered s) drain true :=
      (acceptCommit_drained hq hm).trans
        (completeDrain_of_none_held _ _ _ _ (by simpa [drainEntered, enterDraining] using hheld))
    refine ⟨completeDrain (drainEntered s) drain true, ?_, ?_⟩
    · exact exec_drainComplete (by simpa [drainEntered, enterDraining] using hp) (by simp [drainEntered]; rfl) hm
    · exact exec_commit_accepted (draining := false) hp hd he (none_clashes _ hi) (none_clashes _ hf) drained (by simp)

end Sys2Proof.Machine

/-! The cause set of a write, byte by byte: a piece's region is a cause for what the piece holds, and the pieces of a legal burst
are its bytes. -/

namespace Sys2Proof.Machine

theorem pieceCause_guard_iff (s : State) (r : Request) (beats : List WriteBeat) (p : Piece) (i : Ix) :
    pieceCause s r beats p = some (i, .guard) ↔ p.region = some i ∧ (s.table.active.get i).part = .guard ∧
      strobedWithin r (strobesOf beats) p.first (p.last + 1) = true := by
  unfold pieceCause
  cases p.region with
  | none => simp
  | some j =>
    dsimp only
    constructor
    · intro h
      split at h <;> grind
    · rintro ⟨⟨⟩, hpart, hstrobed⟩
      simp [hpart, hstrobed]

theorem pieceCause_checked_iff (s : State) (r : Request) (beats : List WriteBeat) (p : Piece) (i : Ix) :
    pieceCause s r beats p = some (i, .checked) ↔ p.region = some i ∧
      ((∃ fc, (s.table.active.get i).part = .checked fc) ∧ s.sig.life.get i ≠ some .opened) ∧
      strobedWithin r (strobesOf beats) p.first (p.last + 1) = true := by
  unfold pieceCause
  cases p.region with
  | none => simp
  | some j =>
    dsimp only
    constructor
    · intro h
      split at h <;> grind
    · rintro ⟨⟨⟩, ⟨⟨fc, hpart⟩, hlife⟩, hstrobed⟩
      simp [hpart, hlife, hstrobed]

theorem pieceCause_window_iff (s : State) (r : Request) (beats : List WriteBeat) (p : Piece) (i : Ix) :
    pieceCause s r beats p = some (i, .window) ↔ p.region = some i ∧ ∃ w, (s.table.active.get i).part = .watch w ∧
      w.action = .refuse ∧ (firstViolation w r beats p).isSome = true := by
  unfold pieceCause
  cases p.region with
  | none => simp
  | some j =>
    dsimp only
    constructor
    · intro h
      split at h <;> grind
    · rintro ⟨⟨⟩, w, hpart, haction, hviolates⟩
      simp [hpart, haction, hviolates]

theorem mem_causeSet_iff (s : State) (r : Request) (beats : List WriteBeat) (c : Ix × Cause) :
    c ∈ causeSet s r beats ↔ ∃ p ∈ requestPieces s r, pieceCause s r beats p = some c := by
  rw [causeSet, mem_byIndex, List.mem_filterMap]

/-- A strobed byte lies in a region exactly when a piece of the region holds one (R21, R67). -/
theorem exists_strobed_piece_iff (s : State) (r : Request) (beats : List WriteBeat) (i : Ix) (h : r.beatsLegal = true) :
    (∃ p ∈ requestPieces s r, p.region = some i ∧ strobedWithin r (strobesOf beats) p.first (p.last + 1) = true) ↔
      ∃ a, StrobedByte r (strobesOf beats) a ∧ regionAt s.table.active a = some i := by
  obtain ⟨hle, hlen, hend⟩ := burst_bounds r h
  simp only [strobedWithin_iff]
  constructor
  · rintro ⟨p, hp, hregion, a, hstrobed, hfirst, hlast⟩
    obtain ⟨-, -, -, hmap⟩ := piecesOf_sound _ _ _ hle hlen p hp
    exact ⟨a, hstrobed, by rw [hmap a hfirst (by omega), hregion]⟩
  · rintro ⟨a, hstrobed, hregion⟩
    have ⟨hlo, hhi, _⟩ := hstrobed
    obtain ⟨p, hp, hfirst, hlast⟩ := piecesOf_complete s.table.active _ _ a hlo (by omega : a ≤ burstLast r)
    obtain ⟨-, -, -, hmap⟩ := piecesOf_sound _ _ _ hle hlen p hp
    exact ⟨p, hp, by rw [← hmap a hfirst hlast, hregion], a, hstrobed, hfirst, by omega⟩

/-- A kind of cause that a piece gives for a property of its region and a strobed byte is given, over all pieces, for that property
and a strobed byte in the region (R69). -/
theorem mem_causeSet_iff_strobed {s : State} {r : Request} {beats : List WriteBeat} {i : Ix} {cause : Cause} {regionIs : Prop}
    (h : r.beatsLegal = true)
    (hpiece : ∀ p, pieceCause s r beats p = some (i, cause) ↔
      p.region = some i ∧ regionIs ∧ strobedWithin r (strobesOf beats) p.first (p.last + 1) = true) :
    (i, cause) ∈ causeSet s r beats ↔
      (∃ a, StrobedByte r (strobesOf beats) a ∧ regionAt s.table.active a = some i) ∧ regionIs := by
  simp only [mem_causeSet_iff, hpiece, ← exists_strobed_piece_iff s r beats i h]
  constructor
  · rintro ⟨p, hp, hregion, hregionIs, hstrobed⟩
    exact ⟨⟨p, hp, hregion, hstrobed⟩, hregionIs⟩
  · rintro ⟨⟨p, hp, hregion, hstrobed⟩, hregionIs⟩
    exact ⟨p, hp, hregion, hregionIs, hstrobed⟩

/-- Settles O27: GUARD and CHECKED causes are given for strobed bytes of their regions, WINDOW causes for a piece's violation. -/
theorem causesOfRefusal : Obligations.CausesOfRefusal := by
  intro s r beats i hlegal _ strobed
  refine ⟨mem_causeSet_iff_strobed hlegal fun p => pieceCause_guard_iff s r beats p i,
    mem_causeSet_iff_strobed hlegal fun p => pieceCause_checked_iff s r beats p i, ?_⟩
  simp only [mem_causeSet_iff, pieceCause_window_iff]

end Sys2Proof.Machine

/-! The bytes of a region entry (section 10.6): what the bytes of an entry describe, that READ_ENTRY's bytes describe the entry they
report, and the field checks of R14. -/

namespace Sys2Proof.Machine

/-! ## Fields of bytes -/

theorem bitsOf_eq (b : Byte) (lo n : Nat) : bitsOf b lo n = b.toNat / 2 ^ lo % 2 ^ n := by
  simp [bitsOf, BitVec.extractLsb'_toNat, Nat.shiftRight_eq_div_pow]

theorem toNat_append {m n : Nat} (hi : BitVec m) (lo : BitVec n) : (hi ++ lo).toNat = 2 ^ n * hi.toNat + lo.toNat := by
  rw [BitVec.toNat_append, ← Nat.shiftLeft_add_eq_or_of_lt lo.isLt, Nat.shiftLeft_eq, Nat.mul_comm]

/-! ## Codes -/

theorem widthOf_eq_some_iff (n : Nat) (w : Width) : widthOf n = some w ↔ w.code = n := by
  constructor
  · unfold widthOf
    split <;> rintro ⟨⟩ <;> rfl
  · rintro rfl
    cases w <;> rfl

theorem actionOf_eq_some_iff (n : Nat) (a : WatchAction) : actionOf n = some a ↔ a.code = n := by
  constructor
  · unfold actionOf
    split <;> rintro ⟨⟩ <;> rfl
  · rintro rfl
    cases a <;> rfl

theorem policyOf_eq_some_iff (n : Nat) (p : PartialPolicy) : policyOf n = some p ↔ p.code = n := by
  constructor
  · unfold policyOf
    split <;> rintro ⟨⟩ <;> rfl
  · rintro rfl
    cases p <;> rfl

theorem granuleOf_eq_some_iff (n : Nat) (g : Granule) : granuleOf n = some g ↔ g.code = n := by
  constructor
  · unfold granuleOf
    split <;> rintro ⟨⟩ <;> rfl
  · rintro rfl
    cases g <;> rfl

theorem refusalOf_eq_some_iff (n : Nat) (m : RefusalMode) : refusalOf n = some m ↔ m.code = n := by
  constructor
  · unfold refusalOf
    split <;> rintro ⟨⟩ <;> rfl
  · rintro rfl
    cases m <;> rfl

theorem exists_width_iff (n : Nat) : (∃ w : Width, w.code = n) ↔ n ≤ 2 := by
  constructor
  · rintro ⟨w, rfl⟩
    cases w <;> decide
  · intro h
    interval_cases n
    exacts [⟨.w8, rfl⟩, ⟨.w16, rfl⟩, ⟨.w32, rfl⟩]

theorem exists_action_iff (n : Nat) : (∃ a : WatchAction, a.code = n) ↔ n ≤ 1 := by
  constructor
  · rintro ⟨a, rfl⟩
    cases a <;> decide
  · intro h
    interval_cases n
    exacts [⟨.report, rfl⟩, ⟨.refuse, rfl⟩]

theorem exists_policy_iff (n : Nat) : (∃ p : PartialPolicy, p.code = n) ↔ n ≤ 1 := by
  constructor
  · rintro ⟨p, rfl⟩
    cases p <;> decide
  · intro h
    interval_cases n
    exacts [⟨.ignore, rfl⟩, ⟨.violate, rfl⟩]

theorem exists_granule_iff (n : Nat) : (∃ g : Granule, g.code = n) ↔ n ≤ 2 := by
  constructor
  · rintro ⟨g, rfl⟩
    cases g <;> decide
  · intro h
    interval_cases n
    exacts [⟨.b256, rfl⟩, ⟨.k1, rfl⟩, ⟨.k4, rfl⟩]

theorem exists_refusal_iff (n : Nat) : (∃ m : RefusalMode, m.code = n) ↔ n ≤ 1 := by
  constructor
  · rintro ⟨m, rfl⟩
    cases m <;> decide
  · intro h
    interval_cases n
    exacts [⟨.error, rfl⟩, ⟨.silent, rfl⟩]

/-! ## What sixteen bytes describe -/

/-- The option byte and the bounds of sixteen bytes give the part of a kind its fields (section 10.6). -/
def Part.Reads (raw : RawEntry) : Part → Prop
  | .guard => True
  | .checked failClosed => failClosed = raw[1].getLsbD 0
  | .watch w => w.width.code = bitsOf raw[1] 0 2 ∧ w.action.code = bitsOf raw[1] 2 2 ∧ w.policy.code = bitsOf raw[1] 4 2 ∧
      w.low = of32 raw[8] raw[9] raw[10] raw[11] ∧ w.high = of32 raw[12] raw[13] raw[14] raw[15]
  | .track g => g.code = bitsOf raw[1] 0 2

theorem watchPartOf_eq_some_iff (raw : RawEntry) (w : WatchPart) :
    watchPartOf raw = some w ↔ Part.Reads raw (.watch w) := by
  unfold watchPartOf
  constructor
  · intro h
    split at h
    · next hw ha hp =>
      cases h
      exact ⟨(widthOf_eq_some_iff _ _).1 hw, (actionOf_eq_some_iff _ _).1 ha, (policyOf_eq_some_iff _ _).1 hp, rfl, rfl⟩
    · cases h
  · rintro ⟨hw, ha, hp, hlow, hhigh⟩
    rw [(widthOf_eq_some_iff _ _).2 hw, (actionOf_eq_some_iff _ _).2 ha, (policyOf_eq_some_iff _ _).2 hp, ← hlow, ← hhigh]

/-- Sixteen bytes describe the part of their kind whose fields they give (R8). -/
theorem partOf_eq_some_iff (raw : RawEntry) (part : Part) :
    partOf raw = some part ↔ part.kindCode = bitsOf raw[0] 1 3 ∧ part.Reads raw := by
  unfold partOf
  split
  · next h => cases part <;> simp [h, Part.kindCode, Part.Reads]
  · next h => cases part <;> simp [h, Part.kindCode, Part.Reads, eq_comm]
  · next h => cases part <;> simp [h, Part.kindCode, watchPartOf_eq_some_iff]
  · next h => cases part <;> simp [h, Part.kindCode, granuleOf_eq_some_iff, Part.Reads]
  · next h0 h1 h2 h3 =>
    cases part <;> simp [Part.kindCode, Ne.symm h0, Ne.symm h1, Ne.symm h2, Ne.symm h3]

/-- Sixteen bytes describe the entry whose fields they give (section 10.6). -/
theorem entryOf_eq_some_iff (raw : RawEntry) (e : Entry) : entryOf raw = some e ↔
    e.enabled = raw[0].getLsbD 0 ∧ e.quiesce = raw[0].getLsbD 6 ∧ e.part.kindCode = bitsOf raw[0] 1 3 ∧
    e.refusal.code = bitsOf raw[0] 4 2 ∧ e.base = raw[4] ++ raw[3] ++ raw[2] ∧ e.size = raw[7] ++ raw[6] ++ raw[5] ∧
    e.part.Reads raw := by
  unfold entryOf
  constructor
  · intro h
    split at h
    · next hmode hpart =>
      cases h
      obtain ⟨hkind, hreads⟩ := (partOf_eq_some_iff _ _).1 hpart
      exact ⟨rfl, rfl, hkind, (refusalOf_eq_some_iff _ _).1 hmode, rfl, rfl, hreads⟩
    · cases h
  · rintro ⟨henabled, hquiesce, hkind, hmode, hbase, hsize, hreads⟩
    rw [(refusalOf_eq_some_iff _ _).2 hmode, (partOf_eq_some_iff _ _).2 ⟨hkind, hreads⟩, ← henabled, ← hquiesce]
    simp only [← hbase, ← hsize]

/-- Every enumerated field of sixteen bytes holds a listed value: check 1 of R14. -/
def Listed (raw : RawEntry) : Prop :=
  bitsOf raw[0] 1 3 ≤ 3 ∧ bitsOf raw[0] 4 2 ≤ 1 ∧
  (bitsOf raw[0] 1 3 = 2 → bitsOf raw[1] 0 2 ≤ 2 ∧ bitsOf raw[1] 2 2 ≤ 1 ∧ bitsOf raw[1] 4 2 ≤ 1) ∧
  (bitsOf raw[0] 1 3 = 3 → bitsOf raw[1] 0 2 ≤ 2)

theorem exists_part_of_listed {raw : RawEntry} (h : Listed raw) : ∃ part, partOf raw = some part := by
  obtain ⟨hkind, -, hwatch, htrack⟩ := h
  simp only [partOf_eq_some_iff]
  generalize bitsOf raw[0] 1 3 = kind at *
  interval_cases kind
  · exact ⟨.guard, rfl, trivial⟩
  · exact ⟨.checked _, rfl, rfl⟩
  · obtain ⟨hw, ha, hp⟩ := hwatch rfl
    obtain ⟨w, hw⟩ := (exists_width_iff _).2 hw
    obtain ⟨a, ha⟩ := (exists_action_iff _).2 ha
    obtain ⟨p, hp⟩ := (exists_policy_iff _).2 hp
    exact ⟨.watch { width := w, low := _, high := _, action := a, policy := p }, rfl, hw, ha, hp, rfl, rfl⟩
  · obtain ⟨g, hg⟩ := (exists_granule_iff _).2 (htrack rfl)
    exact ⟨.track g, rfl, hg⟩

theorem exists_entry_of_listed {raw : RawEntry} (h : Listed raw) : ∃ e, entryOf raw = some e := by
  obtain ⟨part, hpart⟩ := exists_part_of_listed h
  obtain ⟨mode, hmode⟩ := (exists_refusal_iff _).2 h.2.1
  rw [entryOf, hpart, (refusalOf_eq_some_iff _ _).2 hmode]
  exact ⟨_, rfl⟩

theorem listed_of_entryOf {raw : RawEntry} {e : Entry} (h : entryOf raw = some e) : Listed raw := by
  obtain ⟨-, -, hkind, hmode, -, -, hreads⟩ := (entryOf_eq_some_iff _ _).1 h
  rw [Listed, ← hkind, ← hmode]
  have hmode' := (exists_refusal_iff _).1 ⟨e.refusal, rfl⟩
  cases hpart : e.part with
  | guard => simp [Part.kindCode, hmode']
  | checked => simp [Part.kindCode, hmode']
  | watch w =>
    rw [hpart] at hreads
    obtain ⟨hw, ha, hp, -, -⟩ := hreads
    simp only [Part.kindCode, hmode', ← hw, ← ha, ← hp, (exists_width_iff _).1 ⟨_, rfl⟩, (exists_action_iff _).1 ⟨_, rfl⟩,
      (exists_policy_iff _).1 ⟨_, rfl⟩]
    simp
  | track g =>
    rw [hpart] at hreads
    simp [Part.kindCode, hmode', ← show g.code = _ from hreads, (exists_granule_iff _).1 ⟨g, rfl⟩]

/-! ## The field checks -/

theorem fieldChecks_of_not_listed {raw : RawEntry} (h : ¬Listed raw) : fieldChecks raw = .error 1 := by
  cases he : entryOf raw with
  | none => simp [fieldChecks, he]
  | some e => exact absurd (listed_of_entryOf he) h

theorem fieldChecks_of_failedCheck {raw : RawEntry} {e : Entry} {n : Nat} (h : entryOf raw = some e)
    (hf : e.failedCheck = n) (hn : n ≠ 0) : fieldChecks raw = .error n := by
  simp [fieldChecks, h, hf, hn]

theorem fieldChecks_of_passed {raw : RawEntry} {e : Entry} (h : entryOf raw = some e) (hf : e.failedCheck = 0) :
    fieldChecks raw = .ok e := by
  simp [fieldChecks, h, hf]

theorem Width.maxValue_succ (w : Width) : w.maxValue + 1 = 2 ^ (8 * w.bytes) := by cases w <;> rfl

theorem Granule.bytes_eq (g : Granule) : g.bytes = g.granules * 256 := by cases g <;> rfl

/-- Check 2 of R14 passes. -/
def Entry.Sized (e : Entry) : Prop := 1 ≤ e.size.toNat ∧ e.size.toNat ≤ 1048576

/-- Check 3 of R14 passes. -/
def Entry.Placed (e : Entry) : Prop := e.base.toNat + e.size.toNat ≤ 16777216

/-- Check 4 of R14 passes: the bounds are values of the width. -/
def Part.Fits (part : Part) : Prop :=
  ∀ w, part = .watch w → w.low.toNat < 2 ^ (8 * w.width.bytes) ∧ w.high.toNat < 2 ^ (8 * w.width.bytes)

/-- Check 5 of R14 passes. -/
def Part.Ordered (part : Part) : Prop := ∀ w, part = .watch w → w.low.toNat ≤ w.high.toNat

/-- Check 6 of R14 passes: the range is a whole number of dirty granules. -/
def Entry.Whole (e : Entry) : Prop := ∀ g, e.part = .track g → e.size.toNat * 256 % g.bytes = 0

theorem Entry.sized_iff (e : Entry) : e.Sized ↔ (decide (e.size.toNat < 1) || decide (1048576 < e.size.toNat)) = false := by
  simp only [Entry.Sized, Bool.or_eq_false_iff, decide_eq_false_iff_not, not_lt]

theorem Part.boundsFit_iff (part : Part) : part.boundsFit = true ↔ part.Fits := by
  cases part <;> simp [Part.boundsFit, Part.Fits, ← Width.maxValue_succ]

theorem Part.boundsOrdered_iff (part : Part) : part.boundsOrdered = true ↔ part.Ordered := by
  cases part <;> simp [Part.boundsOrdered, Part.Ordered]

theorem Entry.granuleFits_iff (e : Entry) : e.part.granuleFits e.size.toNat = true ↔ e.Whole := by
  unfold Entry.Whole
  cases e.part <;> simp [Part.granuleFits, Granule.bytes_eq, Nat.mul_mod_mul_right]

section
variable {e : Entry}

theorem Entry.failedCheck_of_not_sized (h : ¬e.Sized) : e.failedCheck = 2 := by
  rw [Entry.sized_iff, Bool.not_eq_false] at h
  rw [Entry.failedCheck, if_pos h]

theorem Entry.failedCheck_of_not_placed (hs : e.Sized) (h : ¬e.Placed) : e.failedCheck = 3 := by
  rw [Entry.sized_iff] at hs
  rw [Entry.failedCheck, hs, if_neg Bool.false_ne_true, if_pos (not_le.1 h)]

/-- Past checks 2 and 3 the part decides (R14). -/
theorem Entry.failedCheck_of_placed (hs : e.Sized) (hp : e.Placed) : e.failedCheck =
    if !e.part.boundsFit then 4 else if !e.part.boundsOrdered then 5 else if !e.part.granuleFits e.size.toNat then 6 else 0 := by
  rw [Entry.sized_iff] at hs
  rw [Entry.failedCheck, hs, if_neg Bool.false_ne_true, if_neg (not_lt.2 hp)]

theorem Entry.failedCheck_of_not_fits (hs : e.Sized) (hp : e.Placed) (h : ¬e.part.Fits) : e.failedCheck = 4 := by
  rw [← Part.boundsFit_iff] at h
  simp [Entry.failedCheck_of_placed hs hp, h]

theorem Entry.failedCheck_of_not_ordered (hs : e.Sized) (hp : e.Placed) (hf : e.part.Fits) (h : ¬e.part.Ordered) :
    e.failedCheck = 5 := by
  rw [← Part.boundsFit_iff] at hf
  rw [← Part.boundsOrdered_iff] at h
  simp [Entry.failedCheck_of_placed hs hp, hf, h]

theorem Entry.failedCheck_of_not_whole (hs : e.Sized) (hp : e.Placed) (hf : e.part.Fits) (ho : e.part.Ordered)
    (h : ¬e.Whole) : e.failedCheck = 6 := by
  rw [← Part.boundsFit_iff] at hf
  rw [← Part.boundsOrdered_iff] at ho
  rw [← Entry.granuleFits_iff] at h
  simp [Entry.failedCheck_of_placed hs hp, hf, ho, h]

theorem Entry.failedCheck_of_whole (hs : e.Sized) (hp : e.Placed) (hf : e.part.Fits) (ho : e.part.Ordered)
    (h : e.Whole) : e.failedCheck = 0 := by
  rw [← Part.boundsFit_iff] at hf
  rw [← Part.boundsOrdered_iff] at ho
  rw [← Entry.granuleFits_iff] at h
  simp [Entry.failedCheck_of_placed hs hp, hf, ho, h]

end

/-! ## The bytes READ_ENTRY reports -/

theorem Entry.bytes_length (e : Entry) : e.bytes.length = 16 := by
  unfold Entry.bytes
  cases e.part <;> rfl

/-- The bytes READ_ENTRY reports for an entry, as STAGE_ENTRY carries them. -/
def Entry.raw (e : Entry) : RawEntry := ⟨e.bytes.toArray, e.bytes_length⟩

theorem leBytes_three (x : BitVec 24) :
    (BitVec.ofNat 8 (x.toNat / 256 ^ 2) ++ BitVec.ofNat 8 (x.toNat / 256 ^ 1) ++ BitVec.ofNat 8 (x.toNat / 256 ^ 0) :
      BitVec 24) = x := by
  apply BitVec.eq_of_toNat_eq
  simp only [toNat_append, BitVec.toNat_ofNat]
  omega

theorem of32_leBytes (x : BitVec 32) :
    of32 (BitVec.ofNat 8 (x.toNat / 256 ^ 0)) (BitVec.ofNat 8 (x.toNat / 256 ^ 1)) (BitVec.ofNat 8 (x.toNat / 256 ^ 2))
      (BitVec.ofNat 8 (x.toNat / 256 ^ 3)) = x := by
  apply BitVec.eq_of_toNat_eq
  simp only [of32, toNat_append, BitVec.toNat_ofNat]
  omega

/-- A byte made of two yes or no bits and two codes gives them back. -/
theorem firstByte_fields : ∀ (enabled quiesce : Bool) (kind : Fin 4) (mode : Fin 2),
    let b : Byte := BitVec.ofNat 8 ((if enabled then 1 else 0) + 2 * kind.val + 16 * mode.val + (if quiesce then 64 else 0))
    b.getLsbD 0 = enabled ∧ b.getLsbD 6 = quiesce ∧ bitsOf b 1 3 = kind.val ∧ bitsOf b 4 2 = mode.val := by
  decide

/-- The first byte of an entry holds its flags and codes (section 10.6). -/
theorem Entry.raw_first (e : Entry) :
    e.raw[0].getLsbD 0 = e.enabled ∧ e.raw[0].getLsbD 6 = e.quiesce ∧ bitsOf e.raw[0] 1 3 = e.part.kindCode ∧
      bitsOf e.raw[0] 4 2 = e.refusal.code := by
  have kind : e.part.kindCode < 4 := by cases e.part <;> simp [Part.kindCode]
  have mode : e.refusal.code < 2 := by cases e.refusal <;> decide
  exact firstByte_fields e.enabled e.quiesce ⟨_, kind⟩ ⟨_, mode⟩

/-- A byte made of three two-bit codes gives them back. -/
theorem optionByte_fields : ∀ (width : Fin 3) (action policy : Fin 2),
    let b : Byte := BitVec.ofNat 8 (width.val + 4 * action.val + 16 * policy.val)
    bitsOf b 0 2 = width.val ∧ bitsOf b 2 2 = action.val ∧ bitsOf b 4 2 = policy.val := by
  decide

/-- The option byte of a WATCH part gives its codes back (section 10.6). -/
theorem Part.optionByte_watch (w : WatchPart) :
    bitsOf (Part.watch w).optionByte 0 2 = w.width.code ∧ bitsOf (Part.watch w).optionByte 2 2 = w.action.code ∧
      bitsOf (Part.watch w).optionByte 4 2 = w.policy.code := by
  have width : w.width.code < 3 := by cases w.width <;> decide
  have action : w.action.code < 2 := by cases w.action <;> decide
  have policy : w.policy.code < 2 := by cases w.policy <;> decide
  exact optionByte_fields ⟨_, width⟩ ⟨_, action⟩ ⟨_, policy⟩

/-- The option byte and the bounds of an entry's bytes are those of its part (section 10.6). -/
theorem Entry.raw_reads (e : Entry) : e.part.Reads e.raw := by
  have option : e.raw[1] = e.part.optionByte := rfl
  obtain ⟨enabled, base, size, refusal, quiesce, part⟩ := e
  cases part with
  | guard => trivial
  | checked failClosed =>
    simp only [Part.Reads, option]
    cases failClosed <;> rfl
  | watch w =>
    obtain ⟨hw, ha, hp⟩ := Part.optionByte_watch w
    exact ⟨hw.symm, ha.symm, hp.symm, (of32_leBytes w.low).symm, (of32_leBytes w.high).symm⟩
  | track g =>
    simp only [Part.Reads, option]
    cases g <;> rfl

/-- READ_ENTRY's bytes describe the entry they report (R19). -/
theorem entryOf_raw (e : Entry) : entryOf e.raw = some e := by
  obtain ⟨henabled, hquiesce, hkind, hmode⟩ := e.raw_first
  exact (entryOf_eq_some_iff _ _).2 ⟨henabled.symm, hquiesce.symm, hkind.symm, hmode.symm, (leBytes_three e.base).symm,
    (leBytes_three e.size).symm, e.raw_reads⟩

/-- Settles O21: READ_ENTRY's bytes describe the entry, and the checks are those of R14 on the entry that listed bytes describe. -/
theorem entryRoundTrip : Obligations.EntryRoundTrip := by
  refine ⟨fun e => ⟨e.raw, rfl, entryOf_raw e⟩, ?_⟩
  intro raw kind mode option listed
  have hkind : bitsOf raw[0] 1 3 = kind := bitsOf_eq ..
  have hmode : bitsOf raw[0] 4 2 = mode := bitsOf_eq ..
  have hoption : ∀ k, bitsOf raw[1] k 2 = option k := fun k => bitsOf_eq ..
  have hlisted : Listed raw ↔ listed := by
    unfold Listed
    rw [hkind, hmode, hoption, hoption, hoption]
  refine ⟨fun h => fieldChecks_of_not_listed (mt hlisted.1 h), fun h => ?_⟩
  obtain ⟨e, he⟩ := exists_entry_of_listed (hlisted.2 h)
  have ⟨henabled, hquiesce, hk, hm, hbase, hsize, hreads⟩ := (entryOf_eq_some_iff _ _).1 he
  refine ⟨e, he, henabled, hquiesce, hk.trans hkind, hm.trans hmode, hbase, hsize, ?_, ?_, ?_, ?_⟩
  · intro failClosed hpart
    rwa [hpart] at hreads
  · intro w hpart
    rw [hpart] at hreads
    simpa only [Part.Reads, hoption, of32] using hreads
  · intro g hpart
    rw [hpart] at hreads
    exact hreads.trans (hoption 0)
  · intro sized placed fits ordered whole
    have fails : ∀ n, n ≠ 0 → e.failedCheck = n → fieldChecks raw = .error n := fun n hn hf =>
      fieldChecks_of_failedCheck he hf hn
    exact ⟨fun h => fails 2 (by decide) (Entry.failedCheck_of_not_sized h),
      fun hs h => fails 3 (by decide) (Entry.failedCheck_of_not_placed hs h),
      fun hs hp h => fails 4 (by decide) (Entry.failedCheck_of_not_fits hs hp h),
      fun hs hp hf h => fails 5 (by decide) (Entry.failedCheck_of_not_ordered hs hp hf h),
      fun hs hp hf ho h => fails 6 (by decide) (Entry.failedCheck_of_not_whole hs hp hf ho h),
      fun hs hp hf ho h => fieldChecks_of_passed he (Entry.failedCheck_of_whole hs hp hf ho h)⟩

end Sys2Proof.Machine

/-! Which indices have a life state. Every operation but the switch leaves that set as it is: life states are replaced where there is
one, or change their sub-phase. The switch gives an index whose identity changes a life state exactly when its new entry asks for one
(R38), and at every other index the old and the new entry agree on being an enabled CHECKED entry. -/

namespace Sys2Proof.Machine

/-! ## The indices with a life state, operation by operation -/

/-- Whether an index has a life state (R109). -/
def State.living (s : State) (i : Ix) : Bool := (s.sig.life.get i).isSome

theorem lifeLegal_iff_living (s : State) : LifeLegal s ↔ ∀ i, s.living i = (s.table.active.get i).isChecked := Iff.rfl

theorem living_of_sig {s t : State} (h : t.sig = s.sig) : t.living = s.living := by
  unfold State.living
  rw [h]

/-- Replacing one life state by another leaves the indices with one as they were. -/
theorem setLife_living {s : State} {i : Ix} (h : s.living i = true) (l : Life) : (setLife s i (some l)).living = s.living := by
  funext j
  by_cases hj : j = i
  · subst hj; simpa [State.living] using h.symm
  · simp [State.living, Tab.get_set_of_ne _ _ hj]

@[simp] theorem tellActive_living (s : State) (i : Ix) (k : JobKind) : (tellActive s i k).living = s.living := by
  unfold tellActive
  split
  · next hl => exact setLife_living (by simp [State.living, hl]) _
  · rfl

@[simp] theorem takeHead_living (s : State) : (takeHead s).living = s.living := by
  unfold takeHead
  split
  · exact (living_of_sig (enterWaiting_sig _)).trans (tellActive_living ..)
  · rfl

@[simp] theorem settle_living (s : State) : (settle s).living = s.living :=
  (living_of_sig (refreshRound_sig _)).trans (takeHead_living s)

@[simp] theorem meetRound_living (s : State) : (meetRound s).living = s.living := living_of_sig (meetRound_sig s)

theorem requestSign_living {s : State} {i : Ix} (h : s.living i = true) : (requestSign s i).living = s.living :=
  (settle_living _).trans (setLife_living h _)

theorem startWriteDrain_living {s : State} {i : Ix} (h : s.living i = true) : (startWriteDrain s i).living = s.living := by
  unfold startWriteDrain
  dsimp only
  split
  · exact requestSign_living h
  · exact setLife_living h _

/-- Regions that have a life state keep one as their SIGN jobs are requested. -/
theorem foldl_requestSign_living (regions : List Ix) {s : State} (h : ∀ i ∈ regions, s.living i = true) :
    (regions.foldl requestSign s).living = s.living := by
  induction regions generalizing s with
  | nil => rfl
  | cons i rest ih =>
    rw [List.forall_mem_cons] at h
    have hi := requestSign_living h.1
    rw [List.foldl_cons, ih (by rw [hi]; exact h.2), hi]

@[simp] theorem finishWriteDrains_living (s : State) : (finishWriteDrains s).living = s.living := by
  unfold finishWriteDrains
  split
  · rfl
  · refine (foldl_requestSign_living _ fun i hi => ?_).trans (meetRound_living s)
    have hd : drainedRegion s i = true := (List.mem_filter.1 hi).2
    simp only [drainedRegion, beq_iff_eq] at hd
    simp [State.living, hd]

@[simp] theorem lowerAwaited_living (s : State) (x : Txn) : (lowerAwaited s x).living = s.living := by
  funext i
  simp only [State.living, lowerAwaited, Tab.get_ofFn]
  split <;> simp [*]

@[simp] theorem landWrite_living (s : State) (x : Txn) : (landWrite s x).living = s.living := by
  unfold landWrite
  split
  · exact (finishWriteDrains_living _).trans (lowerAwaited_living _ x)
  · rfl

@[simp] theorem abandon_living (s : State) (i : Ix) : (abandon s i).living = s.living := by
  unfold abandon
  split <;> rfl

@[simp] theorem applySign_living (s : State) (i : Ix) (c : BitVec 32) : (applySign s i c).living = s.living := by
  unfold applySign
  split
  · next l hl =>
    exact setLife_living (i := i) (by simp [State.living, hl]) (.intact c)
  · rfl

@[simp] theorem reportVerify_living (s : State) (i : Ix) (d : Bool) (c : BitVec 32) (fail : Bool) (l : Life) :
    (reportVerify s i d c fail l).living = s.living := living_of_sig (reportVerify_sig ..)

@[simp] theorem applyVerify_living (s : State) (i : Ix) (d : Bool) (c : BitVec 32) : (applyVerify s i d c).living = s.living := by
  unfold applyVerify
  split
  · next ref hl =>
    split
    · exact reportVerify_living ..
    · exact (reportVerify_living ..).trans
        (setLife_living (s := countVerify s i) (i := i) (by simp [State.living, hl]) (.corrupt ref))
  · split <;> exact reportVerify_living ..
  all_goals rfl

@[simp] theorem applyResult_living (s : State) (c : JobContext) : (applyResult s c).living = s.living := by
  unfold applyResult
  dsimp only
  split <;> simp

@[simp] theorem afterJob_living (s : State) (off : Bool) : (afterJob s off).living = s.living := settle_living _

@[simp] theorem returnOk_living (s : State) (c : JobContext) (bs : List (BitVec 64 × RespStatus)) (off : Bool) :
    (returnOk s c bs off).living = s.living := by
  unfold returnOk
  dsimp only
  split
  · exact (afterJob_living ..).trans (applyResult_living ..)
  · exact living_of_sig (afterChunk_sig ..)

@[simp] theorem returnErr_living (s : State) (c : JobContext) (a : Addr) (off : Bool) :
    (returnErr s c a off).living = s.living := by
  unfold returnErr
  dsimp only
  split
  · exact (living_of_sig (afterChunk_sig ..)).trans rfl
  · rfl

@[simp] theorem returnChunk_living (s : State) (r : ChunkRead) (bs : List (BitVec 64 × RespStatus)) :
    (returnChunk s r bs).living = s.living := by
  unfold returnChunk
  split
  · split <;> simp
  · exact settle_living _

@[simp] theorem startRound_living (s : State) : (startRound s).living = s.living := by
  unfold startRound
  split
  · exact living_of_sig (enqueueRound_sig s)
  · exact (settle_living _).trans (living_of_sig (enqueueRound_sig s))

/-! ## SOFT_CLEAR and the verdicts -/

/-- SOFT_CLEAR takes no region its life state (R123). -/
@[simp] theorem softClearState_living (s : State) : (softClearState s).living = s.living := by
  funext i
  simp only [State.living, softClearState, Tab.get_ofFn, softClearLife]
  split <;> simp [*]

@[simp] theorem takeBetween_living (s : State) (c : DirtyCommand) : (takeBetween s c).living = s.living := by
  cases c with
  | takeDirty count => exact living_of_sig (by simp only [takeBetween, commanded_eq, answered_sig, doTakeDirty]; split <;> rfl)
  | clearDirty index => exact living_of_sig (by simp only [takeBetween, commanded_eq, answered_sig, doClearDirty]; split <;> rfl)
  | dirtyStatus => rfl
  | setDirtyThreshold threshold =>
    exact living_of_sig (by simp only [takeBetween, commanded_eq, answered_sig, doSetDirtyThreshold]; split <;> rfl)
  | softClear =>
    refine (living_of_sig (answered_sig ..)).trans ?_
    unfold doSoftClear
    split
    · rfl
    · exact softClearState_living s

@[simp] theorem addTrackedBlocks_living (s : State) (host : HostId) (between : List DirtyCommand)
    (bs : List (Ix × Entry × Granule × Nat)) : (addTrackedBlocks s host between bs).living = s.living := by
  have one : ∀ t b, (addTracked t host b).living = t.living := fun t b => living_of_sig (addTracked_sig t host b)
  unfold addTrackedBlocks
  split
  · rfl
  · exact one s _
  · exact (foldl_keeps State.living _ one _ _).trans ((foldl_keeps State.living _ takeBetween_living _ _).trans (one s _))

@[simp] theorem handOff_living (s : State) (r : Request) (bs : List WriteBeat) (between : List DirtyCommand) :
    (handOff s r bs between).living = s.living :=
  (addTrackedBlocks_living ..).trans (living_of_sig (reportWindows_sig ..))

@[simp] theorem judgeWrite_living (s : State) (x : Txn) (bs : List WriteBeat) (between : List DirtyCommand) :
    (judgeWrite s x bs between).1.living = s.living := by
  unfold judgeWrite
  dsimp only
  split
  · exact (living_of_sig (enqueue_sig ..)).trans ((handOff_living ..).trans (living_of_sig (by simp)))
  · exact living_of_sig (by simp)

@[simp] theorem judge_living (s : State) (x : Txn) (between : List DirtyCommand) : (judge s x between).1.living = s.living := by
  unfold judge
  split
  · exact living_of_sig (judgeMalformed_sig s x)
  · split
    · exact living_of_sig (judgeRead_sig s x)
    · exact judgeWrite_living ..

@[simp] theorem verdictTime_living (s : State) (earlier : List Txn) (x : Txn) (between : List DirtyCommand) :
    (verdictTime s earlier x between).1.living = s.living := by
  unfold verdictTime
  split
  · exact judge_living ..
  · split
    · rfl
    · split
      · rfl
      · exact judge_living ..

@[simp] theorem releaseEach_living (l : List Txn) (s : State) (portFree : Bool) :
    (releaseEach s portFree l).1.living = s.living := by
  induction l generalizing s with
  | nil => rfl
  | cons x rest ih =>
    unfold releaseEach
    split
    · exact (ih _).trans (judge_living ..)
    · exact ih s

@[simp] theorem releaseHeld_living (s : State) (portFree : Bool) : (releaseHeld s portFree).living = s.living :=
  (living_of_sig (takeTurns_sig _)).trans (releaseEach_living s.tracker.txns s portFree)

@[simp] theorem storeBeat_living (s : State) (x : Txn) (offer : OfferedBeat) : (storeBeat s x offer).living = s.living := by
  unfold storeBeat
  dsimp only
  split
  · rfl
  · exact (living_of_sig (afterVerdict_sig ..)).trans ((living_of_sig (setTxn_sig ..)).trans (verdictTime_living ..))

/-! ## Items of the memory, and the life-cycle commands -/

@[simp] theorem passItem_living (s : State) (x : Txn) (item : MemItem) : (passItem s x item).living = s.living := by
  have before : (setHead (putHostItem (countError s x item) (passedItem item)) none).living = s.living :=
    living_of_sig (by simp)
  unfold passItem
  dsimp only
  split
  · exact before
  · exact (living_of_sig (retire_sig ..)).trans ((landWrite_living ..).trans before)

@[simp] theorem offerItem_living (s : State) (item : MemItem) (ready : Bool) : (offerItem s item ready).living = s.living := by
  have given : (giveChannel (setHead s (some item))).living = s.living := living_of_sig (by simp)
  unfold offerItem
  split
  · split
    · unfold presentItem
      dsimp only
      split
      · exact (passItem_living ..).trans given
      · exact given
    · rfl
  · split <;> rfl

theorem openAt_living {s : State} {i : Ix} (h : s.living i = true) : (openAt s i).living = s.living :=
  (settle_living _).trans ((abandon_living ..).trans (setLife_living h .opened))

@[simp] theorem dropVerify_living (s : State) (i : Ix) : (dropVerify s i).living = s.living := by
  have dropped : (abandon (unqueue s i) i).living = s.living := abandon_living ..
  unfold dropVerify
  dsimp only
  split
  · exact dropped
  · exact (settle_living _).trans dropped

@[simp] theorem meetSigning_living (s : State) (i : Ix) : (meetSigning s i).living = s.living :=
  living_of_sig (meetSigning_sig s i)

theorem resignAt_living {s : State} {i : Ix} (h : s.living i = true) : (resignAt s i).living = s.living :=
  (dropVerify_living ..).trans (setLife_living h .blank)

@[simp] theorem verifyAt_living (s : State) (i : Ix) : (verifyAt s i).1.living = s.living := by
  unfold verifyAt
  split
  · rfl
  · exact settle_living _
  · rfl
  · rfl
  · exact (settle_living _).trans (meetRound_living s)

@[simp] theorem enableEngine_living (s : State) : (enableEngine s).living = s.living := by
  unfold enableEngine
  split
  · exact settle_living _
  · split <;> rfl
  all_goals rfl

/-! ## Commands that leave the configuration alone -/

/-- An outcome whose next state, if any, has a life state at the same indices. -/
def KeepsLiving (s : State) (o : Host.Outcome State Fault Refusal) : Prop := ∀ t, o = .next t → t.living = s.living

theorem keepsLiving_next {s u : State} (h : u.living = s.living) : KeepsLiving s (.next u) := by
  rintro t ⟨⟩; exact h

theorem keepsLiving_stepWhen {s u : State} (ready : Bool) (h : u.living = s.living) : KeepsLiving s (stepWhen ready s u) :=
  fun _ ht => stepWhen_keeps (P := fun t => t.living = s.living) ht rfl fun _ _ => h

theorem keepsLiving_takeCommand {s : State} (n : Nat) {owner : State → State × Response}
    (h : (owner s).1.living = s.living) : KeepsLiving s (takeCommand n s owner) :=
  fun _ ht => takeCommand_keeps (P := fun t => t.living = s.living) ht rfl h

/-- A command between dirty additions, given by itself, has a life state left at the same indices. -/
theorem keepsLiving_between {s : State} (n : Nat) {owner : State → State × Response} (c : DirtyCommand)
    (h : takeBetween s c = commanded n s owner) : KeepsLiving s (takeCommand n s owner) :=
  keepsLiving_takeCommand n (by have := takeBetween_living s c; rw [h, commanded_eq] at this; exact this)

/-- A life-cycle command acts on a region that has a life state (R111). -/
theorem keepsLiving_lifeCommand {s : State} (index : Byte) {allowed : Life → Bool} {effect : State → Ix → State × List Byte}
    (h : ∀ i, s.living i = true → (effect s i).1.living = s.living) :
    KeepsLiving s (takeCommand 1 s fun t => lifeCommand index t allowed (effect t)) :=
  keepsLiving_takeCommand 1 (lifeCommand_keeps (P := fun t => t.living = s.living) rfl fun i l _ _ hl _ =>
    h i (by simp [State.living, hl]))

/-- Every command but the eight that configure leaves the indices with a life state as they were. -/
theorem exec_keepsLiving (c : Instr) (s : State) (hc : reconfigures c = false) : KeepsLiving s (exec c s) := by
  cases c with
  | powerOnReset | portResetAssert | drainTimerExpiry | drainComplete | stageEntry | discard | commit | abortCommit =>
    cases hc
  | powerOnResetRelease => exact keepsLiving_next rfl
  | portResetDeassert =>
    simp only [exec, execPortResetDeassert, resumeStarvation]
    split
    · exact keepsLiving_next rfl
    · split
      · exact keepsLiving_next rfl
      · exact keepsLiving_next (by split <;> rfl)
  | hostRequestAccept req =>
    simp only [exec, execHostRequestAccept]
    split
    · exact keepsLiving_stepWhen _ (living_of_sig (acceptRequest_sig s req))
    · rintro t ⟨⟩
  | hostWriteBeat offer =>
    simp only [exec, execHostWriteBeat]
    split
    · exact keepsLiving_stepWhen _ (by simp)
    · exact keepsLiving_next rfl
  | hostClaimGrant =>
    simp only [exec, execHostClaimGrant]
    split
    · exact keepsLiving_stepWhen _ rfl
    · exact keepsLiving_next rfl
  | scanClaimGrant =>
    simp only [exec, execScanClaimGrant]
    split
    · exact keepsLiving_stepWhen _ rfl
    · exact keepsLiving_next rfl
  | forcedClaimGrant =>
    simp only [exec, execForcedClaimGrant]
    split
    · exact keepsLiving_stepWhen _ rfl
    · exact keepsLiving_next rfl
  | memoryRequestTaken =>
    simp only [exec, execMemoryRequestTaken]
    split
    · split
      · exact keepsLiving_stepWhen _ rfl
      · exact keepsLiving_next rfl
    · exact keepsLiving_stepWhen _ rfl
    · exact keepsLiving_next rfl
  | memoryWriteBeatTaken =>
    simp only [exec, execMemoryWriteBeatTaken]
    split
    · exact keepsLiving_stepWhen _ (living_of_sig (by unfold takeWriteBeat; split <;> rfl))
    · exact keepsLiving_next rfl
  | memoryResponseDiscard item =>
    simp only [exec, execMemoryResponseDiscard]
    split
    · exact keepsLiving_next rfl
    · exact keepsLiving_stepWhen _ rfl
  | localAnswerItemTaken =>
    simp only [exec, execLocalAnswerItemTaken]
    split
    · split
      · exact keepsLiving_stepWhen _ (living_of_sig (takeLocalItem_sig ..))
      all_goals exact keepsLiving_next rfl
    · exact keepsLiving_next rfl
  | chunkReadReturn data status =>
    simp only [exec, execChunkReadReturn]
    split
    · exact keepsLiving_stepWhen _ (by simp)
    all_goals exact keepsLiving_stepWhen _ rfl
  | chunkReadBeat data status =>
    simp only [exec, execChunkReadBeat]
    split
    all_goals exact keepsLiving_stepWhen _ rfl
  | commandFrameRejected frame partByte =>
    simp only [exec, execCommandFrameRejected]
    split
    · exact keepsLiving_stepWhen _ rfl
    · exact keepsLiving_next rfl
  | memoryResponseItemPass offer => exact keepsLiving_stepWhen _ (offerItem_living ..)
  | localAnswerSend dir id head =>
    refine keepsLiving_stepWhen _ ((living_of_sig (sendLocal_sig ..)).trans ?_)
    cases head with
    | none => rfl
    | some item => exact offerItem_living ..
  | roundTimerExpiry => exact keepsLiving_stepWhen _ (startRound_living s)
  | writeDrainDone => exact keepsLiving_stepWhen _ (finishWriteDrains_living s)
  | idleGapMet | starvationTimerExpiry | fetch | emptyFrame => exact keepsLiving_stepWhen _ rfl
  | readEntry index selector => exact keepsLiving_takeCommand 2 (by rw [doReadEntry_state])
  | openRegion index => exact keepsLiving_lifeCommand index fun i => openAt_living
  | closeRegion index =>
    exact keepsLiving_lifeCommand index fun i hi =>
      (startWriteDrain_living (by simpa using hi)).trans (meetSigning_living s i)
  | resign index =>
    refine keepsLiving_lifeCommand index fun i hi => ?_
    have resigned : (resignAt (meetSigning s i) i).living = s.living :=
      (resignAt_living (by simpa using hi)).trans (meetSigning_living s i)
    exact (startWriteDrain_living (by simpa [resigned] using hi)).trans ((meetSigning_living ..).trans resigned)
  | verify index => exact keepsLiving_lifeCommand index fun i _ => verifyAt_living s i
  | regionStatus index => exact keepsLiving_takeCommand 1 (by rw [doRegionStatus_state])
  | enable => exact keepsLiving_takeCommand 1 (enableEngine_living s)
  | disable => exact keepsLiving_takeCommand 1 (living_of_sig (by unfold disableEngine scanAction; split <;> rfl))
  | resume => exact keepsLiving_takeCommand 1 (living_of_sig (by unfold doResume; split <;> rfl))
  | readEvent => exact keepsLiving_takeCommand 0 (living_of_sig (by unfold doReadEvent; split <;> rfl))
  | clearFlags mask => exact keepsLiving_takeCommand 1 (living_of_sig (by unfold doClearFlags; split <;> rfl))
  | setAlertMask mask => exact keepsLiving_takeCommand 1 (living_of_sig (by unfold doSetAlertMask; split <;> rfl))
  | setTiming => exact keepsLiving_takeCommand 10 (living_of_sig (by unfold doSetTiming; split <;> rfl))
  | takeDirty count => exact keepsLiving_between 1 (.takeDirty count) rfl
  | clearDirty index => exact keepsLiving_between 1 (.clearDirty index) rfl
  | setDirtyThreshold threshold => exact keepsLiving_between 1 (.setDirtyThreshold threshold) rfl
  | softClear => exact keepsLiving_between 0 .softClear rfl
  | roundsOn | roundsOff => exact keepsLiving_takeCommand 1 rfl
  | commitStatus | scanStatus | eventStatus | dirtyStatus | portStatus | identify => exact keepsLiving_takeCommand 0 rfl

/-! ## Commands that configure -/

theorem lifeLegal_of_kept {s t : State} (h : LifeLegal s) (ha : t.table.active = s.table.active) (hl : t.living = s.living) :
    LifeLegal t := by
  rw [lifeLegal_iff_living, ha, hl]
  exact h

/-- An entry and its replacement that agree on enabled and kind agree on being an enabled CHECKED entry. -/
theorem isChecked_of_same_identity {old new : Entry} (h : identityChange old new = false) : new.isChecked = old.isChecked := by
  simp only [identityChange, Bool.or_eq_false_iff, bne_eq_false_iff_eq] at h
  obtain ⟨⟨⟨henabled, hkind⟩, -⟩, -⟩ := h
  unfold Entry.isChecked
  rw [henabled]
  cases ho : old.part <;> cases hn : new.part <;> simp [ho, hn, Part.kindCode] at hkind <;> rfl

@[simp] theorem switchJob_living (s : State) (old : Tab Entry) (changed : IxSet) : (switchJob s old changed).living = s.living := by
  unfold switchJob
  split
  · split
    · dsimp only
      split
      · exact abandon_living ..
      · exact abandon_living ..
    · rfl
  · rfl

/-- After a switch the life states are those that R38 gives. -/
theorem switchSet_living (s : State) (which : IxSet) (i : Ix) : (switchSet s which).living i =
    ((switchLife (switchedTable s.table which) (identityChanges s.table which) s.sig.life).get i).isSome := by
  unfold switchSet
  rw [settle_living, switchJob_living]
  rfl

/-- A switch keeps life states at exactly the enabled CHECKED entries (R38). -/
theorem lifeLegal_switchSet {s : State} (h : LifeLegal s) (which : IxSet) : LifeLegal (switchSet s which) := by
  rw [lifeLegal_iff_living]
  intro i
  rw [switchSet_living, switchSet_table, switchTable_active]
  simp only [switchLife, identityChanges, switchedTable_get, Tab.get_ofFn]
  cases hw : which.get i with
  | false => simpa using h i
  | true =>
    cases hc : identityChange (s.table.active.get i) (s.table.staged.get i) with
    | false => simpa [isChecked_of_same_identity hc] using h i
    | true =>
      cases hk : (s.table.staged.get i).isChecked <;> simp [hk]

theorem lifeLegal_completeDrain {s : State} (h : LifeLegal s) (d : Drain) (portFree : Bool) :
    LifeLegal (completeDrain s d portFree) := by
  have closed : LifeLegal (closeDrain s) := lifeLegal_of_kept h (by simp) (living_of_sig (closeDrain_sig s))
  refine lifeLegal_of_kept (lifeLegal_switchSet closed d.quiesce) (by simp) ((releaseHeld_living ..).trans ?_)
  exact living_of_sig (endCommit_sig ..)

theorem lifeLegal_cutDrain {s : State} (h : LifeLegal s) (d : Drain) (outcome : LastOutcome) : LifeLegal (cutDrain s d outcome) :=
  lifeLegal_of_kept h (by simp) (living_of_sig (cutDrain_sig s d outcome))

theorem lifeLegal_releaseHeld {s : State} (h : LifeLegal s) (portFree : Bool) : LifeLegal (releaseHeld s portFree) :=
  lifeLegal_of_kept h (by simp) (releaseHeld_living s portFree)

theorem lifeLegal_acceptCommit {s : State} (h : LifeLegal s) : LifeLegal (acceptCommit s) := by
  have switched := lifeLegal_switchSet h (immediatePart s.table)
  have drained : LifeLegal (enterDraining (switchSet s (immediatePart s.table)) (newDrain s)) :=
    lifeLegal_of_kept switched (by simp) (living_of_sig (withholdClaim_sig _))
  unfold acceptCommit
  dsimp only
  split
  · exact lifeLegal_of_kept switched rfl rfl
  · split
    · exact lifeLegal_completeDrain drained _ _
    · exact drained

theorem lifeLegal_doCommit {s : State} (h : LifeLegal s) : LifeLegal (doCommit s).1 := by
  unfold doCommit
  split
  · exact h
  · split
    · exact h
    · split
      · exact h
      · exact h
      · exact lifeLegal_acceptCommit h

theorem lifeLegal_portResetBlocks {s : State} (h : LifeLegal s) : LifeLegal (portResetBlocks s) := by
  refine lifeLegal_of_kept h (by simp) ?_
  unfold portResetBlocks
  rw [finishWriteDrains_living, settle_living]
  funext i
  simp only [State.living, Tab.get_ofFn, portResetLife]
  split <;> simp [*]

/-- Every command that configures keeps life states at exactly the enabled CHECKED entries. -/
theorem lifeLegal_reconfigures {c : Instr} {s t : State} (hc : reconfigures c = true) (h : exec c s = .next t)
    (hs : LifeLegal s) : LifeLegal t := by
  cases c with
  | powerOnReset => cases h; exact lifeLegal_reset
  | portResetAssert =>
    simp only [exec, execPortResetAssert] at h
    split at h
    · cases h; exact hs
    · split at h
      · cases h; exact hs
      · cases h
        unfold portResetCommit
        split
        · exact lifeLegal_cutDrain (lifeLegal_portResetBlocks hs) _ _
        · exact lifeLegal_portResetBlocks hs
  | drainTimerExpiry =>
    simp only [exec, execDrainTimerExpiry] at h
    split at h
    · exact stepWhen_keeps h hs fun _ _ => lifeLegal_releaseHeld (lifeLegal_cutDrain hs _ _) true
    · cases h; exact hs
  | drainComplete =>
    simp only [exec, execDrainComplete] at h
    split at h
    · exact stepWhen_keeps h hs fun _ _ => lifeLegal_completeDrain hs _ true
    · cases h; exact hs
  | stageEntry index raw =>
    refine takeCommand_keeps (P := LifeLegal) h hs (lifeLegal_of_kept hs ?_ (living_of_sig ?_))
    all_goals
      simp only [answered_table, answered_sig]
      unfold doStageEntry
      repeat' split
      all_goals rfl
  | discard mask =>
    refine takeCommand_keeps (P := LifeLegal) h hs (lifeLegal_of_kept hs ?_ (living_of_sig ?_))
    all_goals
      simp only [answered_table, answered_sig]
      unfold doDiscard
      split <;> rfl
  | commit => exact takeCommand_keeps (P := LifeLegal) h hs (lifeLegal_of_kept (lifeLegal_doCommit hs) rfl rfl)
  | abortCommit =>
    refine takeCommand_keeps (P := LifeLegal) h hs ?_
    unfold doAbortCommit
    split
    · exact hs
    · exact lifeLegal_of_kept (lifeLegal_releaseHeld (lifeLegal_cutDrain hs _ _) false) rfl rfl
  | _ => cases hc

/-! ## Settled -/

/-- Settles O14: the commands that leave the configuration alone leave the indices with a life state alone too, and the others install
entries by the switch only. -/
theorem lifeStatesFollowTheTable : Obligations.LifeStatesFollowTheTable := fun _ _ h =>
  step_keeps (P := LifeLegal) (fun _ _ hs => hs) (fun _ hs => hs)
    (fun c s t hx hs => by
      cases hc : reconfigures c with
      | false =>
        obtain ⟨htable, -⟩ := exec_keepsConfig c s hc t hx
        exact lifeLegal_of_kept hs (by rw [htable]) (exec_keepsLiving c s hc t hx)
      | true => exact lifeLegal_reconfigures hc hx hs) h

end Sys2Proof.Machine

/-! Traffic in order: what the Transaction Table, the forwarding queue, the sending list, the presented request and the idle-gap count
have to do with one another is put in one property of those parts alone (`Lanes.Sound`), and every command is shown to change the parts
in one of a few ways: an entry joins at the end, is replaced in its place, is forwarded, or is freed. -/

namespace Sys2Proof.Machine

/-! ## The parts of the state that traffic is in -/

/-- The parts of the state that tell how far traffic has come, and whether a commit drains. -/
structure Lanes where
  txns : List Txn
  nextTag : Nat
  queue : List Nat
  sending : List Nat
  memReq : Option MemReq
  idleGap : Option IdleGap
  drains : Bool

/-- The traffic of a state. -/
def State.lanes (s : State) : Lanes :=
  { txns := s.tracker.txns, nextTag := s.tracker.nextTag, queue := s.fwd.queue, sending := s.fwd.sending, memReq := s.fwd.memReq,
    idleGap := s.fwd.idleGap, drains := s.commit.draining.isSome }

/-- An entry stands rightly before a younger one: within a stream the younger has not come further (R28, R29, R47, R54). -/
def InOrder (x y : Txn) : Prop :=
  x.tag < y.tag ∧ (sameStream x y = true → y.progress ≤ x.progress ∧ (y.phase = .forwarded → x.phase ≠ .waitingForward))

/-- Traffic is sound: every entry is legal, entries and queue are in order, nothing is held outside a drain, and queue, sending list,
presented request and idle-gap count agree with the entries. -/
structure Lanes.Sound (l : Lanes) : Prop where
  entries : ∀ x ∈ l.txns, x.tag < l.nextTag ∧ x.req.beatsLegal = true ∧ x.slotLegal = true
  order : l.txns.Pairwise InOrder
  queueOrder : l.queue.Pairwise fun a b => ∀ x ∈ l.txns, ∀ y ∈ l.txns, x.tag = a → y.tag = b → sameStream x y = true → a < b
  noneHeld : l.drains = false → ∀ x ∈ l.txns, x.isHeld = false
  queueNodup : l.queue.Nodup
  queued : ∀ tag, tag ∈ l.queue ↔ ∃ x ∈ l.txns, x.tag = tag ∧ x.phase = .waitingForward
  sendingNodup : l.sending.Nodup
  sent : ∀ tag, tag ∈ l.sending ↔ ∃ x ∈ l.txns, x.tag = tag ∧ x.isSending = true
  presented : ∀ tag, l.memReq = some (.host tag) → l.queue.head? = some tag
  gap : ∀ g, l.idleGap = some g → l.queue = [] ∧ (∀ x ∈ l.txns, x.phase ≠ .forwarded) ∧ g.count ≤ g.hold

/-- Sound traffic is what the two invariants say, together with the legality of each entry. -/
theorem lanes_sound_iff (s : State) : s.lanes.Sound ↔
    (∀ x ∈ s.tracker.txns, x.tag < s.tracker.nextTag ∧ x.req.beatsLegal = true ∧ x.slotLegal = true) ∧
    StreamsLegal s ∧ ForwarderLegal s := by
  constructor
  · intro h
    refine ⟨h.entries,
      ⟨h.order.imp fun hxy => hxy.1, h.order.imp fun hxy => hxy.2, h.queueOrder, fun hd => h.noneHeld ?_⟩,
      h.queueNodup, fun tag => (h.queued tag).1, fun x hx hw => (h.queued x.tag).2 ⟨x, hx, rfl, hw⟩,
      h.sendingNodup, fun tag => (h.sent tag).1, fun x hx hs => (h.sent x.tag).2 ⟨x, hx, rfl, hs⟩, h.presented, h.gap⟩
    simp [State.lanes, hd]
  · rintro ⟨hentries, ⟨htags, hstreams, hqueue, hheld⟩, hqn, hq1, hq2, hsn, hs1, hs2, hpres, hgap⟩
    refine ⟨hentries, htags.and hstreams, hqueue, fun hd => hheld (by simpa [State.lanes] using hd),
      hqn, fun tag => ⟨hq1 tag, ?_⟩, hsn, fun tag => ⟨hs1 tag, ?_⟩, hpres, hgap⟩
    · rintro ⟨x, hx, rfl, hw⟩; exact hq2 x hx hw
    · rintro ⟨x, hx, rfl, hs⟩; exact hs2 x hx hs

/-! ## Entries, streams and phases -/

theorem sameStream_iff (x y : Txn) : sameStream x y = true ↔ x.req.dir = y.req.dir ∧ x.req.id = y.req.id := by
  simp [sameStream]

theorem sameStream_comm (x y : Txn) : sameStream x y = sameStream y x := by
  rw [Bool.eq_iff_iff, sameStream_iff, sameStream_iff]
  exact ⟨fun h => ⟨h.1.symm, h.2.symm⟩, fun h => ⟨h.1.symm, h.2.symm⟩⟩

theorem sameStream_congr {x x' : Txn} (h : x'.req = x.req) (y : Txn) : sameStream x' y = sameStream x y := by
  simp [sameStream, h]

/-- A legal entry that does not collect and is not held has its verdict. -/
theorem progress_eq_two {x : Txn} (hl : x.slotLegal = true) (hc : x.phase ≠ .collecting) (hh : x.isHeld = false) :
    x.progress = 2 := by
  unfold Txn.progress
  cases hp : x.phase <;> simp_all [Txn.slotLegal, Txn.isHeld]

theorem progress_pos {x : Txn} (hc : x.phase ≠ .collecting) : 1 ≤ x.progress := by
  unfold Txn.progress
  cases hp : x.phase <;> simp_all

theorem progress_le_two (x : Txn) : x.progress ≤ 2 := by
  unfold Txn.progress
  split <;> decide

theorem progress_of_waiting {x : Txn} (h : x.phase = .waitingForward) : x.progress = 2 := by simp [Txn.progress, h]

theorem progress_of_forwarded {x : Txn} (h : x.phase = .forwarded) : x.progress = 2 := by simp [Txn.progress, h]

/-- Only a forwarded entry's slot is SENDING (R64). -/
theorem forwarded_of_sending {x : Txn} (hl : x.slotLegal = true) (hs : x.isSending = true) : x.phase = .forwarded := by
  unfold Txn.slotLegal at hl
  unfold Txn.isSending at hs
  split at hs
  · next hslot =>
    rw [hslot] at hl
    cases hp : x.phase <;> simp_all
  all_goals cases hs

theorem isSending_eq_false {x : Txn} (hl : x.slotLegal = true) (hp : x.phase ≠ .forwarded) : x.isSending = false :=
  Bool.eq_false_iff.2 fun hs => hp (forwarded_of_sending hl hs)

namespace Lanes

/-- The traffic after an entry's verdict: where it is FORWARD the entry is the last of the queue, and the idle-gap count is zero (R54,
R55). -/
def enter (l : Lanes) (x : Txn) : Lanes :=
  if x.phase = .waitingForward then { l with queue := l.queue ++ [x.tag], idleGap := none } else l

theorem enter_of_waiting {l : Lanes} {x : Txn} (h : x.phase = .waitingForward) :
    l.enter x = { l with queue := l.queue ++ [x.tag], idleGap := none } := if_pos h

theorem enter_of_not_waiting {l : Lanes} {x : Txn} (h : x.phase ≠ .waitingForward) : l.enter x = l := if_neg h

@[simp] theorem enter_txns (l : Lanes) (x : Txn) : (l.enter x).txns = l.txns := by unfold enter; split <;> rfl
@[simp] theorem enter_drains (l : Lanes) (x : Txn) : (l.enter x).drains = l.drains := by unfold enter; split <;> rfl

/-- Entering the queue and changing the entries are independent. -/
theorem enter_with_txns (l : Lanes) (x : Txn) (txns : List Txn) :
    { l.enter x with txns := txns } = { l with txns := txns }.enter x := by
  unfold enter; split <;> rfl

variable {l : Lanes}

theorem Sound.tags_nodup (h : l.Sound) : (l.txns.map Txn.tag).Nodup :=
  List.pairwise_map.2 (h.order.imp fun hxy => Nat.ne_of_lt hxy.1)

theorem Sound.eq_of_tag (h : l.Sound) {x y : Txn} (hx : x ∈ l.txns) (hy : y ∈ l.txns) (ht : x.tag = y.tag) : x = y :=
  List.inj_on_of_nodup_map h.tags_nodup hx hy ht

theorem Sound.waiting_of_queued (h : l.Sound) {x : Txn} (hx : x ∈ l.txns) (hq : x.tag ∈ l.queue) : x.phase = .waitingForward := by
  obtain ⟨y, hy, ht, hw⟩ := (h.queued x.tag).1 hq
  rwa [← h.eq_of_tag hy hx ht]

theorem Sound.not_queued (h : l.Sound) {x : Txn} (hx : x ∈ l.txns) (hw : x.phase ≠ .waitingForward) : x.tag ∉ l.queue :=
  fun hq => hw (h.waiting_of_queued hx hq)

theorem Sound.not_sent (h : l.Sound) {x : Txn} (hx : x ∈ l.txns) (hs : x.isSending = false) : x.tag ∉ l.sending := by
  intro hm
  obtain ⟨y, hy, he, hys⟩ := (h.sent x.tag).1 hm
  rw [h.eq_of_tag hy hx he, hs] at hys
  cases hys

/-! ## An entry leaves -/

theorem mem_filter_ne {tags : List Nat} {a b : Nat} : a ∈ tags.filter (· != b) ↔ a ∈ tags ∧ a ≠ b := by simp

theorem filter_ne_eq_self {tags : List Nat} {a : Nat} (h : a ∉ tags) : tags.filter (· != a) = tags := by
  rw [List.filter_eq_self]
  intro b hb
  simpa using fun hab : b = a => h (hab ▸ hb)

/-- An entry, its place in the queue and its place among the writes being sent go together. -/
theorem Sound.remove (h : l.Sound) {before after : List Txn} {x : Txn} (ht : l.txns = before ++ x :: after) {memReq : Option MemReq}
    (hm : ∀ tag, memReq = some (.host tag) → (l.queue.filter (· != x.tag)).head? = some tag) :
    Sound { l with
      txns := before ++ after
      queue := l.queue.filter (· != x.tag)
      sending := l.sending.filter (· != x.tag)
      memReq := memReq } := by
  have rest : ∀ y, y ∈ before ++ after ↔ y ∈ l.txns ∧ y.tag ≠ x.tag := by
    intro y
    have hn := h.tags_nodup
    rw [ht] at hn ⊢
    simp only [List.map_append, List.map_cons, List.nodup_append, List.nodup_cons, List.mem_map, List.mem_cons] at hn
    obtain ⟨-, ⟨hafter, -⟩, hbefore⟩ := hn
    simp only [List.mem_append, List.mem_cons]
    constructor
    · rintro (hy | hy)
      · exact ⟨.inl hy, fun he => hbefore y.tag ⟨y, hy, rfl⟩ x.tag (.inl rfl) he⟩
      · exact ⟨.inr (.inr hy), fun he => hafter ⟨y, hy, he⟩⟩
    · rintro ⟨hy | rfl | hy, hne⟩
      · exact .inl hy
      · exact absurd rfl hne
      · exact .inr hy
  have sub : (before ++ after).Sublist l.txns := by
    rw [ht]
    exact (List.sublist_cons_self x after).append_left before
  have split_member : ∀ (tags : List Nat) (p : Txn → Prop), (∀ tag, tag ∈ tags ↔ ∃ y ∈ l.txns, y.tag = tag ∧ p y) →
      ∀ tag, tag ∈ tags.filter (· != x.tag) ↔ ∃ y ∈ before ++ after, y.tag = tag ∧ p y := by
    intro tags p htags tag
    rw [mem_filter_ne, htags]
    constructor
    · rintro ⟨⟨y, hy, rfl, hp⟩, hne⟩
      exact ⟨y, (rest y).2 ⟨hy, hne⟩, rfl, hp⟩
    · rintro ⟨y, hy, rfl, hp⟩
      exact ⟨⟨y, ((rest y).1 hy).1, rfl, hp⟩, ((rest y).1 hy).2⟩
  exact
    { entries := fun y hy => h.entries y (sub.subset hy)
      order := h.order.sublist sub
      queueOrder := (h.queueOrder.sublist List.filter_sublist).imp fun {a b} hab y hy z hz =>
        hab y (sub.subset hy) z (sub.subset hz)
      noneHeld := fun hd y hy => h.noneHeld hd y (sub.subset hy)
      queueNodup := h.queueNodup.filter _
      queued := split_member _ _ h.queued
      sendingNodup := h.sendingNodup.filter _
      sent := split_member _ _ h.sent
      presented := hm
      gap := fun g hg => by
        obtain ⟨hq, hf, hc⟩ := h.gap g hg
        exact ⟨by simp [hq], fun y hy => hf y (sub.subset hy), hc⟩ }

/-- An entry that neither waits in the queue nor is being sent is freed (R50). -/
theorem Sound.free (h : l.Sound) {before after : List Txn} {x : Txn} (ht : l.txns = before ++ x :: after)
    (hw : x.phase ≠ .waitingForward) (hs : x.isSending = false) : Sound { l with txns := before ++ after } := by
  have hx : x ∈ l.txns := by simp [ht]
  have notQueued := h.not_queued hx hw
  have notSent := h.not_sent hx hs
  have removed := h.remove ht (memReq := l.memReq) (by rw [filter_ne_eq_self notQueued]; exact h.presented)
  rwa [filter_ne_eq_self notQueued, filter_ne_eq_self notSent] at removed

/-! ## An entry comes in -/

section Places

/-! An entry `x` is about to stand between `before` and `after`, in order with both. -/

variable {before after : List Txn} {x : Txn} (h : l.Sound) (ht : l.txns = before ++ after)
  (hbefore : ∀ y ∈ before, InOrder y x) (hafter : ∀ y ∈ after, InOrder x y)
include ht

theorem mem_place (y : Txn) : y ∈ before ++ x :: after ↔ y ∈ l.txns ∨ y = x := by
  rw [ht]
  simp only [List.mem_append, List.mem_cons]
  tauto

include h hbefore hafter

theorem Sound.place_fresh : (∀ y ∈ l.txns, y.tag ≠ x.tag) ∧ x.tag ∉ l.queue := by
  have fresh : ∀ y ∈ l.txns, y.tag ≠ x.tag := by
    intro y hy
    rw [ht, List.mem_append] at hy
    rcases hy with hy | hy
    · exact Nat.ne_of_lt (hbefore y hy).1
    · exact (Nat.ne_of_lt (hafter y hy).1).symm
  refine ⟨fresh, fun hq => ?_⟩
  obtain ⟨y, hy, he, -⟩ := (h.queued _).1 hq
  exact fresh y hy he

theorem Sound.place_order : (before ++ x :: after).Pairwise InOrder := by
  have horder := h.order
  rw [ht, List.pairwise_append] at horder
  obtain ⟨hb, ha, hba⟩ := horder
  rw [List.pairwise_append, List.pairwise_cons]
  refine ⟨hb, ⟨hafter, ha⟩, fun y hy z hz => ?_⟩
  rcases List.mem_cons.1 hz with rfl | hz
  · exact hbefore y hy
  · exact hba y hy z hz

/-- The queue stays in order as an entry that is not in it takes its place. -/
theorem Sound.place_queueOrder : l.queue.Pairwise fun a b =>
    ∀ y ∈ before ++ x :: after, ∀ z ∈ before ++ x :: after, y.tag = a → z.tag = b → sameStream y z = true → a < b := by
  obtain ⟨-, freshQueue⟩ := h.place_fresh ht hbefore hafter
  refine List.Pairwise.imp_of_mem (fun {a b} ha hb hab y hy z hz hya hzb => ?_) h.queueOrder
  rcases (mem_place ht y).1 hy with hy | rfl
  · rcases (mem_place ht z).1 hz with hz | rfl
    · exact hab y hy z hz hya hzb
    · exact absurd (hzb ▸ hb) freshQueue
  · exact absurd (hya ▸ ha) freshQueue

/-- The queue stays in order as an entry joins it at its end, where no younger one of its stream waits in it. -/
theorem Sound.enter_queueOrder (hwait : ∀ y ∈ after, sameStream y x = true → y.phase ≠ .waitingForward) :
    (l.queue ++ [x.tag]).Pairwise fun a b =>
      ∀ y ∈ before ++ x :: after, ∀ z ∈ before ++ x :: after, y.tag = a → z.tag = b → sameStream y z = true → a < b := by
  obtain ⟨fresh, freshQueue⟩ := h.place_fresh ht hbefore hafter
  refine List.pairwise_append.2 ⟨h.place_queueOrder ht hbefore hafter, List.pairwise_singleton _ _, ?_⟩
  rintro a ha b hb y hy z hz rfl hzb hstream
  rw [List.mem_singleton] at hb
  subst hb
  have hzx : z = x := by
    rcases (mem_place ht z).1 hz with hz | rfl
    · exact absurd hzb (fresh z hz)
    · rfl
  rw [hzx] at hstream
  rcases (mem_place ht y).1 hy with hy | rfl
  · have hyw := h.waiting_of_queued hy ha
    rw [ht, List.mem_append] at hy
    rcases hy with hy | hy
    · exact (hbefore y hy).1
    · exact absurd hyw (hwait y hy hstream)
  · exact absurd ha freshQueue

/-- An entry takes a place among the others, in order with them, and at the end of the queue where it waits to be forwarded. -/
theorem Sound.insert {n : Nat} {sending : List Nat} (hn : l.nextTag ≤ n)
    (hx : x.tag < n ∧ x.req.beatsLegal = true ∧ x.slotLegal = true) (hheld : l.drains = false → x.isHeld = false)
    (hwait : x.phase = .waitingForward → ∀ y ∈ after, sameStream y x = true → y.phase ≠ .waitingForward)
    (hgap : x.phase = .forwarded → l.idleGap = none)
    (hsn : sending.Nodup) (hsent : ∀ tag, tag ∈ sending ↔ tag ∈ l.sending ∨ tag = x.tag ∧ x.isSending = true) :
    Sound ({ l with txns := before ++ x :: after, nextTag := n, sending := sending }.enter x) := by
  have mem := mem_place ht (x := x)
  obtain ⟨-, freshQueue⟩ := h.place_fresh ht hbefore hafter
  have order := h.place_order ht hbefore hafter
  have entries : ∀ y ∈ before ++ x :: after, y.tag < n ∧ y.req.beatsLegal = true ∧ y.slotLegal = true := by
    intro y hy
    rcases (mem y).1 hy with hy | rfl
    · obtain ⟨htag, hrest⟩ := h.entries y hy
      exact ⟨by omega, hrest⟩
    · exact hx
  have noneHeld : l.drains = false → ∀ y ∈ before ++ x :: after, y.isHeld = false := by
    intro hd y hy
    rcases (mem y).1 hy with hy | rfl
    · exact h.noneHeld hd y hy
    · exact hheld hd
  have member : ∀ (p : Txn → Prop) (tag : Nat), (∃ y ∈ before ++ x :: after, y.tag = tag ∧ p y) ↔
      (∃ y ∈ l.txns, y.tag = tag ∧ p y) ∨ tag = x.tag ∧ p x := by
    intro p tag
    constructor
    · rintro ⟨y, hy, rfl, hp⟩
      rcases (mem y).1 hy with hy | rfl
      · exact .inl ⟨y, hy, rfl, hp⟩
      · exact .inr ⟨rfl, hp⟩
    · rintro (⟨y, hy, he, hp⟩ | ⟨rfl, hp⟩)
      · exact ⟨y, (mem y).2 (.inl hy), he, hp⟩
      · exact ⟨x, (mem x).2 (.inr rfl), rfl, hp⟩
  have sent : ∀ tag, tag ∈ sending ↔ ∃ y ∈ before ++ x :: after, y.tag = tag ∧ y.isSending = true := by
    intro tag
    rw [hsent, h.sent, member]
  by_cases hw : x.phase = .waitingForward
  · rw [enter_of_waiting hw]
    exact
      { entries := entries, order := order, noneHeld := noneHeld, sendingNodup := hsn, sent := sent
        queueOrder := h.enter_queueOrder ht hbefore hafter (hwait hw)
        queueNodup := by
          refine List.nodup_append.2 ⟨h.queueNodup, List.nodup_singleton _, fun a ha b hb => ?_⟩
          rw [List.mem_singleton.1 hb]
          exact fun he => freshQueue (he ▸ ha)
        queued := fun tag => by
          rw [List.mem_append, List.mem_singleton, h.queued, member]
          simp [hw]
        presented := fun tag hm => by
          rw [List.head?_append, h.presented tag hm]
          rfl
        gap := nofun }
  · rw [enter_of_not_waiting hw]
    exact
      { entries := entries, order := order, noneHeld := noneHeld, sendingNodup := hsn, sent := sent
        queueOrder := h.place_queueOrder ht hbefore hafter
        queueNodup := h.queueNodup
        queued := fun tag => by
          rw [h.queued, member]
          simp [hw]
        presented := h.presented
        gap := fun g hg => by
          obtain ⟨hq, hf, hc⟩ := h.gap g hg
          refine ⟨hq, fun y hy hyf => ?_, hc⟩
          rcases (mem y).1 hy with hy | rfl
          · exact hf y hy hyf
          · rw [hgap hyf] at hg; cases hg }

end Places

/-- A new entry joins at the end, with the next tag (R45). -/
theorem Sound.append (h : l.Sound) {x : Txn} (htag : x.tag = l.nextTag) (hx : x.req.beatsLegal = true ∧ x.slotLegal = true)
    (hbefore : ∀ y ∈ l.txns, sameStream y x = true → x.progress ≤ y.progress) (hf : x.phase ≠ .forwarded)
    (hs : x.isSending = false) (hheld : l.drains = false → x.isHeld = false) :
    Sound ({ l with txns := l.txns ++ [x], nextTag := l.nextTag + 1 }.enter x) :=
  h.insert (before := l.txns) (after := []) (n := l.nextTag + 1) (by simp)
    (fun y hy => ⟨by have := (h.entries y hy).1; omega, fun hsame => ⟨hbefore y hy hsame, fun hxf => absurd hxf hf⟩⟩)
    nofun (Nat.le_succ _) ⟨by omega, hx⟩ hheld (fun _ => nofun) (fun hxf => absurd hxf hf) h.sendingNodup (by simp [hs])

/-- What an entry in order with the others tells of the entries around it. -/
theorem Sound.around (h : l.Sound) {before after : List Txn} {x : Txn} (ht : l.txns = before ++ x :: after) :
    (∀ y ∈ before, InOrder y x) ∧ ∀ y ∈ after, InOrder x y := by
  have horder := h.order
  rw [ht, List.pairwise_append, List.pairwise_cons] at horder
  obtain ⟨-, ⟨hafter, -⟩, hbefore⟩ := horder
  exact ⟨fun y hy => hbefore y hy x List.mem_cons_self, hafter⟩

/-- An entry that does not wait in the queue is replaced in its place by one that has come as far or further, but not beyond those
before it in its stream. -/
theorem Sound.replace (h : l.Sound) {before after : List Txn} {x x' : Txn} {sending : List Nat} (ht : l.txns = before ++ x :: after)
    (hw : x.phase ≠ .waitingForward) (htag : x'.tag = x.tag) (hreq : x'.req = x.req) (hlegal : x'.slotLegal = true)
    (hbefore : ∀ y ∈ before, sameStream y x = true → x'.progress ≤ y.progress) (hup : x.progress ≤ x'.progress)
    (hforw : x'.phase = .forwarded → x.phase = .forwarded) (hwait : x'.phase = .waitingForward → x.progress < 2)
    (hheld : l.drains = false → x'.isHeld = false) (hsn : sending.Nodup)
    (hsent : ∀ tag, tag ∈ sending ↔ tag ∈ l.sending ∧ tag ≠ x.tag ∨ tag = x.tag ∧ x'.isSending = true) :
    Sound ({ l with txns := before ++ x' :: after, sending := sending }.enter x') := by
  have hx : x ∈ l.txns := by simp [ht]
  have notQueued := h.not_queued hx hw
  obtain ⟨older, younger⟩ := h.around ht
  have removed := h.remove ht (memReq := l.memReq) (by rw [filter_ne_eq_self notQueued]; exact h.presented)
  rw [filter_ne_eq_self notQueued] at removed
  have early : x.progress < 2 → ∀ y ∈ after, sameStream x y = true → y.phase ≠ .waitingForward ∧ y.phase ≠ .forwarded := by
    intro hlt y hy hsame
    have hle := ((younger y hy).2 hsame).1
    refine ⟨fun hyw => ?_, fun hyf => ?_⟩
    · rw [progress_of_waiting hyw] at hle; omega
    · rw [progress_of_forwarded hyf] at hle; omega
  obtain ⟨hlt, hbeats, -⟩ := h.entries x hx
  refine removed.insert rfl ?_ ?_ (Nat.le_refl _) ⟨by rw [htag]; exact hlt, by rw [hreq]; exact hbeats, hlegal⟩ hheld ?_ ?_ hsn ?_
  · intro y hy
    refine ⟨by rw [htag]; exact (older y hy).1, fun hsame => ?_⟩
    rw [sameStream_comm, sameStream_congr hreq, sameStream_comm] at hsame
    exact ⟨hbefore y hy hsame, fun hf => ((older y hy).2 hsame).2 (hforw hf)⟩
  · intro y hy
    refine ⟨by rw [htag]; exact (younger y hy).1, fun hsame => ?_⟩
    rw [sameStream_congr hreq] at hsame
    exact ⟨((younger y hy).2 hsame).1.trans hup, fun hyf hw' => (early (hwait hw') y hy hsame).2 hyf⟩
  · intro hw' y hy hsame
    rw [sameStream_comm, sameStream_congr hreq] at hsame
    exact (early (hwait hw') y hy hsame).1
  · intro hf
    cases hg : l.idleGap with
    | none => rfl
    | some g => exact absurd (hforw hf) ((h.gap g hg).2.1 x hx)
  · intro tag
    rw [hsent, mem_filter_ne, htag]

/-- The replacement of an entry where neither it nor the one in its place is being sent. -/
theorem Sound.replaceUnsent (h : l.Sound) {before after : List Txn} {x x' : Txn} (ht : l.txns = before ++ x :: after)
    (hw : x.phase ≠ .waitingForward) (hs : x.isSending = false) (hs' : x'.isSending = false) (htag : x'.tag = x.tag)
    (hreq : x'.req = x.req) (hlegal : x'.slotLegal = true)
    (hbefore : ∀ y ∈ before, sameStream y x = true → x'.progress ≤ y.progress) (hup : x.progress ≤ x'.progress)
    (hforw : x'.phase = .forwarded → x.phase = .forwarded) (hwait : x'.phase = .waitingForward → x.progress < 2)
    (hheld : l.drains = false → x'.isHeld = false) : Sound ({ l with txns := before ++ x' :: after }.enter x') := by
  have notSent := h.not_sent (x := x) (by simp [ht]) hs
  refine h.replace (sending := l.sending) ht hw htag hreq hlegal hbefore hup hforw hwait hheld h.sendingNodup fun tag => ?_
  simp only [hs', Bool.false_eq_true, and_false, or_false]
  exact ⟨fun hm => ⟨hm, fun he => notSent (he ▸ hm)⟩, fun hm => hm.1⟩

/-- An entry that is neither in the queue nor being sent is replaced by one that has come as far, and is forwarded or held only if it
was. -/
theorem Sound.update (h : l.Sound) {before after : List Txn} {x x' : Txn} (ht : l.txns = before ++ x :: after)
    (hw : x.phase ≠ .waitingForward) (hw' : x'.phase ≠ .waitingForward) (hs : x.isSending = false) (hs' : x'.isSending = false)
    (htag : x'.tag = x.tag) (hreq : x'.req = x.req) (hprogress : x'.progress = x.progress) (hlegal : x'.slotLegal = true)
    (hforw : x'.phase = .forwarded → x.phase = .forwarded) (hheld : x'.isHeld = x.isHeld) :
    Sound { l with txns := before ++ x' :: after } := by
  have replaced := h.replaceUnsent ht hw hs hs' htag hreq hlegal
    (fun y hy hsame => by rw [hprogress]; exact (((h.around ht).1 y hy).2 hsame).1) hprogress.ge hforw (fun hc => absurd hc hw')
    (fun hd => by rw [hheld]; exact h.noneHeld hd x (by simp [ht]))
  rwa [enter_of_not_waiting hw'] at replaced

/-- The head of the queue is forwarded (R54, R64). -/
theorem Sound.forward (h : l.Sound) {before after : List Txn} {x x' : Txn} {rest : List Nat} (ht : l.txns = before ++ x :: after)
    (hq : l.queue = x.tag :: rest) (htag : x'.tag = x.tag) (hreq : x'.req = x.req) (hphase : x'.phase = .forwarded)
    (hlegal : x'.slotLegal = true) :
    Sound { l with
      txns := before ++ x' :: after
      queue := l.queue.filter (· != x.tag)
      sending := if x'.isSending then l.sending ++ [x.tag] else l.sending
      memReq := none } := by
  have hx : x ∈ l.txns := by simp [ht]
  obtain ⟨older, younger⟩ := h.around ht
  have hw := h.waiting_of_queued hx (by simp [hq])
  have hprogress : x'.progress = x.progress := by rw [progress_of_forwarded hphase, progress_of_waiting hw]
  have notSent := h.not_sent hx (isSending_eq_false (h.entries x hx).2.2 (by simp [hw]))
  have noGap : l.idleGap = none := by
    cases hg : l.idleGap with
    | none => rfl
    | some g => rw [(h.gap g hg).1] at hq; cases hq
  have oldest : ∀ y ∈ before, sameStream y x = true → y.phase ≠ .waitingForward := by
    intro y hy hsame hyw
    have hyt : y ∈ l.txns := by simp [ht, hy]
    have hyq := (h.queued y.tag).2 ⟨y, hyt, rfl, hyw⟩
    have hlt := (older y hy).1
    rw [hq] at hyq
    rcases List.mem_cons.1 hyq with he | hyr
    · omega
    · have hqo := h.queueOrder
      rw [hq, List.pairwise_cons] at hqo
      have := hqo.1 y.tag hyr x hx y hyt rfl rfl (by rw [sameStream_comm]; exact hsame)
      omega
  have removed := h.remove ht (memReq := none) nofun
  rw [filter_ne_eq_self notSent] at removed
  obtain ⟨hlt, hbeats, -⟩ := h.entries x hx
  have inserted := removed.insert (x := x') (sending := if x'.isSending then l.sending ++ [x.tag] else l.sending) rfl
    (fun y hy => ⟨by rw [htag]; exact (older y hy).1, fun hsame => by
      rw [sameStream_comm, sameStream_congr hreq, sameStream_comm] at hsame
      exact ⟨by rw [hprogress]; exact ((older y hy).2 hsame).1, fun _ => oldest y hy hsame⟩⟩)
    (fun y hy => ⟨by rw [htag]; exact (younger y hy).1, fun hsame => by
      rw [sameStream_congr hreq] at hsame
      exact ⟨by rw [hprogress]; exact ((younger y hy).2 hsame).1, fun _ => by simp [hphase]⟩⟩)
    (Nat.le_refl _) ⟨by rw [htag]; exact hlt, by rw [hreq]; exact hbeats, hlegal⟩
    (fun _ => by simp [Txn.isHeld, hphase]) (by simp [hphase]) (fun _ => noGap)
    (by
      split
      · refine List.nodup_append.2 ⟨h.sendingNodup, List.nodup_singleton _, fun a ha b hb => ?_⟩
        rw [List.mem_singleton.1 hb]
        exact fun he => notSent (he ▸ ha)
      · exact h.sendingNodup)
    (fun tag => by cases x'.isSending <;> simp [htag])
  rwa [enter_of_not_waiting (by simp [hphase])] at inserted

/-! ## Drains, and the empty table -/

/-- A drain may begin at any time. -/
theorem Sound.draining (h : l.Sound) : Sound { l with drains := true } := { h with noneHeld := nofun }

/-- Where nothing is held it is the same whether a commit drains. -/
theorem Sound.of_none_held {b : Bool} (h : l.Sound) (hn : ∀ x ∈ l.txns, x.isHeld = false) : Sound { l with drains := b } :=
  { h with noneHeld := fun _ => hn }

/-- With no entry and nothing queued, sent, presented or counted, traffic is sound. -/
theorem sound_of_empty (l : Lanes) (ht : l.txns = []) (hq : l.queue = []) (hs : l.sending = []) (hm : l.memReq = none)
    (hg : l.idleGap = none) : l.Sound := by
  constructor <;> simp [ht, hq, hs, hm, hg]

end Lanes

end Sys2Proof.Machine

/-! Every command keeps traffic sound. The verdict of an entry (R47), wherever it is reached, puts an entry in the place of one whose
verdict is still to come; the other commands free an entry, forward one, change one within its phase, or leave the traffic alone. -/

namespace Sys2Proof.Machine

/-! ## Operations that leave the traffic alone -/

theorem lanes_of_same {s t : State} (ht : t.tracker = s.tracker) (hf : t.fwd = s.fwd) (hc : t.commit = s.commit) :
    t.lanes = s.lanes := by
  unfold State.lanes
  rw [ht, hf, hc]

@[simp] theorem raise_lanes (s : State) (e : Event) : (raise s e).lanes = s.lanes := rfl

@[simp] theorem setTxn_lanes (s : State) (x : Txn) : (setTxn s x).lanes = { s.lanes with txns := putTxn s.tracker.txns x } := rfl

@[simp] theorem enqueue_lanes (s : State) (tag : Nat) :
    (enqueue s tag).lanes = { s.lanes with queue := s.lanes.queue ++ [tag], idleGap := none } := rfl

@[simp] theorem giveChannel_lanes (s : State) : (giveChannel s).lanes = s.lanes := by
  rcases giveChannel_cases s with h | ⟨tag, h⟩ | h <;> rw [h] <;> rfl

@[simp] theorem noteEligible_lanes (s : State) : (noteEligible s).lanes = s.lanes := by
  obtain ⟨g, h⟩ := noteEligible_only s
  rw [h]; rfl

@[simp] theorem takeTurns_lanes (s : State) : (takeTurns s).lanes = s.lanes := (giveChannel_lanes _).trans (noteEligible_lanes s)

@[simp] theorem afterVerdict_lanes (s : State) (x : Txn) : (afterVerdict s x).lanes = s.lanes := by
  unfold afterVerdict
  split
  · exact takeTurns_lanes s
  · rfl

@[simp] theorem takeBetween_lanes (s : State) (c : DirtyCommand) : (takeBetween s c).lanes = s.lanes := by
  unfold State.lanes
  rw [takeBetween_tracker, takeBetween_fwd, takeBetween_commit]

@[simp] theorem addTracked_lanes (s : State) (host : HostId) (b : Ix × Entry × Granule × Nat) :
    (addTracked s host b).lanes = s.lanes := lanes_of_same (by simp) (by simp) (by simp)

@[simp] theorem addTrackedBlocks_lanes (s : State) (host : HostId) (between : List DirtyCommand)
    (bs : List (Ix × Entry × Granule × Nat)) : (addTrackedBlocks s host between bs).lanes = s.lanes := by
  unfold addTrackedBlocks
  split
  · rfl
  · simp
  · exact (foldl_keeps State.lanes _ (fun t b => addTracked_lanes t host b) _ _).trans
      ((foldl_keeps State.lanes _ takeBetween_lanes _ _).trans (addTracked_lanes s host _))

@[simp] theorem handOff_lanes (s : State) (r : Request) (bs : List WriteBeat) (between : List DirtyCommand) :
    (handOff s r bs between).lanes = s.lanes :=
  (addTrackedBlocks_lanes ..).trans (lanes_of_same (by simp) (by simp) (by simp))

/-! ## Verdicts -/

/-- The slot of an entry that is judged: full for a WRITE, none for a READ (R47, R62). -/
def Txn.SlotReady (x : Txn) : Prop :=
  x.req.dir = .read ∧ x.slot = none ∨ x.req.dir = .write ∧ ∃ beats, x.slot = some { state := .full, beats := beats }

theorem slotReady_of_held {x : Txn} (h : x.isHeld = true) (hl : x.slotLegal = true) : x.SlotReady := by
  unfold Txn.isHeld at h
  unfold Txn.slotLegal at hl
  unfold Txn.SlotReady
  cases hp : x.phase <;> simp_all
  cases hs : x.slot with
  | none => simp_all
  | some slot => obtain ⟨state, beats⟩ := slot; cases state <;> simp_all

/-- What a verdict time makes of an entry and of the traffic (R47, R54): the entry is forwarded, answered or held, and the traffic
changes by a forwarded entry's place in the queue alone. -/
structure Judged (s : State) (x : Txn) (r : State × Txn) : Prop where
  tag : r.2.tag = x.tag
  req : r.2.req = x.req
  slotLegal : r.2.slotLegal = true
  notSending : r.2.isSending = false
  notForwarded : r.2.phase ≠ .forwarded
  progress : r.2.progress = if r.2.isHeld then 1 else 2
  lanes : r.1.lanes = s.lanes.enter r.2

/-- The entry waits in the queue, its slot as it was. -/
theorem judged_forward {s t : State} {x y : Txn} (hx : x.SlotReady) (htag : y.tag = x.tag) (hreq : y.req = x.req)
    (hphase : y.phase = .waitingForward) (hslot : y.slot = x.slot)
    (hlanes : t.lanes = { s.lanes with queue := s.lanes.queue ++ [x.tag], idleGap := none }) : Judged s x (t, y) where
  tag := htag
  req := hreq
  slotLegal := by rcases hx with ⟨hd, hs⟩ | ⟨hd, beats, hs⟩ <;> simp [Txn.slotLegal, hphase, hslot, hs, hreq, hd]
  notSending := by rcases hx with ⟨-, hs⟩ | ⟨-, beats, hs⟩ <;> simp [Txn.isSending, hslot, hs]
  notForwarded := by simp [hphase]
  progress := by simp [Txn.progress, Txn.isHeld, hphase]
  lanes := by rw [Lanes.enter_of_waiting hphase, htag, hlanes]

/-- The entry is answered locally, and holds no slot. -/
theorem judged_answer {s t : State} {x y : Txn} {v : LocalVerdict} {st : RespStatus} (htag : y.tag = x.tag) (hreq : y.req = x.req)
    (hphase : y.phase = .localAnswer v st) (hslot : y.slot = none) (hlanes : t.lanes = s.lanes) : Judged s x (t, y) where
  tag := htag
  req := hreq
  slotLegal := by simp [Txn.slotLegal, hphase, hslot]
  notSending := by simp [Txn.isSending, hslot]
  notForwarded := by simp [hphase]
  progress := by simp [Txn.progress, Txn.isHeld, hphase]
  lanes := by rw [Lanes.enter_of_not_waiting (by simp [hphase]), hlanes]

/-- The entry is held, its slot as it was. -/
theorem judged_hold {s : State} {x : Txn} (hx : x.SlotReady) (why : Held) : Judged s x (s, { x with phase := .held why }) where
  tag := rfl
  req := rfl
  slotLegal := by rcases hx with ⟨hd, hs⟩ | ⟨hd, beats, hs⟩ <;> simp [Txn.slotLegal, hs, hd]
  notSending := by rcases hx with ⟨-, hs⟩ | ⟨-, beats, hs⟩ <;> simp [Txn.isSending, hs]
  notForwarded := nofun
  progress := rfl
  lanes := (Lanes.enter_of_not_waiting (by simp)).symm

theorem Judged.txns {s : State} {x : Txn} {r : State × Txn} (h : Judged s x r) : r.1.tracker.txns = s.tracker.txns :=
  (congrArg Lanes.txns h.lanes).trans (Lanes.enter_txns _ _)

theorem judge_judged (s : State) {x : Txn} (hx : x.SlotReady) (between : List DirtyCommand) :
    Judged s x (judge s x between) ∧ (judge s x between).2.isHeld = false := by
  unfold judge
  split
  · exact ⟨judged_answer rfl rfl rfl rfl rfl, rfl⟩
  · split
    · next hd =>
      have noSlot : x.slot = none := by
        rcases hx with ⟨-, hs⟩ | ⟨hw, -⟩
        · exact hs
        · rw [hd] at hw; cases hw
      unfold judgeRead
      split
      · exact ⟨judged_answer rfl rfl rfl noSlot rfl, rfl⟩
      · exact ⟨judged_forward hx rfl rfl rfl rfl rfl, rfl⟩
    · unfold judgeWrite
      dsimp only
      split
      · refine ⟨judged_forward hx rfl rfl rfl rfl ?_, rfl⟩
        rw [enqueue_lanes, handOff_lanes, lanes_of_same (s := s) (by simp) (by simp) (by simp)]
      · exact ⟨judged_answer rfl rfl rfl rfl (lanes_of_same (by simp) (by simp) (by simp)), rfl⟩

/-- The verdict time of an entry: it is held only while a commit drains, and judged only where no earlier one of its stream is held
(R28, R29). -/
theorem verdictTime_judged (s : State) (earlier : List Txn) {x : Txn} (hx : x.SlotReady) (between : List DirtyCommand) :
    Judged s x (verdictTime s earlier x between) ∧
      ((verdictTime s earlier x between).2.isHeld = true → s.commit.draining ≠ none) ∧
      ((verdictTime s earlier x between).2.isHeld = false → s.commit.draining ≠ none →
        ∀ y ∈ earlier, sameStream y x = true → y.isHeld = false) := by
  obtain ⟨judged, notHeld⟩ := judge_judged s hx between
  unfold verdictTime
  split
  · next hd => exact ⟨judged, fun h => (by rw [notHeld] at h; cases h), fun _ h => absurd hd h⟩
  · next d hd =>
    have draining : s.commit.draining ≠ none := by simp [hd]
    split
    · exact ⟨judged_hold hx .stream, fun _ => draining, nofun⟩
    · next hany =>
      have free : ∀ y ∈ earlier, sameStream y x = true → y.isHeld = false := by simpa using hany
      split
      · exact ⟨judged_hold hx .range, fun _ => draining, nofun⟩
      · exact ⟨judged, fun _ => draining, fun _ _ => free⟩

/-- An entry at its verdict time comes no further than those before it in its stream, if these have come to theirs. -/
theorem verdictTime_progress {s : State} (hs : s.lanes.Sound) {earlier : List Txn} {x : Txn} (hx : x.SlotReady)
    (between : List DirtyCommand) (he : ∀ y ∈ earlier, y ∈ s.tracker.txns)
    (hc : ∀ y ∈ earlier, sameStream y x = true → y.phase ≠ .collecting) :
    ∀ y ∈ earlier, sameStream y x = true → (verdictTime s earlier x between).2.progress ≤ y.progress := by
  intro y hy hsame
  obtain ⟨judged, -, free⟩ := verdictTime_judged s earlier hx between
  rw [judged.progress]
  split
  · exact progress_pos (hc y hy hsame)
  · next hnot =>
    rw [progress_eq_two (hs.entries y (he y hy)).2.2 (hc y hy hsame)]
    by_cases hd : s.commit.draining = none
    · exact hs.noneHeld (by simp [State.lanes, hd]) y (he y hy)
    · exact free (by simpa using hnot) hd y hy hsame

/-! ## Requests and write beats -/

/-- An entry that collects is a WRITE. -/
theorem dir_of_collecting {x : Txn} (hl : x.slotLegal = true) (hp : x.phase = .collecting) : x.req.dir = .write := by
  unfold Txn.slotLegal at hl
  split at hl <;> simp_all

theorem newTxn_read (tag : Nat) {r : Request} (h : r.dir = .read) : newTxn tag r = entryOfRequest tag r .judging := by
  simp [newTxn, entryOfRequest, h]

theorem acceptRequest_sound {s : State} (hs : s.lanes.Sound) {r : Request} (hr : r.beatsLegal = true) :
    (acceptRequest s r).lanes.Sound := by
  unfold acceptRequest
  dsimp only
  split
  · next hd =>
    have positive : 0 < r.beats := by simp [Request.beatsLegal] at hr; omega
    have joined := hs.append (x := newTxn s.tracker.nextTag r) rfl ⟨hr, by simp [newTxn, Txn.slotLegal, hd, positive]⟩
      (fun y _ _ => by simp [newTxn, Txn.progress, hd]) (by simp [newTxn, hd]) (by simp [newTxn, Txn.isSending, hd])
      (fun _ => by simp [newTxn, Txn.isHeld, hd])
    rwa [Lanes.enter_of_not_waiting (by simp [newTxn, hd])] at joined
  · next hd =>
    rw [newTxn_read _ hd]
    have bumped : (bumpTag s).lanes.Sound :=
      { hs with
        entries := fun x hx => by
          obtain ⟨htag, hrest⟩ := hs.entries x hx
          exact ⟨Nat.lt_succ_of_lt htag, hrest⟩ }
    have ready : (entryOfRequest s.tracker.nextTag r .judging).SlotReady := .inl ⟨hd, rfl⟩
    obtain ⟨judged, heldWhen, -⟩ := verdictTime_judged (bumpTag s) s.tracker.txns ready []
    have far := verdictTime_progress bumped ready [] (fun y hy => hy) fun y hy hsame hc => by
      have hw := dir_of_collecting (hs.entries y hy).2.2 hc
      have hyr := ((sameStream_iff _ _).1 hsame).1
      rw [hw] at hyr
      exact nomatch hyr.trans hd
    set v := verdictTime (bumpTag s) s.tracker.txns (entryOfRequest s.tracker.nextTag r .judging) [] with hv
    have joined := hs.append (x := v.2) judged.tag ⟨by rw [judged.req]; exact hr, judged.slotLegal⟩
      (fun y hy hsame => far y hy (by rwa [sameStream_comm, sameStream_congr judged.req, sameStream_comm] at hsame))
      judged.notForwarded judged.notSending
      (fun hno => by
        rw [← Bool.not_eq_true]
        intro hheld
        exact heldWhen hheld (by simpa [State.lanes] using hno))
    rw [afterVerdict_lanes]
    have hlanes : (appendTxn v.1 v.2).lanes = { v.1.lanes with txns := s.tracker.txns ++ [v.2] } := by
      rw [show s.tracker.txns = v.1.tracker.txns from judged.txns.symm]
      rfl
    rw [hlanes, judged.lanes, Lanes.enter_with_txns]
    exact joined

/-- A write with its last beat in its slot, at its verdict time (R47, R62). -/
def Txn.filled (x : Txn) (beat : WriteBeat) (between : List DirtyCommand) : Txn :=
  { x with phase := .judging, slot := some { state := .full, beats := x.beatsHeld ++ [beat] }, between := between }

theorem storeBeat_last (s : State) {x : Txn} {offer : OfferedBeat} (h : x.req.beats ≤ x.beatsHeld.length + 1) :
    storeBeat s x offer =
      let judged := verdictTime s (acceptedBefore s.tracker.txns x) (x.filled offer.beat offer.between) offer.between
      afterVerdict (setTxn judged.1 judged.2) judged.2 := by
  unfold storeBeat
  dsimp only
  rw [if_neg (by simp; omega)]
  rfl

/-- The oldest write still collecting stands after entries that do not collect. -/
theorem collectingTxn_stands {s : State} (hs : s.lanes.Sound) {x : Txn} (h : collectingTxn s.tracker.txns = some x) :
    ∃ before after, Stands s before x after ∧ x.phase = .collecting ∧ ∀ y ∈ before, y.phase ≠ .collecting := by
  unfold collectingTxn at h
  obtain ⟨hx, before, after, htxns, hbefore⟩ := List.find?_eq_some_iff_append.1 h
  exact ⟨before, after, ⟨htxns, hs.tags_nodup⟩, by simpa using hx, by simpa using hbefore⟩

theorem storeBeat_sound {s : State} (hs : s.lanes.Sound) {x : Txn} (h : collectingTxn s.tracker.txns = some x)
    (offer : OfferedBeat) : (storeBeat s x offer).lanes.Sound := by
  obtain ⟨before, after, stands, hphase, hbefore⟩ := collectingTxn_stands hs h
  have hx : x ∈ s.tracker.txns := by simp [stands.1]
  obtain ⟨-, -, hlegal⟩ := hs.entries x hx
  have hdir := dir_of_collecting hlegal hphase
  have hnotWaiting : x.phase ≠ .waitingForward := by simp [hphase]
  have notSending := isSending_eq_false hlegal (by simp [hphase])
  by_cases hlast : x.req.beats ≤ x.beatsHeld.length + 1
  · have ready : (x.filled offer.beat offer.between).SlotReady := .inr ⟨hdir, _, rfl⟩
    obtain ⟨judged, heldWhen, -⟩ := verdictTime_judged s before ready offer.between
    have far := verdictTime_progress hs ready offer.between (fun y hy => by simp [stands.1, hy]) fun y hy _ => hbefore y hy
    rw [storeBeat_last s hlast, stands_acceptedBefore stands]
    set v := verdictTime s before (x.filled offer.beat offer.between) offer.between with hv
    have stands' : Stands v.1 before x after := by rw [Stands, judged.txns]; exact stands
    dsimp only
    rw [afterVerdict_lanes, setTxn_lanes, stands_putTxn stands' _ judged.tag, judged.lanes, Lanes.enter_with_txns]
    have low : x.progress = 0 := by simp [Txn.progress, hphase]
    refine hs.replaceUnsent stands.1 hnotWaiting notSending judged.notSending judged.tag judged.req judged.slotLegal far
      (by omega) (fun hf => absurd hf judged.notForwarded) (fun _ => by omega) (fun hno => ?_)
    rw [← Bool.not_eq_true]
    intro hheld
    exact heldWhen hheld (by simpa [State.lanes] using hno)
  · have hlt : (x.beatsHeld ++ [offer.beat]).length < x.req.beats := by simp; omega
    have put := stands_putTxn stands { x with slot := some { state := .filling, beats := x.beatsHeld ++ [offer.beat] } } rfl
    simp only [storeBeat, if_pos hlt, setTxn_lanes, put]
    exact hs.update stands.1 hnotWaiting hnotWaiting notSending rfl rfl rfl rfl
      (by simpa [Txn.slotLegal, hphase, hdir] using hlt) id rfl

/-! ## The end of a drain -/

@[simp] theorem endCommit_lanes (s : State) (o : LastOutcome) (switched left : IxSet) :
    (endCommit s o switched left).lanes = s.lanes := rfl

@[simp] theorem switchSet_lanes (s : State) (which : IxSet) : (switchSet s which).lanes = s.lanes :=
  lanes_of_same (by simp) (by simp) (by simp)

@[simp] theorem closeDrain_lanes (s : State) : (closeDrain s).lanes = { s.lanes with drains := false } := by
  simp [State.lanes]

@[simp] theorem cutDrain_lanes (s : State) (d : Drain) (o : LastOutcome) :
    (cutDrain s d o).lanes = { s.lanes with drains := false } := closeDrain_lanes s

@[simp] theorem enterDraining_lanes (s : State) (d : Drain) : (enterDraining s d).lanes = { s.lanes with drains := true } := by
  simp [enterDraining, State.lanes]

/-- Held entries judged one after the other come no further than those before them, which have had their verdicts (R32). -/
theorem releaseEach_sound (portFree : Bool) (todo : List Txn) (s : State) (done : List Txn)
    (hdone : ∀ x ∈ done, x.isHeld = false) (hs : Lanes.Sound { s.lanes with txns := done ++ todo, drains := true }) :
    Lanes.Sound { (releaseEach s portFree todo).1.lanes with
      txns := done ++ (releaseEach s portFree todo).2, drains := true } ∧
    ∀ x ∈ done ++ (releaseEach s portFree todo).2, x.isHeld = false := by
  induction todo generalizing s done with
  | nil => exact ⟨hs, by simpa [releaseEach] using hdone⟩
  | cons x rest ih =>
    unfold releaseEach
    split
    · next hx =>
      dsimp only
      obtain ⟨-, -, hlegal⟩ := hs.entries x (by simp)
      have full : x.SlotReady := slotReady_of_held hx hlegal
      have ready : Txn.SlotReady { x with phase := .judging } := full
      obtain ⟨judged, notHeld⟩ := judge_judged s ready (if portFree then x.between else [])
      set r := judge s { x with phase := .judging } (if portFree then x.between else []) with hr
      obtain ⟨why, hphase⟩ : ∃ why, x.phase = .held why := by
        unfold Txn.isHeld at hx
        split at hx <;> simp_all
      have one : x.progress = 1 := by simp [Txn.progress, hphase]
      have notSending := isSending_eq_false hlegal (by simp [hphase])
      have next := hs.replaceUnsent (x := x) (x' := r.2) rfl (by simp [hphase]) notSending judged.notSending judged.tag judged.req
        judged.slotLegal
        (fun y hy hsame => by
          have far := (((hs.around rfl).1 y hy).2 hsame).1
          have collected : y.phase ≠ .collecting := fun hc => by
            have : y.progress = 0 := by simp [Txn.progress, hc]
            omega
          rw [progress_eq_two (hs.entries y (by simp [hy])).2.2 collected (hdone y hy)]
          exact progress_le_two _)
        (by rw [judged.progress, notHeld, one]; decide) (fun hf => absurd hf judged.notForwarded) (fun _ => by omega) nofun
      have passed : Lanes.Sound { r.1.lanes with txns := (done ++ [r.2]) ++ rest, drains := true } := by
        rw [judged.lanes, List.append_assoc]
        convert next using 1
        unfold Lanes.enter
        split <;> rfl
      have finished := ih r.1 (done ++ [r.2])
        (by simp only [List.mem_append, List.mem_singleton]; rintro y (hy | rfl); exacts [hdone y hy, notHeld]) passed
      simpa only [List.append_assoc, List.singleton_append] using finished
    · next hx =>
      have finished := ih s (done ++ [x])
        (by simp only [List.mem_append, List.mem_singleton]; rintro y (hy | rfl); exacts [hdone y hy, by simpa using hx])
        (by simpa only [List.append_assoc, List.singleton_append] using hs)
      simpa only [List.append_assoc, List.singleton_append] using finished

/-- After the release nothing is held, whether or not a commit drains. -/
theorem releaseHeld_sound {s : State} (hs : Lanes.Sound { s.lanes with drains := true }) (portFree : Bool) :
    (releaseHeld s portFree).lanes.Sound := by
  obtain ⟨released, notHeld⟩ := releaseEach_sound portFree s.tracker.txns s [] nofun hs
  unfold releaseHeld
  rw [takeTurns_lanes]
  exact released.of_none_held notHeld

theorem cutDrain_released_sound {s : State} (hs : s.lanes.Sound) (d : Drain) (o : LastOutcome) (portFree : Bool) :
    (releaseHeld (cutDrain s d o) portFree).lanes.Sound :=
  releaseHeld_sound (by rw [cutDrain_lanes]; exact hs.draining) portFree

theorem completeDrain_sound {s : State} (hs : s.lanes.Sound) (d : Drain) (portFree : Bool) :
    (completeDrain s d portFree).lanes.Sound :=
  releaseHeld_sound (by rw [endCommit_lanes, switchSet_lanes, closeDrain_lanes]; exact hs.draining) portFree

theorem acceptCommit_sound {s : State} (hs : s.lanes.Sound) : (acceptCommit s).lanes.Sound := by
  have begun : (enterDraining (switchSet s (immediatePart s.table)) (newDrain s)).lanes.Sound := by
    rw [enterDraining_lanes, switchSet_lanes]
    exact hs.draining
  unfold acceptCommit
  dsimp only
  split
  · rwa [endCommit_lanes, switchSet_lanes]
  · split
    · exact completeDrain_sound begun _ _
    · exact begun

theorem doCommit_sound {s : State} (hs : s.lanes.Sound) : (doCommit s).1.lanes.Sound := by
  unfold doCommit
  split
  · exact hs
  · split
    · exact hs
    · split
      · exact hs
      · exact hs
      · exact acceptCommit_sound hs

theorem doAbortCommit_sound {s : State} (hs : s.lanes.Sound) : (doAbortCommit s).1.lanes.Sound := by
  unfold doAbortCommit
  split
  · exact hs
  · exact cutDrain_released_sound hs _ _ _

/-- With the ports reset no traffic is left (R59, R65). -/
theorem portResetCommit_sound (s : State) : (portResetCommit (portResetBlocks s)).lanes.Sound := by
  have empty : ∀ drains, Lanes.Sound { (portResetBlocks s).lanes with drains := drains } := fun drains =>
    Lanes.sound_of_empty _ (by simp [State.lanes, portResetBlocks, portResetTracker])
      (by simp [State.lanes, portResetBlocks, portResetForwarder]) (by simp [State.lanes, portResetBlocks, portResetForwarder])
      (by simp [State.lanes, portResetBlocks, portResetForwarder]) (by simp [State.lanes, portResetBlocks, portResetForwarder])
  unfold portResetCommit
  split
  · rw [cutDrain_lanes]
    exact empty false
  · exact empty _

/-! ## Entries that are found -/

theorem find_stands {s : State} (hs : s.lanes.Sound) {p : Txn → Bool} {x : Txn} (h : s.tracker.txns.find? p = some x) :
    ∃ before after, Stands s before x after ∧ p x = true := by
  obtain ⟨hx, before, after, htxns, -⟩ := List.find?_eq_some_iff_append.1 h
  exact ⟨before, after, ⟨htxns, hs.tags_nodup⟩, hx⟩

theorem findTxn_stands {s : State} (hs : s.lanes.Sound) {tag : Nat} {x : Txn} (h : findTxn s.tracker.txns tag = some x) :
    ∃ before after, Stands s before x after ∧ x.tag = tag := by
  obtain ⟨before, after, stands, hx⟩ := find_stands hs h
  exact ⟨before, after, stands, by simpa using hx⟩

theorem isSending_of_no_slot {x : Txn} (h : x.slot = none) : x.isSending = false := by simp [Txn.isSending, h]

/-! ## Local answers -/

@[simp] theorem retire_lanes (s : State) (x : Txn) :
    (retire s x).lanes = { s.lanes with txns := freeTxn s.tracker.txns x.tag } := takeTurns_lanes _

/-- An entry in LOCAL_ANSWER or RETURNING holds no slot. -/
theorem no_slot_of_answer {x : Txn} (hl : x.slotLegal = true)
    (hp : ∃ v st, x.phase = .localAnswer v st ∨ x.phase = .returning v st) : x.slot = none := by
  obtain ⟨v, st, hp⟩ := hp
  unfold Txn.slotLegal at hl
  cases hs : x.slot with
  | none => rfl
  | some slot => rcases hp with hp | hp <;> simp [hp, hs] at hl

theorem sendLocal_sound {s : State} (hs : s.lanes.Sound) (dir : Dir) (id : HostId) : (sendLocal s dir id).lanes.Sound := by
  unfold sendLocal
  split
  · next x hx =>
    obtain ⟨before, after, stands, -⟩ := find_stands hs hx
    split
    · next verdict status hphase =>
      split
      · have noSlot := no_slot_of_answer (hs.entries x (by simp [State.lanes, stands.1])).2.2 ⟨_, _, .inl hphase⟩
        have began : (beginLocal s x verdict status).lanes =
            { s.lanes with txns := before ++ { x with phase := .returning verdict status } :: after } := by
          rw [← stands_putTxn stands { x with phase := .returning verdict status } rfl]
          rfl
        rw [began]
        exact hs.update stands.1 (by simp [hphase]) nofun (isSending_of_no_slot noSlot) (isSending_of_no_slot noSlot) rfl rfl
          (by simp [Txn.progress, hphase]) (by simp [Txn.slotLegal, noSlot]) nofun (by simp [Txn.isHeld, hphase])
      · exact hs
    all_goals exact hs
  · exact hs

theorem takeLocalItem_sound {s : State} (hs : s.lanes.Sound) {x : Txn} {verdict : LocalVerdict} {status : RespStatus}
    (hx : channelTxn s = some x) (hphase : x.phase = .returning verdict status) : (takeLocalItem s x status).lanes.Sound := by
  obtain ⟨tag, -, hfind⟩ := Option.bind_eq_some_iff.1 hx
  obtain ⟨before, after, stands, -⟩ := findTxn_stands hs hfind
  have noSlot := no_slot_of_answer (hs.entries x (by simp [State.lanes, stands.1])).2.2 ⟨_, _, .inr hphase⟩
  have notSending := isSending_of_no_slot noSlot
  have waits : x.phase ≠ .waitingForward := by simp [hphase]
  unfold takeLocalItem
  dsimp only
  split
  · have put := stands_putTxn stands { x with delivered := x.delivered + 1 } rfl
    rw [setTxn_lanes, putHostItem_tracker, put]
    exact hs.update stands.1 waits waits notSending notSending rfl rfl rfl (by simp [Txn.slotLegal, hphase, noSlot]) id rfl
  · rw [retire_lanes, putHostItem_tracker, stands_freeTxn stands]
    exact hs.free stands.1 waits notSending

/-! ## Requests and beats the memory takes -/

theorem takeHostRequest_sound {s : State} (hs : s.lanes.Sound) {tag : Nat} {x : Txn} (hm : s.fwd.memReq = some (.host tag))
    (hx : findTxn s.tracker.txns tag = some x) : (takeHostRequest s x).lanes.Sound := by
  obtain ⟨before, after, stands, rfl⟩ := findTxn_stands hs hx
  have hmem : x ∈ s.lanes.txns := by simp [State.lanes, stands.1]
  obtain ⟨rest, hq⟩ := List.head?_eq_some_iff.1 (hs.presented _ hm)
  have hw := hs.waiting_of_queued hmem (by simp [hq])
  obtain ⟨-, hbeats, hlegal⟩ := hs.entries x hmem
  have positive : 0 < x.req.beats := by simp [Request.beatsLegal] at hbeats; omega
  have slots : (forwardTxn x).slotLegal = true ∧ ((forwardTxn x).isSending = true ↔ x.req.dir = .write) := by
    unfold Txn.slotLegal at hlegal
    cases hslot : x.slot with
    | none =>
      simp only [hw, hslot, beq_iff_eq] at hlegal
      simp [Txn.slotLegal, Txn.isSending, forwardTxn, hslot, hlegal]
    | some slot =>
      obtain ⟨state, beats⟩ := slot
      cases state <;> simp [hw, hslot] at hlegal
      simp [Txn.slotLegal, Txn.isSending, forwardTxn, hslot, hlegal, positive]
  have forwarded := hs.forward (x' := forwardTxn x) stands.1 hq rfl rfl rfl slots.1
  have lanes : (takeHostRequest s x).lanes = { s.lanes with
      txns := before ++ forwardTxn x :: after
      queue := s.lanes.queue.filter (· != x.tag)
      sending := if (forwardTxn x).isSending then s.lanes.sending ++ [x.tag] else s.lanes.sending
      memReq := none } := by
    rw [← stands_putTxn stands (forwardTxn x) rfl]
    simp only [slots.2]
    rfl
  rw [lanes]
  exact forwarded

theorem sendingTxn_eq_some {s : State} {x : Txn} {beats : List WriteBeat} {n : Nat} (h : sendingTxn s = some (x, beats, n)) :
    (∃ tag, findTxn s.tracker.txns tag = some x) ∧ x.slot = some { state := .sending n, beats := beats } := by
  unfold sendingTxn at h
  split at h
  · split at h
    · next hx =>
      split at h
      · next hslot => cases h; exact ⟨⟨_, hx⟩, hslot⟩
      all_goals cases h
    · cases h
  · cases h

theorem takeWriteBeat_sound {s : State} (hs : s.lanes.Sound) {x : Txn} {beats : List WriteBeat} {n : Nat}
    (h : sendingTxn s = some (x, beats, n)) : (takeWriteBeat s x beats n).lanes.Sound := by
  obtain ⟨⟨tag, hx⟩, hslot⟩ := sendingTxn_eq_some h
  obtain ⟨before, after, stands, -⟩ := findTxn_stands hs hx
  have hmem : x ∈ s.lanes.txns := by simp [State.lanes, stands.1]
  have legal := (hs.entries x hmem).2.2
  have sending : x.isSending = true := by simp [Txn.isSending, hslot]
  have phase := forwarded_of_sending legal sending
  have dir : x.req.dir = .write := by simp [Txn.slotLegal, phase, hslot] at legal; exact legal.1
  have notWaiting : x.phase ≠ .waitingForward := by simp [phase]
  have replaced : ∀ slot (sending : List Nat), Txn.slotLegal { x with slot := slot } = true → sending.Nodup →
      (∀ tag, tag ∈ sending ↔
        tag ∈ s.lanes.sending ∧ tag ≠ x.tag ∨ tag = x.tag ∧ Txn.isSending { x with slot := slot } = true) →
      Lanes.Sound { s.lanes with txns := before ++ { x with slot := slot } :: after, sending := sending } := by
    intro slot sending hlegal hnodup hmember
    have := hs.replace (x' := { x with slot := slot }) stands.1 notWaiting rfl rfl hlegal
      (fun y hy hsame => (((hs.around stands.1).1 y hy).2 hsame).1) (Nat.le_refl _) id (fun hw => absurd hw notWaiting)
      (fun hd => by simpa [Txn.isHeld] using hs.noneHeld hd x hmem) hnodup hmember
    rwa [Lanes.enter_of_not_waiting (x := { x with slot := slot }) notWaiting] at this
  unfold takeWriteBeat
  dsimp only
  split
  · next hlt =>
    have put := stands_putTxn stands { x with slot := some { state := .sending (n + 1), beats := beats } } rfl
    rw [setTxn_lanes, put]
    refine replaced _ s.lanes.sending (by simpa [Txn.slotLegal, phase, dir] using hlt) hs.sendingNodup fun tag => ?_
    have := (hs.sent x.tag).2 ⟨x, hmem, rfl, sending⟩
    by_cases htag : tag = x.tag
    · subst htag; simp [this, Txn.isSending]
    · simp [htag]
  · have put := stands_putTxn stands { x with slot := none } rfl
    rw [setTxn_lanes, put]
    exact replaced none (s.lanes.sending.filter (· != x.tag)) (by simp [Txn.slotLegal, phase]) (hs.sendingNodup.filter _)
      fun tag => by simp [Txn.isSending]

/-! ## Items of the memory -/

@[simp] theorem countError_lanes (s : State) (x : Txn) (item : MemItem) : (countError s x item).lanes = s.lanes := by
  unfold countError
  split <;> rfl

@[simp] theorem landWrite_lanes (s : State) (x : Txn) : (landWrite s x).lanes = s.lanes :=
  lanes_of_same (by simp) (by simp) (by simp)

theorem passItem_sound {s : State} (hs : s.lanes.Sound) {before after : List Txn} {x : Txn} (stands : Stands s before x after)
    (hphase : x.phase = .forwarded) (hslot : x.slot = none) (item : MemItem) : (passItem s x item).lanes.Sound := by
  have notSending := isSending_of_no_slot hslot
  have waits : x.phase ≠ .waitingForward := by simp [hphase]
  have head : (setHead (putHostItem (countError s x item) (passedItem item)) none).lanes = s.lanes := countError_lanes s x item
  have same : (setHead (putHostItem (countError s x item) (passedItem item)) none).tracker = s.tracker := by simp
  unfold passItem
  dsimp only
  split
  · have put := stands_putTxn stands
      { x with delivered := x.delivered + 1, errSeen := x.errSeen || itemStatus item == .err } rfl
    rw [setTxn_lanes, same, head, put]
    exact hs.update stands.1 waits waits notSending notSending rfl rfl rfl (by simp [Txn.slotLegal, hphase, hslot]) id rfl
  · rw [retire_lanes, landWrite_lanes, landWrite_tracker, same, head, stands_freeTxn stands]
    exact hs.free stands.1 waits notSending

theorem itemOwner_stands {s : State} (hs : s.lanes.Sound) {item : MemItem} {x : Txn} (h : itemOwner s item = some x) :
    ∃ before after, Stands s before x after ∧ x.phase = .forwarded := by
  unfold itemOwner at h
  split at h
  · cases h
  · obtain ⟨id, -, hfind⟩ := Option.bind_eq_some_iff.1 h
    obtain ⟨before, after, stands, hx⟩ := find_stands hs hfind
    exact ⟨before, after, stands, by simp only [Bool.and_eq_true, beq_iff_eq] at hx; exact hx.2⟩

theorem offerItem_sound {s : State} (hs : s.lanes.Sound) (item : MemItem) (ready : Bool) : (offerItem s item ready).lanes.Sound := by
  unfold offerItem
  split
  · next x hx =>
    obtain ⟨before, after, stands, hphase⟩ := itemOwner_stands hs hx
    split
    · have given : (giveChannel (setHead s (some item))).lanes = s.lanes := giveChannel_lanes _
      have sound : (giveChannel (setHead s (some item))).lanes.Sound := by rw [given]; exact hs
      unfold presentItem
      dsimp only
      split
      · next hpass =>
        simp only [passReady, Bool.and_eq_true, Option.isNone_iff_eq_none] at hpass
        have stands' : Stands (giveChannel (setHead s (some item))) before x after := by
          rw [Stands, show (giveChannel (setHead s (some item))).tracker.txns = s.tracker.txns from congrArg Lanes.txns given]
          exact stands
        exact passItem_sound sound stands' hphase hpass.2.1 item
      · exact sound
    · exact hs
  · split
    · exact hs
    · exact hs

/-! ## The idle gap -/

/-- While no transaction waits or is forwarded the idle-gap count may stand anywhere up to its hold (R55). -/
theorem sound_with_gap {s : State} (hs : s.lanes.Sound) (hc : gapCounts s = true) {g : IdleGap} (hg : g.count ≤ g.hold) :
    Lanes.Sound { s.lanes with idleGap := some g } := by
  simp only [gapCounts, Bool.and_eq_true, List.isEmpty_iff, beq_iff_eq, outstanding, List.countP_eq_zero] at hc
  obtain ⟨⟨-, hq⟩, hf⟩ := hc
  exact { hs with gap := by rintro _ ⟨⟩; exact ⟨hq, hf, hg⟩ }

theorem advance_sound {s : State} (hs : s.lanes.Sound) : (advance s).lanes.Sound := by
  have lanes : (advance s).lanes = { s.lanes with idleGap := tickGap s } := by simp [State.lanes, advance]
  rw [lanes]
  unfold tickGap
  split
  · next hc => exact sound_with_gap hs hc (Nat.min_le_left _ _)
  · exact { hs with gap := nofun }

/-! ## Commands that leave the traffic alone -/

/-- The commands that can change the traffic. -/
def carries : Instr → Bool
  | .powerOnReset | .portResetAssert | .hostRequestAccept _ | .hostWriteBeat _ | .hostClaimGrant | .scanClaimGrant
  | .forcedClaimGrant | .memoryRequestTaken | .memoryWriteBeatTaken | .idleGapMet | .memoryResponseItemPass _
  | .localAnswerSend _ _ _ | .localAnswerItemTaken | .drainTimerExpiry | .drainComplete | .commit | .abortCommit => true
  | _ => false

/-- An outcome whose next state, if any, has the same traffic. -/
def KeepsLanes (s : State) (o : Host.Outcome State Fault Refusal) : Prop := ∀ t, o = .next t → t.lanes = s.lanes

theorem keepsLanes_next {s u : State} (h : u.lanes = s.lanes) : KeepsLanes s (.next u) := by
  rintro t ⟨⟩; exact h

theorem keepsLanes_stepWhen {s u : State} (ready : Bool) (h : u.lanes = s.lanes) : KeepsLanes s (stepWhen ready s u) :=
  fun _ ht => stepWhen_keeps (P := fun t => t.lanes = s.lanes) ht rfl fun _ _ => h

theorem keepsLanes_takeCommand {s : State} (n : Nat) {owner : State → State × Response}
    (h : (owner s).1.lanes = s.lanes) : KeepsLanes s (takeCommand n s owner) :=
  fun _ ht => takeCommand_keeps (P := fun t => t.lanes = s.lanes) ht rfl h

/-- A command between dirty additions, given by itself, leaves the traffic alone. -/
theorem keepsLanes_between {s : State} (n : Nat) {owner : State → State × Response} (c : DirtyCommand)
    (h : takeBetween s c = commanded n s owner) : KeepsLanes s (takeCommand n s owner) :=
  keepsLanes_takeCommand n (by have := takeBetween_lanes s c; rw [h, commanded_eq] at this; exact this)

theorem keepsLanes_lifeCommand {s : State} (index : Byte) {allowed : Life → Bool} {effect : State → Ix → State × List Byte}
    (h : ∀ i, (effect s i).1.lanes = s.lanes) :
    KeepsLanes s (takeCommand 1 s fun t => lifeCommand index t allowed (effect t)) :=
  keepsLanes_takeCommand 1 (lifeCommand_keeps (P := fun t => t.lanes = s.lanes) rfl fun i _ _ _ _ _ => h i)

@[simp] theorem settle_lanes (s : State) : (settle s).lanes = s.lanes := lanes_of_same (by simp) (by simp) (by simp)

theorem verifyAt_lanes (s : State) (i : Ix) : (verifyAt s i).1.lanes = s.lanes := by
  unfold verifyAt
  split
  · rfl
  · exact settle_lanes _
  · rfl
  · rfl
  · exact (settle_lanes _).trans (lanes_of_same (meetRound_tracker s) (meetRound_fwd s) (meetRound_commit s))

theorem enableEngine_lanes (s : State) : (enableEngine s).lanes = s.lanes := by
  unfold enableEngine
  split
  · exact settle_lanes _
  · split <;> rfl
  all_goals rfl

/-- Every command but those that carry traffic leaves it alone. -/
theorem exec_keepsLanes (c : Instr) (s : State) (hc : carries c = false) : KeepsLanes s (exec c s) := by
  cases c with
  | powerOnReset | portResetAssert | hostRequestAccept | hostWriteBeat | hostClaimGrant | scanClaimGrant | forcedClaimGrant
  | memoryRequestTaken | memoryWriteBeatTaken | idleGapMet | memoryResponseItemPass | localAnswerSend | localAnswerItemTaken
  | drainTimerExpiry | drainComplete | commit | abortCommit => cases hc
  | powerOnResetRelease => exact keepsLanes_next rfl
  | portResetDeassert =>
    simp only [exec, execPortResetDeassert, resumeStarvation]
    split
    · exact keepsLanes_next rfl
    · split
      · exact keepsLanes_next rfl
      · exact keepsLanes_next (by split <;> rfl)
  | memoryResponseDiscard item =>
    simp only [exec, execMemoryResponseDiscard]
    split
    · exact keepsLanes_next rfl
    · exact keepsLanes_stepWhen _ rfl
  | chunkReadReturn data status =>
    simp only [exec, execChunkReadReturn]
    split
    · exact keepsLanes_stepWhen _ (lanes_of_same (by simp) (by simp) (by simp))
    all_goals exact keepsLanes_stepWhen _ rfl
  | chunkReadBeat data status =>
    simp only [exec, execChunkReadBeat]
    split
    all_goals exact keepsLanes_stepWhen _ rfl
  | commandFrameRejected frame partByte =>
    simp only [exec, execCommandFrameRejected]
    split
    · exact keepsLanes_stepWhen _ rfl
    · exact keepsLanes_next rfl
  | roundTimerExpiry => exact keepsLanes_stepWhen _ (lanes_of_same (by simp) (by simp) (by simp))
  | writeDrainDone => exact keepsLanes_stepWhen _ (lanes_of_same (by simp) (by simp) (by simp))
  | starvationTimerExpiry | fetch | emptyFrame => exact keepsLanes_stepWhen _ rfl
  | stageEntry index raw =>
    refine keepsLanes_takeCommand 17 ?_
    unfold doStageEntry
    split
    · rfl
    · split
      · rfl
      · split <;> rfl
  | discard mask => exact keepsLanes_takeCommand 2 (by unfold doDiscard; split <;> rfl)
  | readEntry index selector => exact keepsLanes_takeCommand 2 (by rw [doReadEntry_state])
  | openRegion index => exact keepsLanes_lifeCommand index fun i => lanes_of_same (by simp) (by simp) (by simp)
  | closeRegion index => exact keepsLanes_lifeCommand index fun i => lanes_of_same (by simp) (by simp) (by simp)
  | resign index =>
    exact keepsLanes_lifeCommand index fun i =>
      lanes_of_same (by simp [resignAt]) (by simp [resignAt]) (by simp [resignAt])
  | verify index => exact keepsLanes_lifeCommand index fun i => verifyAt_lanes s i
  | regionStatus index => exact keepsLanes_takeCommand 1 (by rw [doRegionStatus_state])
  | enable => exact keepsLanes_takeCommand 1 (enableEngine_lanes s)
  | disable => exact keepsLanes_takeCommand 1 (by unfold disableEngine scanAction; split <;> rfl)
  | resume => exact keepsLanes_takeCommand 1 (by unfold doResume; split <;> rfl)
  | readEvent => exact keepsLanes_takeCommand 0 (by unfold doReadEvent; split <;> rfl)
  | clearFlags mask => exact keepsLanes_takeCommand 1 (by unfold doClearFlags; split <;> rfl)
  | setAlertMask mask => exact keepsLanes_takeCommand 1 (by unfold doSetAlertMask; split <;> rfl)
  | setTiming => exact keepsLanes_takeCommand 10 (by unfold doSetTiming; split <;> rfl)
  | takeDirty count => exact keepsLanes_between 1 (.takeDirty count) rfl
  | clearDirty index => exact keepsLanes_between 1 (.clearDirty index) rfl
  | setDirtyThreshold threshold => exact keepsLanes_between 1 (.setDirtyThreshold threshold) rfl
  | softClear => exact keepsLanes_between 0 .softClear rfl
  | roundsOn | roundsOff => exact keepsLanes_takeCommand 1 rfl
  | commitStatus | scanStatus | eventStatus | dirtyStatus | portStatus | identify => exact keepsLanes_takeCommand 0 rfl

/-! ## Commands that carry traffic -/

theorem sound_stepWhen {ready : Bool} {s t u : State} (hs : s.lanes.Sound) (h : stepWhen ready s u = .next t)
    (hu : ready = true → u.lanes.Sound) : t.lanes.Sound :=
  stepWhen_keeps (P := fun s => s.lanes.Sound) h hs fun _ hr => hu hr

theorem sound_next {s t : State} (hs : s.lanes.Sound) (h : Host.Outcome.next (φ := Fault) (ρ := Refusal) s = .next t) :
    t.lanes.Sound := by
  cases h; exact hs

/-- Presenting a request changes what is presented alone; one of the host is that of the queue's head (R54, R56). -/
theorem sound_presenting {s : State} (hs : s.lanes.Sound) {memReq : Option MemReq}
    (h : ∀ tag, memReq = some (.host tag) → s.fwd.queue.head? = some tag) : Lanes.Sound { s.lanes with memReq := memReq } :=
  { hs with presented := h }

theorem exec_sound_of_carries {c : Instr} {s t : State} (hc : carries c = true) (hs : s.lanes.Sound) (h : exec c s = .next t) :
    t.lanes.Sound := by
  cases c with
  | powerOnReset => cases h; exact Lanes.sound_of_empty _ rfl rfl rfl rfl rfl
  | portResetAssert =>
    simp only [exec, execPortResetAssert] at h
    split at h
    · exact sound_next hs h
    · split at h
      · cases h; exact hs
      · cases h; exact portResetCommit_sound s
  | hostRequestAccept req =>
    simp only [exec, execHostRequestAccept] at h
    split at h
    · next hr => exact sound_stepWhen hs h fun _ => acceptRequest_sound hs hr
    · cases h
  | hostWriteBeat offer =>
    simp only [exec, execHostWriteBeat] at h
    split at h
    · next hx => exact sound_stepWhen hs h fun _ => storeBeat_sound hs hx offer
    · exact sound_next hs h
  | hostClaimGrant =>
    simp only [exec, execHostClaimGrant] at h
    split at h
    · next hq => exact sound_stepWhen hs h fun _ => sound_presenting hs (by rintro _ ⟨⟩; rw [hq]; rfl)
    · exact sound_next hs h
  | scanClaimGrant =>
    simp only [exec, execScanClaimGrant] at h
    split at h
    · exact sound_stepWhen hs h fun _ => sound_presenting hs nofun
    · exact sound_next hs h
  | forcedClaimGrant =>
    simp only [exec, execForcedClaimGrant] at h
    split at h
    · exact sound_stepWhen hs h fun _ => sound_presenting hs nofun
    · exact sound_next hs h
  | memoryRequestTaken =>
    simp only [exec, execMemoryRequestTaken] at h
    split at h
    · next hm =>
      split at h
      · next hx => exact sound_stepWhen hs h fun _ => takeHostRequest_sound hs hm hx
      · exact sound_next hs h
    · exact sound_stepWhen hs h fun _ => sound_presenting hs nofun
    · exact sound_next hs h
  | memoryWriteBeatTaken =>
    simp only [exec, execMemoryWriteBeatTaken] at h
    split at h
    · next hx => exact sound_stepWhen hs h fun _ => takeWriteBeat_sound hs hx
    · exact sound_next hs h
  | idleGapMet => exact sound_stepWhen hs h fun hc => sound_with_gap hs hc (Nat.le_refl _)
  | memoryResponseItemPass offer => exact sound_stepWhen hs h fun _ => offerItem_sound hs _ _
  | localAnswerSend dir id head =>
    refine sound_stepWhen hs h fun _ => sendLocal_sound ?_ dir id
    cases head with
    | none => exact hs
    | some item => exact offerItem_sound hs item false
  | localAnswerItemTaken =>
    simp only [exec, execLocalAnswerItemTaken] at h
    split at h
    · next hx =>
      split at h
      · next hp => exact sound_stepWhen hs h fun _ => takeLocalItem_sound hs hx hp
      all_goals exact sound_next hs h
    · exact sound_next hs h
  | drainTimerExpiry =>
    simp only [exec, execDrainTimerExpiry] at h
    split at h
    · exact sound_stepWhen hs h fun _ => cutDrain_released_sound hs _ _ _
    · exact sound_next hs h
  | drainComplete =>
    simp only [exec, execDrainComplete] at h
    split at h
    · exact sound_stepWhen hs h fun _ => completeDrain_sound hs _ _
    · exact sound_next hs h
  | commit => exact takeCommand_keeps (P := fun s => s.lanes.Sound) h hs (doCommit_sound hs)
  | abortCommit => exact takeCommand_keeps (P := fun s => s.lanes.Sound) h hs (doAbortCommit_sound hs)
  | _ => cases hc

theorem exec_sound {c : Instr} {s t : State} (h : exec c s = .next t) (hs : s.lanes.Sound) : t.lanes.Sound := by
  cases hc : carries c with
  | false => rw [exec_keepsLanes c s hc t h]; exact hs
  | true => exact exec_sound_of_carries hc hs h

/-! ## Settled -/

/-- Settles O17: sound traffic, which the premises say together, is kept by every command and by the passing of time. -/
theorem streamsStayInOrder : Obligations.StreamsStayInOrder := by
  intro s t h tracker streams forwarder
  obtain ⟨-, -, -, entries⟩ := tracker
  have sound : t.lanes.Sound := step_keeps (P := fun s => s.lanes.Sound) (fun _ _ hs => hs) (fun _ => advance_sound)
    (fun _ _ _ => exec_sound) h ((lanes_sound_iff s).2 ⟨entries, streams, forwarder⟩)
  exact ((lanes_sound_iff t).1 sound).2

end Sys2Proof.Machine

/-! What a verdict leaves: an equation for each way an entry is judged, then the verdict time of a read at its acceptance and of a
write at its last beat, and the release of held entries one at a time. -/

namespace Sys2Proof.Machine

/-! ## The judgment -/

theorem judge_malformed {s : State} {x : Txn} (between : List DirtyCommand) (h : requestWellFormed x.req = false) :
    judge s x between =
      ({ s with
          tracker := { s.tracker with malformed := satInc s.tracker.malformed }
          events := s.events.take (malformedEvent x.req) },
        { x with phase := .localAnswer .malformed .err, slot := none }) := by
  unfold judge
  rw [h]
  rfl

/-- The regions that refuse a read are those it meets that are CORRUPT with fail closed yes (R49). -/
theorem mem_failClosed_iff (s : State) {r : Request} (hr : r.beatsLegal = true) (i : Ix) :
    i ∈ (requestPieces s r).filterMap (failClosed s) ↔ MeetsRegion s r i ∧ RefusesReads s i := by
  obtain ⟨hfl, hshort, -⟩ := burst_bounds r hr
  simp only [List.mem_filterMap, failClosed_iff, MeetsRegion, InBurst]
  constructor
  · rintro ⟨p, hp, hregion, hrefuses⟩
    obtain ⟨h1, h2, h3, hmap⟩ := piecesOf_sound _ _ _ hfl hshort p hp
    exact ⟨⟨p.first, ⟨h1, h2.trans h3⟩, (hmap _ (Nat.le_refl _) h2).trans hregion⟩, hrefuses⟩
  · rintro ⟨⟨a, ⟨h1, h2⟩, hregion⟩, hrefuses⟩
    obtain ⟨p, hp, h3, h4⟩ := piecesOf_complete s.table.active _ _ a h1 h2
    obtain ⟨-, -, -, hmap⟩ := piecesOf_sound _ _ _ hfl hshort p hp
    exact ⟨p, hp, (hmap a h3 h4).symm.trans hregion, hrefuses⟩

theorem judge_read {s : State} {x : Txn} (between : List DirtyCommand) (hw : requestWellFormed x.req = true) (hd : x.req.dir = .read) :
    judge s x between = judgeRead s x := by
  simp [judge, hw, hd]

/-- A read is refused for the lowest region it meets that refuses reads (R49). -/
theorem judge_refusedRead {s : State} {x : Txn} (between : List DirtyCommand) (hr : x.req.beatsLegal = true)
    (hw : requestWellFormed x.req = true) (hd : x.req.dir = .read) {i : Ix} (hm : MeetsRegion s x.req i) (hi : RefusesReads s i)
    (hlow : ∀ j, MeetsRegion s x.req j → RefusesReads s j → i ≤ j) :
    judge s x between =
      ({ s with
          policy := { s.policy with refusals := s.policy.refusals.set i (satInc (s.policy.refusals.get i)) }
          events := s.events.take (readRefusedEvent i x.req) },
        { x with phase := .localAnswer (.refuse i) .err }) := by
  have lowest : lowestIx ((requestPieces s x.req).filterMap (failClosed s)) = some i := by
    refine (allIx_find_eq_some _ i).2 ⟨?_, fun j hj => ?_⟩
    · rw [List.contains_iff_mem]
      exact (mem_failClosed_iff s hr i).2 ⟨hm, hi⟩
    · rw [List.contains_iff_mem] at hj
      obtain ⟨hjm, hjr⟩ := (mem_failClosed_iff s hr j).1 hj
      exact hlow j hjm hjr
  rw [judge_read between hw hd, judgeRead, lowest]
  rfl

theorem judge_forwardedRead {s : State} {x : Txn} (between : List DirtyCommand) (hr : x.req.beatsLegal = true)
    (hw : requestWellFormed x.req = true) (hd : x.req.dir = .read) (hnone : ∀ i, MeetsRegion s x.req i → ¬RefusesReads s i) :
    judge s x between =
      ({ s with fwd := { s.fwd with queue := s.fwd.queue ++ [x.tag], idleGap := none } }, { x with phase := .waitingForward }) := by
  have lowest : lowestIx ((requestPieces s x.req).filterMap (failClosed s)) = none := by
    refine List.find?_eq_none.2 fun i _ => ?_
    rw [List.contains_iff_mem, mem_failClosed_iff s hr i]
    exact fun h => hnone i h.1 h.2
  rw [judge_read between hw hd, judgeRead, lowest]
  rfl

theorem judge_write {s : State} {x : Txn} (between : List DirtyCommand) (hw : requestWellFormed x.req = true) (hd : x.req.dir = .write) :
    judge s x between = judgeWrite s x x.beatsHeld between := by
  simp [judge, hw, hd]

/-- A write judged FORWARD as its hand-off begins: the windows it violates are counted, and it counts in flight if it has a dirty block
(R68, R92, R106). -/
def flying (s : State) (r : Request) (beats : List WriteBeat) : State :=
  { countWindows s (findings s r beats) with
    dirty := { (countWindows s (findings s r beats)).dirty with
      inFlight := if trackedBlocks s r beats ≠ [] then s.dirty.inFlight + 1 else s.dirty.inFlight } }

theorem countTracked_eq_flying (s : State) (r : Request) (beats : List WriteBeat) :
    countTracked (countWindows s (findings s r beats)) (!(trackedBlocks s r beats).isEmpty) = flying s r beats := by
  unfold flying countTracked
  rw [countWindows_dirty]
  cases trackedBlocks s r beats with
  | nil =>
    conv_lhs => rw [countWindows_only]
    simp only [List.isEmpty_nil, Bool.not_true, Bool.false_eq_true, if_false, ne_eq, not_true_eq_false]
    conv_rhs => rw [countWindows_only]
  | cons b bs => simp

theorem judge_forwardedWrite {s : State} {x : Txn} (between : List DirtyCommand) (hw : requestWellFormed x.req = true)
    (hd : x.req.dir = .write) (hc : causeSet s x.req x.beatsHeld = []) :
    judge s x between =
      (enqueue (handOff (flying s x.req x.beatsHeld) x.req x.beatsHeld between) x.tag,
        { x with phase := .waitingForward, strobes := x.beatsHeld.map WriteBeat.strobes
                 tracked := decide (trackedBlocks s x.req x.beatsHeld ≠ []) }) := by
  have tracked : (!(trackedBlocks s x.req x.beatsHeld).isEmpty) = decide (trackedBlocks s x.req x.beatsHeld ≠ []) := by
    cases trackedBlocks s x.req x.beatsHeld <;> rfl
  rw [judge_write between hw hd, judgeWrite, hc]
  dsimp only
  rw [countTracked_eq_flying, tracked]
  rfl

/-- Counting a set of refusals changes the refusal counts alone (R74). -/
theorem countRefusals_only (s : State) (causes : List (Ix × Cause)) : causes.foldl (fun t d => countRefusal t d.1) s =
    { s with policy := { s.policy with
        refusals := causes.foldl (fun t c => t.set c.1 (satInc (t.get c.1))) s.policy.refusals } } := by
  induction causes generalizing s with
  | nil => rfl
  | cons c causes ih => rw [List.foldl_cons, ih]; rfl

theorem answerStatus_eq (s : State) (causes : List (Ix × Cause)) :
    answerStatus s causes = if ∀ c ∈ causes, (s.table.active.get c.1).refusal = .silent then RespStatus.ok else RespStatus.err := by
  unfold answerStatus
  exact if_congr (by simp) rfl rfl

/-- A write with a cause set is refused for its lowest region under the status of R73 (R68, R70, R74, R75). -/
theorem judge_refusedWrite {s : State} {x : Txn} (between : List DirtyCommand) (hw : requestWellFormed x.req = true)
    (hd : x.req.dir = .write) {i : Ix} {cause : Cause} {rest : List (Ix × Cause)}
    (hc : causeSet s x.req x.beatsHeld = (i, cause) :: rest) :
    judge s x between =
      ({ s with
          policy :=
            { refusals := ((i, cause) :: rest).foldl (fun t c => t.set c.1 (satInc (t.get c.1))) s.policy.refusals
              windows := (countWindows s (findings s x.req x.beatsHeld)).policy.windows }
          events := s.events.take (refusalEvent s x.req x.beatsHeld ((i, cause) :: rest) i cause) },
        { x with
          phase := .localAnswer (.refuse i)
            (if ∀ c ∈ (i, cause) :: rest, (s.table.active.get c.1).refusal = .silent then RespStatus.ok else RespStatus.err)
          slot := none }) := by
  rw [judge_write between hw hd, judgeWrite, hc]
  dsimp only
  rw [countRefusals_only, countWindows_only, ← answerStatus_eq]
  rfl

theorem judge_notHeld (s : State) (x : Txn) (between : List DirtyCommand) : (judge s x between).2.isHeld = false := by
  unfold judge
  split
  · rfl
  · split
    · unfold judgeRead
      split <;> rfl
    · unfold judgeWrite
      dsimp only
      split <;> rfl

/-! ## The release looks at no entry but the one it judges -/

/-- The state with other entries in the Transaction Table. -/
def State.withTxns (s : State) (txns : List Txn) : State := { s with tracker := { s.tracker with txns := txns } }

theorem foldl_withTxns {α : Type} {f : State → α → State} {txns : List Txn}
    (h : ∀ t a, f (t.withTxns txns) a = (f t a).withTxns txns) (l : List α) (s : State) :
    l.foldl f (s.withTxns txns) = (l.foldl f s).withTxns txns :=
  List.foldl_hom (fun t : State => t.withTxns txns) h

theorem countWindows_withTxns (s : State) (txns : List Txn) (fs : List (Ix × WatchPart × Finding)) :
    countWindows (s.withTxns txns) fs = (countWindows s fs).withTxns txns :=
  foldl_withTxns (fun _ _ => rfl) _ s

theorem reportWindows_withTxns (s : State) (txns : List Txn) (r : Request) (fs : List (Ix × WatchPart × Finding)) :
    reportWindows (s.withTxns txns) r fs = (reportWindows s r fs).withTxns txns :=
  foldl_withTxns (fun _ _ => by split <;> rfl) _ s

theorem takeBetween_withTxns (s : State) (txns : List Txn) (c : DirtyCommand) :
    takeBetween (s.withTxns txns) c = (takeBetween s c).withTxns txns := by
  cases c <;> simp only [takeBetween, commanded_eq]
  · unfold doTakeDirty; split <;> rfl
  · unfold doClearDirty; split <;> rfl
  · rfl
  · unfold doSetDirtyThreshold; split <;> rfl
  · unfold doSoftClear
    rw [show (s.withTxns txns).commit = s.commit from rfl]
    split <;> rfl

theorem addTracked_withTxns (s : State) (txns : List Txn) (host : HostId) (b : Ix × Entry × Granule × Nat) :
    addTracked (s.withTxns txns) host b = (addTracked s host b).withTxns txns := by
  unfold addTracked addBlock
  rw [show (s.withTxns txns).dirty = s.dirty from rfl]
  dsimp only
  split
  · rfl
  · split
    · split <;> rfl
    · split <;> rfl

theorem addTrackedBlocks_withTxns (s : State) (txns : List Txn) (host : HostId) (between : List DirtyCommand)
    (bs : List (Ix × Entry × Granule × Nat)) :
    addTrackedBlocks (s.withTxns txns) host between bs = (addTrackedBlocks s host between bs).withTxns txns := by
  unfold addTrackedBlocks
  split
  · rfl
  · exact addTracked_withTxns ..
  · rw [addTracked_withTxns, foldl_withTxns fun t c => takeBetween_withTxns t txns c]
    exact foldl_withTxns (fun t d => addTracked_withTxns t txns host d) _ _

theorem handOff_withTxns (s : State) (txns : List Txn) (r : Request) (beats : List WriteBeat) (between : List DirtyCommand) :
    handOff (s.withTxns txns) r beats between = (handOff s r beats between).withTxns txns := by
  unfold handOff
  rw [← addTrackedBlocks_withTxns, ← reportWindows_withTxns]
  rfl

theorem countRefusals_withTxns (s : State) (txns : List Txn) (causes : List (Ix × Cause)) :
    causes.foldl (fun t d => countRefusal t d.1) (s.withTxns txns) =
      (causes.foldl (fun t d => countRefusal t d.1) s).withTxns txns :=
  foldl_withTxns (fun _ _ => rfl) _ s

theorem countTracked_withTxns (s : State) (txns : List Txn) (tracked : Bool) :
    countTracked (s.withTxns txns) tracked = (countTracked s tracked).withTxns txns := by
  cases tracked <;> rfl

theorem judgeWrite_withTxns (s : State) (txns : List Txn) (x : Txn) (beats : List WriteBeat) (between : List DirtyCommand) :
    judgeWrite (s.withTxns txns) x beats between =
      ((judgeWrite s x beats between).1.withTxns txns, (judgeWrite s x beats between).2) := by
  unfold judgeWrite
  dsimp only
  rw [countWindows_withTxns, countTracked_withTxns, handOff_withTxns,
    show causeSet (s.withTxns txns) x.req beats = causeSet s x.req beats from rfl,
    show findings (s.withTxns txns) x.req beats = findings s x.req beats from rfl,
    show trackedBlocks (s.withTxns txns) x.req beats = trackedBlocks s x.req beats from rfl]
  split
  · rfl
  · rw [countRefusals_withTxns]
    rfl

theorem judge_withTxns (s : State) (txns : List Txn) (x : Txn) (between : List DirtyCommand) :
    judge (s.withTxns txns) x between = ((judge s x between).1.withTxns txns, (judge s x between).2) := by
  unfold judge
  split
  · rfl
  · split
    · unfold judgeRead
      rw [show (requestPieces (s.withTxns txns) x.req).filterMap (failClosed (s.withTxns txns)) =
        (requestPieces s x.req).filterMap (failClosed s) from rfl]
      split <;> rfl
    · exact judgeWrite_withTxns ..

theorem releaseEach_withTxns (s : State) (txns : List Txn) (portFree : Bool) (todo : List Txn) :
    releaseEach (s.withTxns txns) portFree todo =
      ((releaseEach s portFree todo).1.withTxns txns, (releaseEach s portFree todo).2) := by
  induction todo generalizing s with
  | nil => rfl
  | cons x rest ih =>
    unfold releaseEach
    split
    · dsimp only
      rw [judge_withTxns]
      dsimp only
      rw [ih]
    · dsimp only
      rw [ih]

theorem releaseEach_cons_held (s : State) (portFree : Bool) {x : Txn} (h : x.isHeld = true) (rest : List Txn) :
    releaseEach s portFree (x :: rest) =
      let judged := judge s { x with phase := .judging } (if portFree then x.between else [])
      ((releaseEach judged.1 portFree rest).1, judged.2 :: (releaseEach judged.1 portFree rest).2) := by
  rw [releaseEach, if_pos h]

theorem releaseEach_cons_notHeld (s : State) (portFree : Bool) {x : Txn} (h : x.isHeld = false) (rest : List Txn) :
    releaseEach s portFree (x :: rest) = ((releaseEach s portFree rest).1, x :: (releaseEach s portFree rest).2) := by
  simp [releaseEach, h]

/-- The entries before the oldest held one stay as they are (R32). -/
theorem releaseEach_append (s : State) (portFree : Bool) {before : List Txn} (h : ∀ y ∈ before, y.isHeld = false)
    (rest : List Txn) : releaseEach s portFree (before ++ rest) =
      ((releaseEach s portFree rest).1, before ++ (releaseEach s portFree rest).2) := by
  induction before with
  | nil => rfl
  | cons y before ih =>
    rw [List.forall_mem_cons] at h
    rw [List.cons_append, releaseEach_cons_notHeld s portFree h.1, ih h.2]
    rfl

theorem releaseHeld_eq (s : State) (portFree : Bool) : releaseHeld s portFree =
    takeTurns ((releaseEach s portFree s.tracker.txns).1.withTxns (releaseEach s portFree s.tracker.txns).2) := rfl

/-- The oldest held entry is judged, and the rest of the release follows from the state that leaves (R32). -/
theorem releaseHeld_step {s : State} {portFree : Bool} {before after : List Txn} {x : Txn} (ht : s.tracker.txns = before ++ x :: after)
    (hb : ∀ y ∈ before, y.isHeld = false) (hx : x.isHeld = true) :
    releaseHeld s portFree =
      releaseHeld ((judge s { x with phase := .judging } (if portFree then x.between else [])).1.withTxns
        (before ++ (judge s { x with phase := .judging } (if portFree then x.between else [])).2 :: after)) portFree := by
  set r := judge s { x with phase := .judging } (if portFree then x.between else []) with hr
  have notHeld : r.2.isHeld = false := judge_notHeld ..
  calc releaseHeld s portFree
    _ = takeTurns ((releaseEach r.1 portFree after).1.withTxns (before ++ r.2 :: (releaseEach r.1 portFree after).2)) := by
      rw [releaseHeld_eq, ht, releaseEach_append s portFree hb, releaseEach_cons_held s portFree hx]
    _ = releaseHeld (r.1.withTxns (before ++ r.2 :: after)) portFree := by
      rw [releaseHeld_eq, show (r.1.withTxns (before ++ r.2 :: after)).tracker.txns = before ++ r.2 :: after from rfl,
        releaseEach_append _ portFree hb, releaseEach_cons_notHeld _ portFree notHeld, releaseEach_withTxns]
      rfl

/-- Settles O43: the oldest held entry first, then the ways an entry is judged. -/
theorem heldAreReleased : Obligations.HeldAreReleased := by
  refine ⟨fun s portFree => ⟨releaseHeld_of_none_held s portFree, fun before after x ht hb hx => releaseHeld_step ht hb hx⟩, ?_⟩
  intro s x between hr beats counted
  exact ⟨judge_malformed between, fun hw hd i hm hi hlow => judge_refusedRead between hr hw hd hm hi hlow,
    fun hw hd hnone => judge_forwardedRead between hr hw hd hnone, fun hw hd hc => judge_forwardedWrite between hw hd hc,
    fun hw hd i cause rest hc => judge_refusedWrite between hw hd hc⟩

end Sys2Proof.Machine

/-! The verdict time (R47): a read's at its acceptance, a write's at its last beat. Both leave the entry, as judged or held, in its place
and then give the host response channel its turn where the entry is answered locally. -/

namespace Sys2Proof.Machine

/-! ## Held, or judged -/

theorem verdictTime_eq_judge {s : State} {earlier : List Txn} {x : Txn} (between : List DirtyCommand)
    (h : ∀ d, s.commit.draining = some d →
      (∀ y ∈ earlier, y.req.dir = x.req.dir → y.req.id = x.req.id → y.isHeld = false) ∧
      (requestWellFormed x.req = true → d.meetsBurst x.req = false)) :
    verdictTime s earlier x between = judge s x between := by
  unfold verdictTime
  split
  · rfl
  · next d hd =>
    obtain ⟨free, outside⟩ := h d hd
    have noneHeld : (earlier.any fun y => sameStream y x && y.isHeld) = false := by
      simpa [sameStream_iff] using free
    have notMet : (requestWellFormed x.req && d.meetsBurst x.req) = false := by simpa using outside
    rw [noneHeld, notMet]
    rfl

/-- A transaction is held by stream, behind a held one of its stream, and otherwise by range, where it is well formed and meets a drain
range (R28, R29). -/
theorem verdictTime_held {s : State} {d : Drain} (hd : s.commit.draining = some d) {earlier : List Txn} {x : Txn}
    (between : List DirtyCommand) {why : Held}
    (h : (∃ y ∈ earlier, y.req.dir = x.req.dir ∧ y.req.id = x.req.id ∧ y.isHeld = true) ∧ why = .stream ∨
      (∀ y ∈ earlier, y.req.dir = x.req.dir → y.req.id = x.req.id → y.isHeld = false) ∧ requestWellFormed x.req = true ∧
        d.meetsBurst x.req = true ∧ why = .range) :
    verdictTime s earlier x between = (s, { x with phase := .held why }) := by
  simp only [verdictTime, hd]
  rcases h with ⟨⟨y, hy, hdir, hid, hheld⟩, rfl⟩ | ⟨free, hw, hm, rfl⟩
  · have behind : (earlier.any fun y => sameStream y x && y.isHeld) = true :=
      List.any_eq_true.2 ⟨y, hy, by simp [sameStream_iff, hdir, hid, hheld]⟩
    rw [if_pos behind]
  · have noneHeld : (earlier.any fun y => sameStream y x && y.isHeld) = false := by
      simpa [sameStream_iff] using free
    rw [noneHeld, hw, hm]
    rfl

theorem afterVerdict_local {s : State} {x : Txn} (h : x.isLocal = true) : afterVerdict s x = takeTurns s := if_pos h

theorem afterVerdict_not_local {s : State} {x : Txn} (h : x.isLocal = false) : afterVerdict s x = s := by
  simp [afterVerdict, h]

/-! ## A read at its acceptance -/

/-- An accepted read reaches its verdict time at once (R45, R47). -/
theorem exec_hostRequestAccept_read {s : State} {r : Request} (hp : PinsReleased s) (hr : r.beatsLegal = true) (hd : r.dir = .read)
    (hroom : s.tracker.txns.length < 16) {t : State} {y : Txn}
    (h : verdictTime (bumpTag s) s.tracker.txns (entryOfRequest s.tracker.nextTag r .judging) [] = (t, y)) :
    exec (.hostRequestAccept r) s = .next (afterVerdict (appendTxn t y) y) := by
  obtain ⟨hpor, hprst⟩ := hp
  have ready : requestReady s r = true := by simp [requestReady, hprst, hd, Config.txnEntries, hroom]
  simp only [exec, execHostRequestAccept, hr, if_true]
  rw [stepWhen_taken hpor ready]
  simp only [acceptRequest, hd, newTxn_read _ hd, h]

/-- Settles O23: an unheld read is judged, and the judgment of a read has three outcomes. -/
theorem readVerdicts : Obligations.ReadVerdicts := by
  intro s r hp hr hd hroom hfree entered
  have judged := verdictTime_eq_judge (s := bumpTag s) (x := entryOfRequest s.tracker.nextTag r .judging) [] hfree
  refine ⟨fun hw => ?_, fun hw i hm hi hlow => ?_, fun hw hnone => ?_⟩
  · rw [exec_hostRequestAccept_read hp hr hd hroom (judged.trans (judge_malformed [] hw)), afterVerdict_local rfl]
    rfl
  · rw [exec_hostRequestAccept_read hp hr hd hroom (judged.trans (judge_refusedRead [] hr hw hd hm hi hlow)), afterVerdict_local rfl]
    rfl
  · rw [exec_hostRequestAccept_read hp hr hd hroom (judged.trans (judge_forwardedRead [] hr hw hd hnone)), afterVerdict_not_local rfl]
    rfl

/-! ## A write at its last beat -/

theorem setTxn_stands {s t : State} {before after : List Txn} {x y : Txn} (stands : Stands s before x after)
    (ht : t.tracker.txns = s.tracker.txns) (htag : y.tag = x.tag) : setTxn t y = t.withTxns (before ++ y :: after) := by
  have put := stands_putTxn (s := t) (before := before) (x := x) (after := after) (by rw [Stands, ht]; exact stands) y htag
  rw [← put]
  rfl

/-- The last beat of the oldest write still collecting brings the write to its verdict time (R46, R47, R62). -/
theorem exec_hostWriteBeat_last {s : State} {before after : List Txn} {x : Txn} {beat : WriteBeat} {between : List DirtyCommand}
    (hp : PinsReleased s) (stands : Stands s before x after) (hx : x.phase = .collecting) (hb : ∀ y ∈ before, y.phase ≠ .collecting)
    (hlast : x.beatsHeld.length + 1 = x.req.beats) {t : State} {y : Txn}
    (h : verdictTime s before (x.filled beat between) between = (t, y)) (ht : t.tracker.txns = s.tracker.txns) (htag : y.tag = x.tag) :
    exec (.hostWriteBeat ⟨beat, between⟩) s = .next (afterVerdict (t.withTxns (before ++ y :: after)) y) := by
  obtain ⟨hpor, hprst⟩ := hp
  have oldest : collectingTxn s.tracker.txns = some x := by
    rw [stands.1]
    exact find_split _ _ _ _ (by simpa using hb) (by simp [hx])
  have stored : storeBeat s x ⟨beat, between⟩ = afterVerdict (t.withTxns (before ++ y :: after)) y := by
    rw [storeBeat_last s hlast.ge, stands_acceptedBefore stands, h, ← setTxn_stands stands ht htag]
  simp only [exec, execHostWriteBeat, oldest]
  rw [stepWhen_taken hpor (by simp [hprst]), stored]

/-- Settles O24: for a read and for a write, whatever holds a transaction leaves the state as it was. -/
theorem heldWhileDraining : Obligations.HeldWhileDraining := by
  intro s d hp hdrain
  refine ⟨fun r why hr hd hroom hwhy => ?_, fun before after x beat between why stands hx hb hlast hwhy => ?_⟩
  · have held := verdictTime_held (s := bumpTag s) (x := entryOfRequest s.tracker.nextTag r .judging) hdrain [] hwhy
    rw [exec_hostRequestAccept_read hp hr hd hroom held, afterVerdict_not_local rfl]
    rfl
  · have held := verdictTime_held (x := x.filled beat between) hdrain between hwhy
    rw [exec_hostWriteBeat_last hp stands hx hb hlast held rfl rfl, afterVerdict_not_local rfl]
    rfl

/-- Settles O25: an unheld write is judged from the beats its slot then holds, and the judgment of a write has three outcomes. -/
theorem writeVerdicts : Obligations.WriteVerdicts := by
  intro s before after x beat between hp stands hx hb hd hlast hfree beats counted
  have judged := verdictTime_eq_judge (x := x.filled beat between) between hfree
  refine ⟨fun hw => ?_, fun hw hc => ?_, fun hw i cause rest hc => ?_⟩
  · rw [exec_hostWriteBeat_last hp stands hx hb hlast (judged.trans (judge_malformed between hw)) rfl rfl, afterVerdict_local rfl]
    rfl
  · have txns : (handOff (flying s x.req beats) x.req beats between).tracker.txns = s.tracker.txns := by
      refine (congrArg Lanes.txns (handOff_lanes ..)).trans ?_
      exact congrArg Tracker.txns (countWindows_tracker s _)
    rw [exec_hostWriteBeat_last hp stands hx hb hlast (judged.trans (judge_forwardedWrite between hw hd hc)) txns rfl,
      afterVerdict_not_local rfl]
    rfl
  · have refused := judge_refusedWrite (x := x.filled beat between) between hw hd hc
    rw [exec_hostWriteBeat_last hp stands hx hb hlast (judged.trans refused) rfl rfl, afterVerdict_local rfl]
    rfl

end Sys2Proof.Machine

/-! The ends of a drain, the switch of entries, and the two edges of PRST_N: what each leaves, block by block. -/

namespace Sys2Proof.Machine

/-! ## The starvation timer where a drain ends -/

/-- The starvation timer starts as R138 says, while POR_N is not asserted. -/
theorem startStarvation_eq {s : State} (hp : s.pins.por = false) :
    startStarvation s = { s with scan := { s.scan with starvation := startedStarvation s } } := by
  simp [startStarvation, startedStarvation, portsHeld, hp, startMicros]

/-- The unit leaves DRAINING, and an engine whose next chunk was withheld starts its starvation timer (R30). -/
theorem closeDrain_eq {s : State} (hp : s.pins.por = false) :
    closeDrain s =
      if withheld s = true ∧ s.scan.engine = .waitingGap then
        { s with
          commit := { s.commit with draining := none }
          scan := { s.scan with starvation := startedStarvation { s with commit := { s.commit with draining := none } } } }
      else { s with commit := { s.commit with draining := none } } := by
  unfold closeDrain
  dsimp only
  rw [startStarvation_eq (by exact hp)]
  exact if_congr (by simp) rfl rfl

/-! ## The ends of a drain -/

/-- The starvation timer at its start looks at the draining commit, not at the last outcome or the events. -/
theorem startedStarvation_congr {s t : State} (hscan : t.scan = s.scan) (htable : t.table = s.table) (hpins : t.pins = s.pins)
    (hmgmt : t.mgmt = s.mgmt) (hdrain : t.commit.draining = s.commit.draining) : startedStarvation t = startedStarvation s := by
  unfold startedStarvation withheld nextChunk
  rw [hscan, htable, hpins, hmgmt, hdrain]

theorem cutDrain_eq {s : State} (hp : s.pins.por = false) (d : Drain) (outcome : LastOutcome) :
    cutDrain s d outcome =
      let t : State := { s with
        commit := { draining := none, outcome := outcome, switched := d.immediate, leftPending := d.quiesce }
        events := s.events.take (commitEvent outcome.event d.immediate d.quiesce outcome.reason) }
      if withheld s = true ∧ s.scan.engine = .waitingGap then
        { t with scan := { s.scan with starvation := startedStarvation t } } else t := by
  unfold cutDrain
  rw [closeDrain_eq hp]
  dsimp only
  split
  · rw [startedStarvation_congr (s := { s with commit := { s.commit with draining := none } }) rfl rfl rfl rfl rfl]
    rfl
  · rfl

theorem exec_drainTimerExpiry {s : State} {d : Drain} (hp : s.pins.por = false) (hd : s.commit.draining = some d) :
    exec .drainTimerExpiry s = .next (releaseHeld (cutDrain s d .timeout) true) := by
  simp only [exec, execDrainTimerExpiry, hd]
  exact stepWhen_taken hp rfl

theorem exec_abortCommit {s : State} (hp : s.pins.por = false) :
    exec .abortCommit s = .next (answered (doAbortCommit s).1 0 (doAbortCommit s).2) :=
  takeCommand_taken 0 s doAbortCommit hp

/-- Settles O41: both ends cut the drain and release what it held; in IDLE there is nothing to end. -/
theorem drainsCutShort : Obligations.DrainsCutShort := by
  intro s hp
  refine ⟨fun d hd => ?_, fun hd => ⟨?_, ?_⟩⟩
  · intro ended
    constructor
    · rw [exec_drainTimerExpiry hp hd, cutDrain_eq hp]
      rfl
    · rw [exec_abortCommit hp]
      simp only [doAbortCommit, hd]
      rw [cutDrain_eq hp]
      rfl
  · simp only [exec, execDrainTimerExpiry, hd]
  · rw [exec_abortCommit hp]
    simp only [doAbortCommit, hd]
    rfl

/-- A drain's condition holds when no counted transaction and no counted chunk read is left (R31). -/
theorem drainMet_iff (s : State) (d : Drain) : drainMet s d = true ↔
    (∀ x ∈ s.tracker.txns, (x.phase = .waitingForward ∨ x.phase = .forwarded) → d.meetsBurst x.req = false) ∧
      ∀ r, s.scan.engine = .reading r → d.meetsChunk r.addr.toNat = false := by
  have host : countedHost s d = 0 ↔
      ∀ x ∈ s.tracker.txns, (x.phase = .waitingForward ∨ x.phase = .forwarded) → d.meetsBurst x.req = false := by
    simp [countedHost, List.countP_eq_zero, Txn.isForward]
  have chunk : countedChunk s d = 0 ↔ ∀ r, s.scan.engine = .reading r → d.meetsChunk r.addr.toNat = false := by
    unfold countedChunk
    split <;> simp_all
  simp only [drainMet, Bool.and_eq_true, beq_iff_eq, host, chunk]

/-- Settles O42: DRAIN_COMPLETE is taken exactly when the drain's condition holds, and then switches, ends the commit and releases. -/
theorem drainsComplete : Obligations.DrainsComplete := by
  intro s d hp hd clear
  refine ⟨fun hclear => ⟨_, _, rfl, rfl, ?_⟩, fun hnot => ?_⟩
  · rw [exec_drainComplete hp hd ((drainMet_iff s d).2 hclear)]
    unfold completeDrain
    rw [endCommit_idle (by simp)]
    rfl
  · have notMet : drainMet s d = false := Bool.eq_false_iff.2 fun h => hnot ((drainMet_iff s d).1 h)
    simp [exec, execDrainComplete, hd, stepWhen, notMet]

/-! ## The switch -/

/-- The engine drops an active job (R146): it is IDLE or OFF, or discards its outstanding read. -/
theorem dropJob_eq {e : ScanEngine} (h : e.engine ≠ .idle) :
    dropJob e = { e with
      engine := (match e.engine with
        | .reading r => .reading { r with disposition := .discard }
        | .waitingGap | .halted | .idle => .idle
        | .off => .off)
      context := none, streak := 0
      starvation := if e.engine = .waitingGap then none else e.starvation
      forced := if e.engine = .waitingGap then false else e.forced } := by
  obtain ⟨engine, context, roundMode, queue, streak, starvation, forced, roundTimer, roundCount, forcedCount, ties⟩ := e
  cases engine with
  | idle => exact absurd rfl h
  | off | waitingGap | reading | halted => rfl

theorem switchJob_other {s : State} (old : Tab Entry) {changed : IxSet}
    (h : ∀ c, s.scan.context = some c → changed.get c.region = false) : switchJob s old changed = s := by
  unfold switchJob
  split
  · next c hc => rw [if_neg (by simp [h c hc])]
  · rfl

/-- The active job of an index whose identity changes is abandoned, with SIGN_FAILED for a SIGN job (R38, R121). -/
theorem switchJob_abandons {s : State} (old : Tab Entry) {changed : IxSet} {c : JobContext} (hc : s.scan.context = some c)
    (hch : changed.get c.region = true) : switchJob s old changed = { s with
      scan := dropJob s.scan
      sig := { s.sig with lastResult := s.sig.lastResult.set c.region .abandoned }
      events := if c.kind = .sign then s.events.take (signFailedEvent c.region (addrOf (old.get c.region).lo)) else s.events } := by
  have dropped : abandon s c.region = setResult { s with scan := dropJob s.scan } c.region .abandoned := by
    simp [abandon, activeKind, hc]
  simp only [switchJob, hc, hch, if_true, dropped]
  split <;> rfl

theorem identityChange_iff (old new : Entry) : identityChange old new = true ↔
    new.enabled ≠ old.enabled ∨ new.part.kindCode ≠ old.part.kindCode ∨ new.base ≠ old.base ∨ new.size ≠ old.size := by
  simp only [identityChange, Bool.or_eq_true, bne_iff_ne, ne_comm, or_assoc]

/-- Settles O47: the table, life states, Dirty List and queue first, then the active job, then an IDLE engine takes its head. -/
theorem switchEffects : Obligations.SwitchEffects := by
  intro s which old new changed untracked kept t
  have isChanged : ∀ i, (identityChanges s.table which).get i = changed i := fun i => Tab.get_ofFn _ i
  have switched : switchSet s which = settle (switchJob t old (identityChanges s.table which)) := by
    simp only [switchSet, switchLife, switchDirty, Machine.untracked, ScanQueue.removeAll, switchTable, switchedTable, diffIx, isChanged,
      Tab.get_ofFn]
    rfl
  refine ⟨fun h => ?_, fun c hc hch he => ?_, fun i => identityChange_iff _ _⟩
  · rw [switched, switchJob_other (s := t) old fun c hc => (isChanged _).trans (h c hc)]
  · rw [switched, switchJob_abandons (s := t) (c := c) old hc ((isChanged _).trans hch), dropJob_eq (e := t.scan) he,
      show (old.get c.region).lo = 256 * (old.get c.region).base.toNat from Nat.mul_comm ..]
    rfl

/-! ## The edges of PRST_N -/

/-- Outside WAITING_GAP there is neither starvation timer nor forced claim, so that the assertion of PRST_N takes them in every engine
state (R148). -/
theorem portResetEngine_eq {e : ScanEngine} (h : EngineLegal e) :
    portResetEngine e = { e with
      engine := (match e.engine with
        | .reading r => if r.offPending then .off else if r.disposition = .apply then .waitingGap else .idle
        | e => e)
      starvation := none, forced := false } := by
  obtain ⟨-, -, hstarvation, hforced, -⟩ := h
  have quiet : e.engine ≠ .waitingGap → e.starvation = none ∧ e.forced = false := fun hne =>
    ⟨by simpa using fun hs => hne (hstarvation hs), by simpa using fun hf => hne (hforced hf)⟩
  unfold portResetEngine
  obtain ⟨engine, context, roundMode, queue, streak, starvation, forced, roundTimer, roundCount, forcedCount, ties⟩ := e
  cases engine with
  | waitingGap => rfl
  | reading r =>
    obtain ⟨hs, hf⟩ := quiet nofun
    obtain ⟨addr, disposition, offPending, beats⟩ := r
    simp only at hs hf
    subst hs hf
    cases disposition <;> cases offPending <;> rfl
  | off | idle | halted =>
    obtain ⟨hs, hf⟩ := quiet nofun
    simp only at hs hf
    subst hs hf
    rfl

/-- While a reset pin is asserted the starvation timer stays stopped (R138). -/
def Unstarved (s : State) : Prop := portsHeld s = true ∧ s.scan.starvation = none

theorem unstarved_settle {s : State} (h : Unstarved s) : Unstarved (settle s) := by
  obtain ⟨hp, hs⟩ := h
  refine ⟨by simpa [portsHeld] using hp, ?_⟩
  show (takeHead s).scan.starvation = none
  unfold takeHead
  split
  · have held : ∀ t : State, t.pins = s.pins → (enterWaiting t).scan.starvation = none := by
      intro t ht
      have : portsHeld t = true := by simpa [portsHeld, ht] using hp
      simp only [enterWaiting, startStarvation]
      rw [show portsHeld { t with scan := { t.scan with engine := .waitingGap } } = true from this, Bool.or_true]
      rfl
    exact held _ (by simp)
  · exact hs

theorem unstarved_meetRound {s : State} (h : Unstarved s) : Unstarved (meetRound s) := by
  obtain ⟨hp, hs⟩ := h
  refine ⟨by simpa [portsHeld] using hp, ?_⟩
  unfold meetRound
  split
  · dsimp only
    split
    · unfold enqueueRound
      split <;> exact hs
    · exact hs
  · exact hs

theorem unstarved_finishWriteDrains {s : State} (h : Unstarved s) : Unstarved (finishWriteDrains s) := by
  unfold finishWriteDrains
  split
  · exact h
  · exact foldl_keeps_prop (P := Unstarved) (fun t i ht => unstarved_settle (s := queueSign t i) ht) _ (unstarved_meetRound h)

/-- A drain that ends with the ports reset starts no starvation timer (R35, R138). -/
theorem cutDrain_unstarved {s : State} (h : Unstarved s) (d : Drain) (outcome : LastOutcome) :
    cutDrain s d outcome = { s with
      commit := { draining := none, outcome := outcome, switched := d.immediate, leftPending := d.quiesce }
      events := s.events.take (commitEvent outcome.event d.immediate d.quiesce outcome.reason) } := by
  obtain ⟨hp, hs⟩ := h
  have stopped : startStarvation { s with commit := { s.commit with draining := none } } =
      { s with commit := { s.commit with draining := none } } := by
    simp only [startStarvation]
    rw [show portsHeld { s with commit := { s.commit with draining := none } } = true from hp, Bool.or_true, ← hs]
    rfl
  have closed : closeDrain s = { s with commit := { s.commit with draining := none } } := by
    simp only [closeDrain, stopped, ite_self]
  rw [cutDrain, closed]
  rfl

/-- Settles O7: the assertion resets the ports and the engine, then an IDLE engine takes its head, then write drains end, then the
commit drain; the deassertion starts the starvation timer. -/
theorem portResets : Obligations.PortResets := by
  constructor
  · intro s hp hengine cleared u
    obtain ⟨hpor, hprst⟩ := hp
    have pins : ({ s.pins with prst := true } : Pins) = { por := false, prst := true } := by rw [← hpor]
    have blocks : portResetBlocks s = u := by
      unfold portResetBlocks
      rw [portResetEngine_eq hengine, pins]
      rfl
    have taken : exec .portResetAssert s = .next (portResetCommit u) := by
      simp [exec, execPortResetAssert, hpor, hprst, blocks]
    have commit : u.commit = s.commit := by rw [← blocks]; exact portResetBlocks_commit s
    have events : u.events = s.events := by rw [← blocks]; exact portResetBlocks_events s
    have unstarved : Unstarved u := unstarved_finishWriteDrains (unstarved_settle ⟨rfl, rfl⟩)
    rw [taken]
    refine ⟨fun hd => ?_, fun d hd => ?_⟩
    · rw [portResetCommit, commit, hd]
    · simp only [portResetCommit, commit, hd]
      rw [cutDrain_unstarved unstarved, events]
      rfl
  · intro s hpor hprst t
    have taken : exec .portResetDeassert s = .next (resumeStarvation t) := by
      simp [exec, execPortResetDeassert, hprst, hpor, t]
    rw [taken]
    constructor
    · intro he
      rw [resumeStarvation, if_pos (by simp [t, he]), startStarvation_eq (s := t) hpor]
    · intro he
      rw [resumeStarvation, if_neg (by simpa [t] using he)]

end Sys2Proof.Machine

/-! The Transaction Table and the Write Buffer stay within their bounds. All but a request's acceptance free entries or change them in
place (`Succeed`): a changed entry keeps its tag and its request, fits its phase, and holds no slot that it did not hold before. -/

namespace Sys2Proof.Machine

/-! ## Entries succeeded by others -/

/-- What an entry may become: it keeps its tag and its request, and holds a slot only if it held one. -/
structure Txn.Succeeds (y x : Txn) : Prop where
  tag : y.tag = x.tag
  req : y.req = x.req
  legal : y.slotLegal = true
  slot : y.slot.isSome = true → x.slot.isSome = true

/-- What the entries in use may become: some are freed, the others succeeded in their places. -/
abbrev Succeed : List Txn → List Txn → Prop := List.SublistForall₂ Txn.Succeeds

theorem Succeed.length_le {new old : List Txn} (h : Succeed new old) : new.length ≤ old.length := by
  induction h with
  | nil => exact Nat.zero_le _
  | cons _ _ ih => exact Nat.succ_le_succ ih
  | cons_right _ ih => exact Nat.le_succ_of_le ih

theorem Succeed.slotsUsed_le {new old : List Txn} (h : Succeed new old) : slotsUsed new ≤ slotsUsed old := by
  unfold slotsUsed
  induction h with
  | nil => exact Nat.zero_le _
  | cons hxy _ ih =>
    rw [List.countP_cons, List.countP_cons]
    refine Nat.add_le_add ih ?_
    split
    · next hy => rw [if_pos (hxy.slot hy)]
    · exact Nat.zero_le _
  | cons_right _ ih => exact ih.trans ((List.sublist_cons_self _ _).countP_le)

theorem Succeed.tags_sublist {new old : List Txn} (h : Succeed new old) : (new.map Txn.tag).Sublist (old.map Txn.tag) := by
  induction h with
  | nil => exact List.nil_sublist _
  | cons hxy _ ih => rw [List.map_cons, List.map_cons, hxy.tag]; exact ih.cons_cons _
  | cons_right _ ih => exact ih.cons _

theorem Succeed.exists_old {new old : List Txn} (h : Succeed new old) : ∀ y ∈ new, ∃ x ∈ old, y.Succeeds x := by
  induction h with
  | nil => nofun
  | cons hxy _ ih =>
    simp only [List.mem_cons, forall_eq_or_imp]
    exact ⟨⟨_, .inl rfl, hxy⟩, fun y hy => (ih y hy).imp fun _ hx => ⟨.inr hx.1, hx.2⟩⟩
  | cons_right _ ih => exact fun y hy => (ih y hy).imp fun _ hx => ⟨List.mem_cons_of_mem _ hx.1, hx.2⟩

/-- Entries succeeded by others leave the table within its bounds (R44, R45, R61). -/
theorem TrackerLegal.succeeded {t t' : Tracker} (h : TrackerLegal t) (hs : Succeed t'.txns t.txns) (hn : t'.nextTag = t.nextTag) :
    TrackerLegal t' := by
  obtain ⟨hlength, hslots, htags, hentries⟩ := h
  refine ⟨hs.length_le.trans hlength, hs.slotsUsed_le.trans hslots, htags.sublist hs.tags_sublist, fun y hy => ?_⟩
  obtain ⟨x, hx, hyx⟩ := hs.exists_old y hy
  obtain ⟨htag, hbeats, -⟩ := hentries x hx
  exact ⟨by rwa [hyx.tag, hn], by rwa [hyx.req], hyx.legal⟩

theorem trackerLegal_of_empty {t : Tracker} (h : t.txns = []) : TrackerLegal t := by
  simp [TrackerLegal, h, slotsUsed]

theorem succeed_refl {txns : List Txn} (h : ∀ x ∈ txns, x.slotLegal = true) : Succeed txns txns := by
  induction txns with
  | nil => exact .nil
  | cons x txns ih =>
    rw [List.forall_mem_cons] at h
    exact .cons ⟨rfl, rfl, h.1, id⟩ (ih h.2)

theorem Succeed.append {a b c d : List Txn} (h : Succeed a b) (h' : Succeed c d) : Succeed (a ++ c) (b ++ d) := by
  induction h with
  | nil =>
    rename_i l
    induction l with
    | nil => exact h'
    | cons _ _ ih => exact .cons_right ih
  | cons hxy _ ih => exact .cons hxy ih
  | cons_right _ ih => exact .cons_right ih

section Legal

variable {s : State} (h : TrackerLegal s.tracker)
include h

theorem TrackerLegal.entry {x : Txn} (hx : x ∈ s.tracker.txns) : x.req.beatsLegal = true ∧ x.slotLegal = true :=
  (h.2.2.2 x hx).2

/-- An entry that is found stands in its place. -/
theorem TrackerLegal.find_stands {p : Txn → Bool} {x : Txn} (hx : s.tracker.txns.find? p = some x) :
    (∃ before after, Stands s before x after) ∧ x ∈ s.tracker.txns := by
  obtain ⟨-, before, after, htxns, -⟩ := List.find?_eq_some_iff_append.1 hx
  exact ⟨⟨before, after, htxns, h.2.2.1⟩, List.mem_of_find?_eq_some hx⟩

/-- One entry replaced by what it may become. -/
theorem TrackerLegal.replaced {before after : List Txn} {x : Txn} (stands : Stands s before x after) (y : Txn)
    (hyx : y.Succeeds x) {t : State} (ht : t.tracker.txns = putTxn s.tracker.txns y) (hn : t.tracker.nextTag = s.tracker.nextTag) :
    TrackerLegal t.tracker := by
  refine h.succeeded ?_ hn
  rw [ht, stands_putTxn stands y hyx.tag, stands.1]
  have legal : ∀ z ∈ before ++ x :: after, z.slotLegal = true := fun z hz => (h.entry (stands.1 ▸ hz)).2
  exact (succeed_refl fun z hz => legal z (by simp [hz])).append (.cons hyx (succeed_refl fun z hz => legal z (by simp [hz])))

/-- One entry freed. -/
theorem TrackerLegal.freed {x : Txn} {t : State} (ht : t.tracker.txns = freeTxn s.tracker.txns x.tag)
    (hn : t.tracker.nextTag = s.tracker.nextTag) : TrackerLegal t.tracker := by
  refine h.succeeded (List.sublistForall₂_iff.2 ⟨freeTxn s.tracker.txns x.tag, ?_, List.filter_sublist⟩) hn
  rw [ht]
  exact List.forall₂_same.2 fun z hz => ⟨rfl, rfl, (h.entry (List.mem_of_mem_filter hz)).2, id⟩

end Legal

/-! ## What entries become -/

/-- Only a WRITE holds a slot (R61). -/
theorem dir_of_slot {x : Txn} (hl : x.slotLegal = true) (hs : x.slot.isSome = true) : x.req.dir = .write := by
  obtain ⟨slot, hslot⟩ := Option.isSome_iff_exists.1 hs
  obtain ⟨state, beats⟩ := slot
  unfold Txn.slotLegal at hl
  split at hl <;> simp_all

/-- A verdict gives no slot to an entry that holds none (R47, R63). -/
theorem Judged.succeeds {s : State} {x : Txn} {r : State × Txn} (hx : x.SlotReady) (h : Judged s x r) : r.2.Succeeds x where
  tag := h.tag
  req := h.req
  legal := h.slotLegal
  slot := fun hs => by
    have hw := dir_of_slot h.slotLegal hs
    rw [h.req] at hw
    rcases hx with ⟨hr, -⟩ | ⟨-, beats, hslot⟩
    · rw [hr] at hw; cases hw
    · simp [hslot]

theorem forwardTxn_succeeds {x : Txn} (hb : x.req.beatsLegal = true) (hl : x.slotLegal = true) : (forwardTxn x).Succeeds x where
  tag := rfl
  req := rfl
  legal := by
    have positive : 0 < x.req.beats := by simp [Request.beatsLegal] at hb; omega
    cases hs : x.slot with
    | none => simp [Txn.slotLegal, forwardTxn, hs]
    | some slot => simp [Txn.slotLegal, forwardTxn, hs, positive, dir_of_slot hl (by simp [hs])]
  slot := by simp [forwardTxn]

/-! ## What the commands make of the entries -/

/-- Held entries are succeeded by their verdicts (R32). -/
theorem releaseEach_succeed (portFree : Bool) {todo : List Txn} (h : ∀ x ∈ todo, x.slotLegal = true) (s : State) :
    Succeed (releaseEach s portFree todo).2 todo := by
  induction todo generalizing s with
  | nil => exact .nil
  | cons x rest ih =>
    rw [List.forall_mem_cons] at h
    unfold releaseEach
    split
    · next hx =>
      have full : x.SlotReady := slotReady_of_held hx h.1
      have ready : Txn.SlotReady { x with phase := .judging } := full
      obtain ⟨judged, -⟩ := judge_judged s ready (if portFree then x.between else [])
      obtain ⟨htag, hreq, hlegal, hslot⟩ := judged.succeeds ready
      exact .cons ⟨htag, hreq, hlegal, hslot⟩ (ih h.2 _)
    · exact .cons ⟨rfl, rfl, h.1, id⟩ (ih h.2 s)

theorem nextTag_of_lanes {s t : State} (h : t.lanes = s.lanes) : t.tracker.nextTag = s.tracker.nextTag :=
  congrArg Lanes.nextTag h

theorem txns_of_lanes {s t : State} (h : t.lanes = s.lanes) : t.tracker.txns = s.tracker.txns := congrArg Lanes.txns h

theorem trackerLegal_of_lanes {s t : State} (hs : TrackerLegal s.tracker) (h : t.lanes = s.lanes) : TrackerLegal t.tracker := by
  unfold TrackerLegal
  rw [txns_of_lanes h, nextTag_of_lanes h]
  exact hs

/-- A verdict leaves the number of the next tag, whatever it makes of the queue. -/
theorem Judged.nextTag {s : State} {x : Txn} {r : State × Txn} (h : Judged s x r) : r.1.tracker.nextTag = s.tracker.nextTag :=
  (congrArg Lanes.nextTag h.lanes).trans (by unfold Lanes.enter; split <;> rfl)

theorem releaseEach_nextTag (portFree : Bool) {todo : List Txn} (h : ∀ x ∈ todo, x.slotLegal = true) (s : State) :
    (releaseEach s portFree todo).1.tracker.nextTag = s.tracker.nextTag := by
  induction todo generalizing s with
  | nil => rfl
  | cons x rest ih =>
    rw [List.forall_mem_cons] at h
    unfold releaseEach
    split
    · next hx =>
      have full : x.SlotReady := slotReady_of_held hx h.1
      have ready : Txn.SlotReady { x with phase := .judging } := full
      exact (ih h.2 _).trans (judge_judged s ready _).1.nextTag
    · exact ih h.2 s

theorem releaseHeld_trackerLegal {s : State} (h : TrackerLegal s.tracker) (portFree : Bool) :
    TrackerLegal (releaseHeld s portFree).tracker := by
  have legal : ∀ x ∈ s.tracker.txns, x.slotLegal = true := fun x hx => (h.entry hx).2
  unfold releaseHeld
  refine trackerLegal_of_lanes ?_ (takeTurns_lanes _)
  exact h.succeeded (releaseEach_succeed portFree legal s) (releaseEach_nextTag portFree legal s)

theorem completeDrain_trackerLegal {s : State} (h : TrackerLegal s.tracker) (d : Drain) (portFree : Bool) :
    TrackerLegal (completeDrain s d portFree).tracker :=
  releaseHeld_trackerLegal (by simpa using h) portFree

theorem cutDrain_released_trackerLegal {s : State} (h : TrackerLegal s.tracker) (d : Drain) (o : LastOutcome) (portFree : Bool) :
    TrackerLegal (releaseHeld (cutDrain s d o) portFree).tracker :=
  releaseHeld_trackerLegal (by simpa using h) portFree

theorem doCommit_trackerLegal {s : State} (h : TrackerLegal s.tracker) : TrackerLegal (doCommit s).1.tracker := by
  unfold doCommit
  split
  · exact h
  · split
    · exact h
    · split
      · exact h
      · exact h
      · unfold acceptCommit
        dsimp only
        split
        · simpa using h
        · split
          · exact completeDrain_trackerLegal (by simpa [enterDraining] using h) _ _
          · simpa [enterDraining] using h

theorem doAbortCommit_trackerLegal {s : State} (h : TrackerLegal s.tracker) : TrackerLegal (doAbortCommit s).1.tracker := by
  unfold doAbortCommit
  split
  · exact h
  · exact cutDrain_released_trackerLegal h _ _ _

/-- A youngest entry joins where there is room for it (R45). -/
theorem trackerLegal_append {s t : State} (h : TrackerLegal s.tracker) {x : Txn} (ht : t.tracker.txns = s.tracker.txns ++ [x])
    (hn : t.tracker.nextTag = s.tracker.nextTag + 1) (htag : x.tag = s.tracker.nextTag) (hb : x.req.beatsLegal = true)
    (hl : x.slotLegal = true) (hroom : s.tracker.txns.length < Config.txnEntries)
    (hslot : x.slot.isSome = true → slotsUsed s.tracker.txns < Config.writeSlots) : TrackerLegal t.tracker := by
  obtain ⟨-, hslots, htags, hentries⟩ := h
  refine ⟨by simp [ht]; omega, ?_, ?_, ?_⟩
  · rw [ht, slotsUsed, List.countP_append, List.countP_singleton]
    unfold slotsUsed at hslots hslot
    split
    · next hs => exact hslot hs
    · exact hslots
  · rw [ht, List.map_append, List.map_singleton, List.nodup_append]
    refine ⟨htags, List.nodup_singleton _, ?_⟩
    simp only [List.mem_map, List.mem_singleton, forall_exists_index, and_imp]
    rintro _ y hy rfl _ rfl
    rw [htag]
    exact Nat.ne_of_lt (hentries y hy).1
  · rw [ht, hn]
    simp only [List.mem_append, List.mem_singleton]
    rintro y (hy | rfl)
    · exact ⟨Nat.lt_succ_of_lt (hentries y hy).1, (hentries y hy).2⟩
    · exact ⟨by omega, hb, hl⟩

theorem acceptRequest_trackerLegal {s : State} (h : TrackerLegal s.tracker) {r : Request} (hr : r.beatsLegal = true)
    (hready : requestReady s r = true) : TrackerLegal (acceptRequest s r).tracker := by
  simp only [requestReady, Bool.and_eq_true, Bool.or_eq_true, beq_iff_eq, decide_eq_true_eq] at hready
  obtain ⟨⟨-, hroom⟩, hslot⟩ := hready
  unfold acceptRequest
  dsimp only
  split
  · next hd =>
    have positive : 0 < r.beats := by simp [Request.beatsLegal] at hr; omega
    refine trackerLegal_append h rfl rfl rfl hr ?_ hroom fun _ => by simpa [hd] using hslot
    simp [newTxn, Txn.slotLegal, hd, positive]
  · next hd =>
    rw [newTxn_read _ hd]
    have ready : (entryOfRequest s.tracker.nextTag r .judging).SlotReady := .inl ⟨hd, rfl⟩
    obtain ⟨judged, -⟩ := verdictTime_judged (bumpTag s) s.tracker.txns ready []
    have succeeds := judged.succeeds ready
    refine trackerLegal_of_lanes ?_ (afterVerdict_lanes _ _)
    refine trackerLegal_append h ?_ judged.nextTag succeeds.tag (succeeds.req ▸ hr) succeeds.legal hroom fun hs => ?_
    · rw [appendTxn, judged.txns]; rfl
    · exact absurd (succeeds.slot hs) nofun

theorem storeBeat_trackerLegal {s : State} (h : TrackerLegal s.tracker) {x : Txn} (hx : collectingTxn s.tracker.txns = some x)
    (offer : OfferedBeat) : TrackerLegal (storeBeat s x offer).tracker := by
  obtain ⟨⟨before, after, stands⟩, hmem⟩ := h.find_stands hx
  have hphase : x.phase = .collecting := by simpa using List.find?_some hx
  have hlegal := (h.entry hmem).2
  have hdir := dir_of_collecting hlegal hphase
  have hslot : x.slot.isSome = true := by
    cases hs : x.slot <;> simp_all [Txn.slotLegal]
  by_cases hlast : x.req.beats ≤ x.beatsHeld.length + 1
  · have ready : (x.filled offer.beat offer.between).SlotReady := .inr ⟨hdir, _, rfl⟩
    obtain ⟨judged, -⟩ := verdictTime_judged s (acceptedBefore s.tracker.txns x) ready offer.between
    obtain ⟨htag, hreq, hl, -⟩ := judged.succeeds ready
    rw [storeBeat_last s hlast]
    refine trackerLegal_of_lanes ?_ (afterVerdict_lanes _ _)
    exact h.replaced stands _ ⟨htag, hreq, hl, fun _ => hslot⟩ (by rw [setTxn_txns, judged.txns]) judged.nextTag
  · have hlt : (x.beatsHeld ++ [offer.beat]).length < x.req.beats := by simp; omega
    simp only [storeBeat, if_pos hlt]
    exact h.replaced stands { x with slot := some { state := .filling, beats := x.beatsHeld ++ [offer.beat] } }
      ⟨rfl, rfl, by simpa [Txn.slotLegal, hphase, hdir] using hlt, fun _ => hslot⟩ rfl rfl

theorem takeHostRequest_trackerLegal {s : State} (h : TrackerLegal s.tracker) {tag : Nat} {x : Txn}
    (hx : findTxn s.tracker.txns tag = some x) : TrackerLegal (takeHostRequest s x).tracker := by
  obtain ⟨⟨before, after, stands⟩, hmem⟩ := h.find_stands hx
  obtain ⟨hbeats, hlegal⟩ := h.entry hmem
  exact h.replaced stands _ (forwardTxn_succeeds hbeats hlegal) rfl rfl

theorem takeWriteBeat_trackerLegal {s : State} (h : TrackerLegal s.tracker) {x : Txn} {beats : List WriteBeat} {n : Nat}
    (hx : sendingTxn s = some (x, beats, n)) : TrackerLegal (takeWriteBeat s x beats n).tracker := by
  obtain ⟨⟨tag, hfind⟩, hslot⟩ := sendingTxn_eq_some hx
  obtain ⟨⟨before, after, stands⟩, hmem⟩ := h.find_stands hfind
  have legal := (h.entry hmem).2
  have phase := forwarded_of_sending legal (by simp [Txn.isSending, hslot])
  have dir := dir_of_slot legal (by simp [hslot])
  unfold takeWriteBeat
  dsimp only
  split
  · next hlt =>
    exact h.replaced stands { x with slot := some { state := .sending (n + 1), beats := beats } }
      ⟨rfl, rfl, by simpa [Txn.slotLegal, phase, dir] using hlt, fun _ => by simp [hslot]⟩ rfl rfl
  · exact h.replaced stands { x with slot := none } ⟨rfl, rfl, by simp [Txn.slotLegal, phase], nofun⟩ rfl rfl

theorem retire_trackerLegal {s : State} (h : TrackerLegal s.tracker) (x : Txn) : TrackerLegal (retire s x).tracker := by
  unfold retire
  refine trackerLegal_of_lanes ?_ (takeTurns_lanes _)
  exact h.freed (x := x) rfl rfl

/-- An item counted as delivered, and the mark of an ERR, change nothing of an entry's slot. -/
theorem delivered_succeeds {x : Txn} (hl : x.slotLegal = true) (n : Nat) (err : Bool) :
    Txn.Succeeds { x with delivered := n, errSeen := err } x :=
  ⟨rfl, rfl, hl, id⟩

theorem sendLocal_trackerLegal {s : State} (h : TrackerLegal s.tracker) (dir : Dir) (id : HostId) :
    TrackerLegal (sendLocal s dir id).tracker := by
  unfold sendLocal
  split
  · next x hx =>
    obtain ⟨⟨before, after, stands⟩, hmem⟩ := h.find_stands hx
    split
    · next verdict status hphase =>
      have noSlot := no_slot_of_answer (h.entry hmem).2 ⟨_, _, .inl hphase⟩
      split
      · exact h.replaced stands { x with phase := .returning verdict status }
          ⟨rfl, rfl, by simp [Txn.slotLegal, noSlot], fun hs => hs⟩ rfl rfl
      · exact h
    all_goals exact h
  · exact h

theorem takeLocalItem_trackerLegal {s : State} (h : TrackerLegal s.tracker) {x : Txn} (hx : channelTxn s = some x)
    (status : RespStatus) : TrackerLegal (takeLocalItem s x status).tracker := by
  obtain ⟨tag, -, hfind⟩ := Option.bind_eq_some_iff.1 hx
  obtain ⟨⟨before, after, stands⟩, hmem⟩ := h.find_stands hfind
  unfold takeLocalItem
  dsimp only
  split
  · exact h.replaced stands _ (delivered_succeeds (h.entry hmem).2 (x.delivered + 1) x.errSeen) rfl rfl
  · exact retire_trackerLegal (s := putHostItem s (localItem x.req status)) h x

theorem passItem_trackerLegal {s : State} (h : TrackerLegal s.tracker) {before after : List Txn} {x : Txn}
    (stands : Stands s before x after) (item : MemItem) : TrackerLegal (passItem s x item).tracker := by
  have hmem : x ∈ s.tracker.txns := by simp [stands.1]
  unfold passItem
  dsimp only
  split
  · exact h.replaced stands _ (delivered_succeeds (h.entry hmem).2 (x.delivered + 1) (x.errSeen || itemStatus item == .err))
      (by simp) (by simp [setTxn])
  · exact retire_trackerLegal (by simpa using h) x

theorem offerItem_trackerLegal {s : State} (h : TrackerLegal s.tracker) (item : MemItem) (ready : Bool) :
    TrackerLegal (offerItem s item ready).tracker := by
  unfold offerItem
  split
  · next x hx =>
    split
    · have lanes : (giveChannel (setHead s (some item))).lanes = s.lanes := giveChannel_lanes _
      have given := trackerLegal_of_lanes h lanes
      unfold presentItem
      dsimp only
      split
      · unfold itemOwner at hx
        split at hx
        · cases hx
        · obtain ⟨id, -, hfind⟩ := Option.bind_eq_some_iff.1 hx
          rw [← txns_of_lanes lanes] at hfind
          obtain ⟨⟨before, after, stands⟩, -⟩ := given.find_stands hfind
          exact passItem_trackerLegal given stands item
      · exact given
    · exact h
  · split <;> exact h

/-- Every command that carries traffic keeps the table within its bounds. -/
theorem exec_trackerLegal_of_carries {c : Instr} {s t : State} (hc : carries c = true) (hs : TrackerLegal s.tracker)
    (h : exec c s = .next t) : TrackerLegal t.tracker := by
  have stepped : ∀ {ready : Bool} {u : State}, stepWhen ready s u = .next t → (ready = true → TrackerLegal u.tracker) →
      TrackerLegal t.tracker :=
    fun h hu => stepWhen_keeps (P := fun s => TrackerLegal s.tracker) h hs fun _ hr => hu hr
  have stays : Host.Outcome.next (φ := Fault) (ρ := Refusal) s = .next t → TrackerLegal t.tracker := by
    rintro ⟨⟩; exact hs
  cases c with
  | powerOnReset => cases h; exact trackerLegal_of_empty rfl
  | portResetAssert =>
    simp only [exec, execPortResetAssert] at h
    split at h
    · exact stays h
    · split at h
      · cases h; exact hs
      · cases h
        refine trackerLegal_of_empty ?_
        unfold portResetCommit
        split <;> simp [portResetBlocks, portResetTracker]
  | hostRequestAccept req =>
    simp only [exec, execHostRequestAccept] at h
    split at h
    · next hr => exact stepped h (acceptRequest_trackerLegal hs hr)
    · cases h
  | hostWriteBeat offer =>
    simp only [exec, execHostWriteBeat] at h
    split at h
    · next hx => exact stepped h fun _ => storeBeat_trackerLegal hs hx offer
    · exact stays h
  | hostClaimGrant =>
    simp only [exec, execHostClaimGrant] at h
    split at h
    · exact stepped h fun _ => hs
    · exact stays h
  | scanClaimGrant =>
    simp only [exec, execScanClaimGrant] at h
    split at h
    · exact stepped h fun _ => hs
    · exact stays h
  | forcedClaimGrant =>
    simp only [exec, execForcedClaimGrant] at h
    split at h
    · exact stepped h fun _ => hs
    · exact stays h
  | memoryRequestTaken =>
    simp only [exec, execMemoryRequestTaken] at h
    split at h
    · split at h
      · next hx => exact stepped h fun _ => takeHostRequest_trackerLegal hs hx
      · exact stays h
    · exact stepped h fun _ => hs
    · exact stays h
  | memoryWriteBeatTaken =>
    simp only [exec, execMemoryWriteBeatTaken] at h
    split at h
    · next hx => exact stepped h fun _ => takeWriteBeat_trackerLegal hs hx
    · exact stays h
  | idleGapMet => exact stepped h fun _ => hs
  | memoryResponseItemPass offer => exact stepped h fun _ => offerItem_trackerLegal hs _ _
  | localAnswerSend dir id head =>
    refine stepped h fun _ => sendLocal_trackerLegal ?_ dir id
    cases head with
    | none => exact hs
    | some item => exact offerItem_trackerLegal hs item false
  | localAnswerItemTaken =>
    simp only [exec, execLocalAnswerItemTaken] at h
    split at h
    · next hx =>
      split at h
      · exact stepped h fun _ => takeLocalItem_trackerLegal hs hx _
      all_goals exact stays h
    · exact stays h
  | drainTimerExpiry =>
    simp only [exec, execDrainTimerExpiry] at h
    split at h
    · exact stepped h fun _ => cutDrain_released_trackerLegal hs _ _ _
    · exact stays h
  | drainComplete =>
    simp only [exec, execDrainComplete] at h
    split at h
    · exact stepped h fun _ => completeDrain_trackerLegal hs _ _
    · exact stays h
  | commit => exact takeCommand_keeps (P := fun s => TrackerLegal s.tracker) h hs (doCommit_trackerLegal hs)
  | abortCommit => exact takeCommand_keeps (P := fun s => TrackerLegal s.tracker) h hs (doAbortCommit_trackerLegal hs)
  | _ => cases hc

theorem exec_trackerLegal {c : Instr} {s t : State} (h : exec c s = .next t) (hs : TrackerLegal s.tracker) :
    TrackerLegal t.tracker := by
  cases hc : carries c with
  | false => exact trackerLegal_of_lanes hs (exec_keepsLanes c s hc t h)
  | true => exact exec_trackerLegal_of_carries hc hs h

/-- Settles O13: every command frees entries, lets others succeed them, or adds the one that there is room for. -/
theorem transactionsStayLegal : Obligations.TransactionsStayLegal := fun _ _ h =>
  step_keeps (P := fun s => TrackerLegal s.tracker) (fun _ _ hs => hs) (fun _ hs => hs) (fun _ _ _ => exec_trackerLegal) h

end Sys2Proof.Machine

/-! What can come of a command, said once for all commands but those of the reset pins: it leaves the state as it was, or is a step
with conditions, or a frame that the management port takes (`Shape`). Its effect keeps the waiting commands, and a command that carries
no traffic keeps all that the host port shows (`State.hostSide`). -/

namespace Sys2Proof.Machine

/-! ## The host side -/

/-- The parts of the state that the host response channel depends on. -/
structure HostSide where
  txns : List Txn
  hostChan : Option Nat
  localTurn : Bool
  lastSource : Source
  eligible : List (List Nat)
  head : Option MemItem
  por : Bool
  prst : Bool

/-- The host side of a state. -/
def State.hostSide (s : State) : HostSide :=
  { txns := s.tracker.txns, hostChan := s.tracker.hostChan, localTurn := s.tracker.localTurn, lastSource := s.tracker.lastSource,
    eligible := s.tracker.eligible, head := s.fwd.head, por := s.pins.por, prst := s.pins.prst }

theorem hostSide_of_same {s t : State} (ht : t.tracker = s.tracker) (hf : t.fwd.head = s.fwd.head) (hp : t.pins = s.pins) :
    t.hostSide = s.hostSide := by
  unfold State.hostSide
  rw [ht, hf, hp]

@[simp] theorem answered_hostSide (s : State) (n : Nat) (r : Response) : (answered s n r).hostSide = s.hostSide := rfl

@[simp] theorem takeBetween_hostSide (s : State) (c : DirtyCommand) : (takeBetween s c).hostSide = s.hostSide := by
  unfold State.hostSide
  rw [takeBetween_tracker, takeBetween_fwd, takeBetween_pins]

@[simp] theorem settle_hostSide (s : State) : (settle s).hostSide = s.hostSide := hostSide_of_same (by simp) (by simp) (by simp)

/-! ## Shapes -/

/-- What can come of a command: nothing, a step with conditions, or a frame taken. Each keeps the waiting commands, and a quiet one the
host side. -/
inductive Shape (s : State) (quiet : Bool) : Host.Outcome State Fault Refusal → Prop
  | stays : Shape s quiet (.next s)
  | step {u : State} (ready : Bool) (pending : u.pending = s.pending) (side : quiet = true → u.hostSide = s.hostSide) :
      Shape s quiet (stepWhen ready s u)
  | frame {owner : State → State × Response} (n : Nat) (pending : (owner s).1.pending = s.pending)
      (side : quiet = true → (owner s).1.hostSide = s.hostSide) : Shape s quiet (takeCommand n s owner)

section

variable {s t : State} {quiet : Bool} {o : Host.Outcome State Fault Refusal}

theorem Shape.completes (h : Shape s quiet o) : ∃ t, o = .next t := by
  cases h with
  | stays => exact ⟨s, rfl⟩
  | step ready => rcases stepWhen_cases ready s _ with h | ⟨-, -, h⟩ <;> exact ⟨_, h⟩
  | frame n =>
    cases hp : s.pins.por
    · exact ⟨_, takeCommand_taken n s _ hp⟩
    · exact ⟨_, takeCommand_held n s _ hp⟩

/-- While POR_N is asserted nothing comes of it (R59, R167). -/
theorem Shape.held (h : Shape s quiet o) (hp : s.pins.por = true) : o = .next s := by
  cases h with
  | stays => rfl
  | step ready => simp [stepWhen, hp]
  | frame n => exact takeCommand_held n s _ hp

theorem Shape.pending (h : Shape s quiet o) (ho : o = .next t) : t.pending = s.pending := by
  cases h with
  | stays => cases ho; rfl
  | step ready pending => exact stepWhen_keeps (P := fun t => t.pending = s.pending) ho rfl fun _ _ => pending
  | frame n pending => exact takeCommand_keeps (P := fun t => t.pending = s.pending) ho rfl pending

theorem Shape.hostSide (h : Shape s true o) (ho : o = .next t) : t.hostSide = s.hostSide := by
  cases h with
  | stays => cases ho; rfl
  | step ready _ side => exact stepWhen_keeps (P := fun t => t.hostSide = s.hostSide) ho rfl fun _ _ => side rfl
  | frame n _ side => exact takeCommand_keeps (P := fun t => t.hostSide = s.hostSide) ho rfl (side rfl)

end

/-- A command between dirty additions, given by itself. -/
theorem shape_between {s : State} {quiet : Bool} (n : Nat) {owner : State → State × Response} (c : DirtyCommand)
    (h : takeBetween s c = commanded n s owner) : Shape s quiet (takeCommand n s owner) := by
  rw [commanded_eq] at h
  refine .frame n ?_ fun _ => ?_
  · have := takeBetween_pending s c
    rw [h] at this; exact this
  · have := takeBetween_hostSide s c
    rw [h] at this; exact this

theorem shape_lifeCommand {s : State} {quiet : Bool} (index : Byte) {allowed : Life → Bool} {effect : State → Ix → State × List Byte}
    (h : ∀ i, (effect s i).1.pending = s.pending ∧ (effect s i).1.hostSide = s.hostSide) :
    Shape s quiet (takeCommand 1 s fun t => lifeCommand index t allowed (effect t)) := by
  have kept : (lifeCommand index s allowed (effect s)).1.pending = s.pending ∧
      (lifeCommand index s allowed (effect s)).1.hostSide = s.hostSide :=
    lifeCommand_keeps (P := fun t => t.pending = s.pending ∧ t.hostSide = s.hostSide) ⟨rfl, rfl⟩ fun i _ _ _ _ _ => h i
  exact .frame 1 kept.1 fun _ => kept.2

/-! ## What the owners keep -/

theorem verifyAt_sides (s : State) (i : Ix) : (verifyAt s i).1.pending = s.pending ∧ (verifyAt s i).1.hostSide = s.hostSide := by
  unfold verifyAt joinDemand
  split
  · exact ⟨rfl, rfl⟩
  · exact ⟨by simp, settle_hostSide _⟩
  · exact ⟨rfl, rfl⟩
  · exact ⟨rfl, rfl⟩
  · exact ⟨by simp, (settle_hostSide _).trans (hostSide_of_same (by simp) (by simp) (by simp))⟩

theorem enableEngine_sides (s : State) : (enableEngine s).pending = s.pending ∧ (enableEngine s).hostSide = s.hostSide := by
  unfold enableEngine
  split
  · exact ⟨by simp, settle_hostSide _⟩
  · split <;> exact ⟨rfl, rfl⟩
  all_goals exact ⟨rfl, rfl⟩

theorem doStageEntry_sides (index : Byte) (raw : RawEntry) (s : State) :
    (doStageEntry index raw s).1.pending = s.pending ∧ (doStageEntry index raw s).1.hostSide = s.hostSide := by
  unfold doStageEntry
  split
  · exact ⟨rfl, rfl⟩
  · split
    · exact ⟨rfl, rfl⟩
    · split <;> exact ⟨rfl, rfl⟩

theorem takeWriteBeat_pending (s : State) (x : Txn) (beats : List WriteBeat) (sent : Nat) :
    (takeWriteBeat s x beats sent).pending = s.pending := by
  unfold takeWriteBeat
  split <;> rfl

theorem doCommit_pending (s : State) : (doCommit s).1.pending = s.pending := by
  unfold doCommit
  split
  · rfl
  · split
    · rfl
    · split <;> simp

theorem doAbortCommit_pending (s : State) : (doAbortCommit s).1.pending = s.pending := by
  unfold doAbortCommit
  split <;> simp

/-! ## The shape of every command -/

/-- The commands that drive a reset pin. -/
def drivesPin : Instr → Bool
  | .powerOnReset | .powerOnResetRelease | .portResetAssert | .portResetDeassert => true
  | _ => false

/-- A command that drives no reset pin, and is no ill-formed request, has one of the shapes; it is quiet if it carries no traffic. -/
theorem exec_shape {c : Instr} (hpin : drivesPin c = false)
    (hreq : ∀ req, c = .hostRequestAccept req → req.beatsLegal = true) (s : State) : Shape s (!carries c) (exec c s) := by
  cases c with
  | powerOnReset | powerOnResetRelease | portResetAssert | portResetDeassert => cases hpin
  | hostRequestAccept req =>
    simp only [exec, execHostRequestAccept, hreq req rfl, if_true]
    exact .step _ (by simp) nofun
  | hostWriteBeat offer =>
    simp only [exec, execHostWriteBeat]
    split
    · exact .step _ (by simp) nofun
    · exact .stays
  | hostClaimGrant =>
    simp only [exec, execHostClaimGrant]
    split
    · exact .step _ rfl nofun
    · exact .stays
  | scanClaimGrant =>
    simp only [exec, execScanClaimGrant]
    split
    · exact .step _ rfl nofun
    · exact .stays
  | forcedClaimGrant =>
    simp only [exec, execForcedClaimGrant]
    split
    · exact .step _ rfl nofun
    · exact .stays
  | memoryRequestTaken =>
    simp only [exec, execMemoryRequestTaken]
    split
    · split
      · exact .step _ rfl nofun
      · exact .stays
    · exact .step _ rfl nofun
    · exact .stays
  | memoryWriteBeatTaken =>
    simp only [exec, execMemoryWriteBeatTaken]
    split
    · exact .step _ (takeWriteBeat_pending ..) nofun
    · exact .stays
  | idleGapMet => exact .step _ rfl nofun
  | memoryResponseItemPass offer => exact .step _ (by simp) nofun
  | memoryResponseDiscard item =>
    simp only [exec, execMemoryResponseDiscard]
    split
    · exact .stays
    · exact .step _ rfl fun _ => rfl
  | localAnswerSend dir id head => exact .step _ (by cases head <;> simp) nofun
  | localAnswerItemTaken =>
    simp only [exec, execLocalAnswerItemTaken]
    split
    · split
      · exact .step _ (by simp) nofun
      all_goals exact .stays
    · exact .stays
  | chunkReadReturn data status =>
    simp only [exec, execChunkReadReturn]
    split
    · exact .step _ (by simp) fun _ => hostSide_of_same (by simp) (by simp) (by simp)
    all_goals exact .step _ rfl fun _ => rfl
  | chunkReadBeat data status =>
    simp only [exec, execChunkReadBeat]
    split
    all_goals exact .step _ rfl fun _ => rfl
  | drainTimerExpiry =>
    simp only [exec, execDrainTimerExpiry]
    split
    · exact .step _ (by simp) nofun
    · exact .stays
  | drainComplete =>
    simp only [exec, execDrainComplete]
    split
    · exact .step _ (by simp) nofun
    · exact .stays
  | commandFrameRejected frame partByte =>
    simp only [exec, execCommandFrameRejected]
    split
    · exact .step _ rfl fun _ => rfl
    · exact .stays
  | roundTimerExpiry => exact .step _ (by simp) fun _ => hostSide_of_same (by simp) (by simp) (by simp)
  | writeDrainDone => exact .step _ (by simp) fun _ => hostSide_of_same (by simp) (by simp) (by simp)
  | starvationTimerExpiry | fetch | emptyFrame => exact .step _ rfl fun _ => rfl
  | stageEntry index raw => exact .frame 17 (doStageEntry_sides index raw s).1 fun _ => (doStageEntry_sides index raw s).2
  | readEntry index selector => exact .frame 2 (by rw [doReadEntry_state]) fun _ => by rw [doReadEntry_state]
  | discard mask => exact .frame 2 (by unfold doDiscard; split <;> rfl) fun _ => by unfold doDiscard; split <;> rfl
  | commit => exact .frame 0 (doCommit_pending s) nofun
  | abortCommit => exact .frame 0 (doAbortCommit_pending s) nofun
  | openRegion index =>
    exact shape_lifeCommand index fun i => ⟨by simp, hostSide_of_same (by simp) (by simp) (by simp)⟩
  | closeRegion index =>
    exact shape_lifeCommand index fun i => ⟨by simp, hostSide_of_same (by simp) (by simp) (by simp)⟩
  | resign index =>
    exact shape_lifeCommand index fun i =>
      ⟨by simp [resignAt], hostSide_of_same (by simp [resignAt]) (by simp [resignAt]) (by simp [resignAt])⟩
  | verify index => exact shape_lifeCommand index (verifyAt_sides s)
  | regionStatus index => exact .frame 1 (by rw [doRegionStatus_state]) fun _ => by rw [doRegionStatus_state]
  | enable => exact .frame 1 (enableEngine_sides s).1 fun _ => (enableEngine_sides s).2
  | disable =>
    exact .frame 1 (by unfold disableEngine scanAction; split <;> rfl) fun _ => by unfold disableEngine scanAction; split <;> rfl
  | resume => exact .frame 1 (by unfold doResume; split <;> rfl) fun _ => by unfold doResume; split <;> rfl
  | readEvent => exact .frame 0 (by unfold doReadEvent; split <;> rfl) fun _ => by unfold doReadEvent; split <;> rfl
  | clearFlags mask => exact .frame 1 (by unfold doClearFlags; split <;> rfl) fun _ => by unfold doClearFlags; split <;> rfl
  | setAlertMask mask => exact .frame 1 (by unfold doSetAlertMask; split <;> rfl) fun _ => by unfold doSetAlertMask; split <;> rfl
  | setTiming => exact .frame 10 (by unfold doSetTiming; split <;> rfl) fun _ => by unfold doSetTiming; split <;> rfl
  | takeDirty count => exact shape_between 1 (.takeDirty count) rfl
  | clearDirty index => exact shape_between 1 (.clearDirty index) rfl
  | setDirtyThreshold threshold => exact shape_between 1 (.setDirtyThreshold threshold) rfl
  | softClear => exact shape_between 0 .softClear rfl
  | roundsOn | roundsOff => exact .frame 1 rfl fun _ => rfl
  | commitStatus | scanStatus | eventStatus | dirtyStatus | portStatus | identify => exact .frame 0 rfl fun _ => rfl

/-! ## The reset pins -/

theorem portResetCommit_pending (s : State) : (portResetCommit s).pending = s.pending := by
  unfold portResetCommit
  split <;> simp

/-- A command of a reset pin completes, and keeps the waiting commands (R2, log entry 9). -/
theorem exec_of_drivesPin {c : Instr} (hpin : drivesPin c = true) (s : State) : ∃ t, exec c s = .next t ∧ t.pending = s.pending := by
  cases c with
  | powerOnReset | powerOnResetRelease => exact ⟨_, rfl, rfl⟩
  | portResetAssert =>
    simp only [exec, execPortResetAssert]
    split
    · exact ⟨_, rfl, rfl⟩
    · split
      · exact ⟨_, rfl, rfl⟩
      · exact ⟨_, rfl, (portResetCommit_pending _).trans (by simp)⟩
  | portResetDeassert =>
    simp only [exec, execPortResetDeassert, resumeStarvation]
    split
    · exact ⟨_, rfl, rfl⟩
    · split
      · exact ⟨_, rfl, rfl⟩
      · exact ⟨_, rfl, by split <;> rfl⟩
  | _ => cases hpin

/-! ## Settled -/

theorem exec_illegalRequest {req : Request} (h : req.beatsLegal = false) (s : State) :
    exec (.hostRequestAccept req) s = .fault .illegalRequest := by
  simp [exec, execHostRequestAccept, h]

/-- Every command but an ill-formed request has a next state, with the same commands waiting (R42, log entries 1 and 17). -/
theorem exec_next {c : Instr} (h : ∀ req, c = .hostRequestAccept req → req.beatsLegal = true) (s : State) :
    ∃ t, exec c s = .next t ∧ t.pending = s.pending := by
  cases hpin : drivesPin c with
  | true => exact exec_of_drivesPin hpin s
  | false =>
    obtain ⟨t, ht⟩ := (exec_shape hpin h s).completes
    exact ⟨t, ht, (exec_shape hpin h s).pending ht⟩

/-- A command is an ill-formed request, or has a next state. -/
theorem exec_cases (c : Instr) (s : State) :
    (∃ req, c = .hostRequestAccept req ∧ req.beatsLegal = false ∧ exec c s = .fault .illegalRequest) ∨
      (∀ req, c = .hostRequestAccept req → req.beatsLegal = true) ∧ ∃ t, exec c s = .next t ∧ t.pending = s.pending := by
  by_cases h : ∀ req, c = .hostRequestAccept req → req.beatsLegal = true
  · exact .inr ⟨h, exec_next h s⟩
  · simp only [not_forall, Bool.not_eq_true] at h
    obtain ⟨req, rfl, hreq⟩ := h
    exact .inl ⟨req, rfl, hreq, exec_illegalRequest hreq s⟩

/-- Settles O3: an ill-formed request faults, and every other command has a next state. -/
theorem wellFormedCommandsComplete : Obligations.WellFormedCommandsComplete := by
  intro s
  refine ⟨fun c hc => ?_, fun c f => ?_, fun c r => ?_, fun c t ht => ?_⟩
  · obtain ⟨t, ht, -⟩ := exec_next (c := c) (by rintro req rfl; exact hc) s
    exact ⟨t, ht⟩
  · rcases exec_cases c s with ⟨req, rfl, hreq, he⟩ | ⟨legal, t, he, -⟩
    · cases f
      exact ⟨fun _ => ⟨req, rfl, hreq⟩, fun _ => he⟩
    · rw [he]
      refine ⟨nofun, ?_⟩
      rintro ⟨req, rfl, hreq⟩
      rw [legal req rfl] at hreq; cases hreq
  · rcases exec_cases c s with ⟨req, rfl, hreq, he⟩ | ⟨-, t, he, -⟩ <;> rw [he] <;> nofun
  · rcases exec_cases c s with ⟨req, rfl, hreq, he⟩ | ⟨-, u, he, hu⟩
    · rw [he] at ht; cases ht
    · rw [he] at ht; cases ht; exact hu

/-- With PRST_N asserted no local answer begins (R59). -/
theorem sendLocal_of_prst {s : State} (h : s.pins.prst = true) (dir : Dir) (id : HostId) : sendLocal s dir id = s := by
  unfold sendLocal localReady
  split
  · split
    · simp [h]
    all_goals rfl
  · rfl

theorem stepWhen_not {ready : Bool} (s t : State) (h : ready = false) : stepWhen ready s t = .next s := by
  simp [stepWhen, h]

/-- Under POR_N a command of PRST_N changes its pin alone (log entry 9), and every other command but those of POR_N does nothing (R59,
R167). -/
theorem exec_of_por {c : Instr} {s t : State} (hp : s.pins.por = true) (ht : exec c s = .next t) (hon : c ≠ .powerOnReset)
    (hoff : c ≠ .powerOnResetRelease) : t = { s with pins := { s.pins with prst := t.pins.prst } } := by
  rcases exec_cases c s with ⟨req, -, -, he⟩ | ⟨legal, -⟩
  · rw [he] at ht; cases ht
  cases hpin : drivesPin c with
  | false =>
    rw [(exec_shape hpin legal s).held hp] at ht
    cases ht; rfl
  | true =>
    cases c with
    | powerOnReset => exact absurd rfl hon
    | powerOnResetRelease => exact absurd rfl hoff
    | portResetAssert =>
      simp only [exec, execPortResetAssert] at ht
      rw [if_pos hp] at ht
      split at ht <;> cases ht <;> rfl
    | portResetDeassert =>
      simp only [exec, execPortResetDeassert] at ht
      rw [if_pos hp] at ht
      split at ht <;> cases ht <;> rfl
    | _ => cases hpin

/-- Settles O4: under POR_N by the shape of the commands, under PRST_N because each of the ports' conditions asks for its release. -/
theorem quietDuringResets : Obligations.QuietDuringResets := by
  refine ⟨fun c s t hp ht hon hoff => exec_of_por hp ht hon hoff, ?_⟩
  intro s hp
  have notFree : channelFree s = false := by simp [channelFree, portsHeld, hp]
  refine ⟨fun req hreq => ?_, fun beat between => ?_, ?_, ?_, ?_, ?_, ?_, ?_, fun dir id => ?_, ?_⟩
  · simp only [exec, execHostRequestAccept, hreq, if_true]
    exact stepWhen_not _ _ (by simp [requestReady, hp])
  · simp only [exec, execHostWriteBeat]
    split
    · exact stepWhen_not _ _ (by simp [hp])
    · rfl
  · simp only [exec, execHostClaimGrant]
    split
    · exact stepWhen_not _ _ (by simp [hostGrantReady, notFree])
    · rfl
  · simp only [exec, execScanClaimGrant]
    split
    · exact stepWhen_not _ _ (by simp [scanGrantReady, notFree])
    · rfl
  · simp only [exec, execForcedClaimGrant]
    split
    · exact stepWhen_not _ _ (by simp [forcedGrantReady, notFree])
    · rfl
  · simp only [exec, execMemoryRequestTaken]
    split
    · split
      · exact stepWhen_not _ _ (by simp [hp])
      · rfl
    · exact stepWhen_not _ _ (by simp [hp])
    · rfl
  · simp only [exec, execMemoryWriteBeatTaken]
    split
    · exact stepWhen_not _ _ (by simp [hp])
    · rfl
  · exact stepWhen_not _ _ (by simp [gapCounts, portsHeld, hp])
  · simp only [exec, execLocalAnswerSend, sendLocal_of_prst hp, stepWhen, ite_self]
  · simp only [exec, execLocalAnswerItemTaken]
    split
    · split
      · exact stepWhen_not _ _ (by simp [hp])
      all_goals rfl
    · rfl

end Sys2Proof.Machine

/-! Who is next: the oldest entry of a stream, the transaction an item of the memory belongs to, the memory's candidate for the host
response channel, the local answers that become eligible, and whom a free channel is given to (R50 to R53). -/

namespace Sys2Proof.Machine

/-! ## Next in a stream -/

/-- Entries with one tag are one. -/
theorem eq_of_tag {txns : List Txn} (hn : (txns.map Txn.tag).Nodup) {x y : Txn} (hx : x ∈ txns) (hy : y ∈ txns)
    (h : x.tag = y.tag) : x = y := List.inj_on_of_nodup_map hn hx hy h

/-- The oldest entry of a stream is the one that no entry of the stream stands before. -/
theorem oldestOf_stands {before after : List Txn} {x : Txn} (h : NoneOfStream before x) :
    oldestOf (before ++ x :: after) x.req.dir x.req.id = some x :=
  find_split _ _ _ _ (fun y hy => by simpa [not_and] using h y hy) (by simp)

theorem nextInStream_iff_oldest {txns : List Txn} (hn : (txns.map Txn.tag).Nodup) {x : Txn} (hx : x ∈ txns) :
    nextInStream txns x = true ↔ oldestOf txns x.req.dir x.req.id = some x := by
  unfold nextInStream
  constructor
  · intro h
    obtain ⟨y, hy, htag⟩ := Option.map_eq_some_iff.1 (beq_iff_eq.1 h)
    rw [hy, eq_of_tag hn (List.mem_of_find?_eq_some hy) hx htag]
  · intro h
    simp [h]

/-- An entry is next in its stream when no entry of the stream stands before it (R50). -/
theorem nextInStream_iff_stands {txns : List Txn} (hn : (txns.map Txn.tag).Nodup) {x : Txn} (hx : x ∈ txns) :
    nextInStream txns x = true ↔ ∃ before after, txns = before ++ x :: after ∧ NoneOfStream before x := by
  rw [nextInStream_iff_oldest hn hx]
  constructor
  · intro h
    obtain ⟨-, before, after, htxns, hbefore⟩ := List.find?_eq_some_iff_append.1 h
    exact ⟨before, after, htxns, fun y hy => by simpa [imp_iff_not_or] using hbefore y hy⟩
  · rintro ⟨before, after, rfl, h⟩
    exact oldestOf_stands h

theorem nextInStream_stands {s : State} {before after : List Txn} {x : Txn} (stands : Stands s before x after) :
    nextInStream s.tracker.txns x = true ↔ NoneOfStream before x := by
  have hx : x ∈ s.tracker.txns := by simp [stands.1]
  rw [nextInStream_iff_stands stands.2 hx]
  refine ⟨?_, fun h => ⟨before, after, stands.1, h⟩⟩
  rintro ⟨before', after', htxns, h⟩ y hy hsame
  have oldest := oldestOf_stands (after := after') h
  rw [← htxns, stands.1, oldestOf, List.find?_append, Option.or_eq_some_iff] at oldest
  have found : (before.find? fun z => z.req.dir == x.req.dir && z.req.id == x.req.id) ≠ none := by
    simp only [ne_eq, List.find?_eq_none, not_forall]
    exact ⟨y, hy, by simp [hsame]⟩
  rcases oldest with hfind | ⟨hnone, -⟩
  · exact (stands_tag_ne stands).1 x (List.mem_of_find?_eq_some hfind) rfl
  · exact found hnone

/-! ## The owner of an item -/

/-- Whether an item of the memory belongs to a transaction, being of its stream while it is forwarded (R52, R58). -/
def Txn.owns (x : Txn) (item : MemItem) : Bool :=
  itemDir item == x.req.dir && item.id == x.req.id.setWidth 5 && x.phase == .forwarded

theorem Txn.owns_iff (x : Txn) (item : MemItem) :
    x.owns item = true ↔ itemDir item = x.req.dir ∧ item.id = x.req.id.setWidth 5 ∧ x.phase = .forwarded := by
  simp [Txn.owns, and_assoc]

theorem setWidth_lt_sixteen (id : HostId) : (id.setWidth 5).toNat < 16 := by
  rw [BitVec.toNat_setWidth_of_le (by decide)]
  exact id.isLt

/-- An item's host id is the one that its five-bit id widens. -/
theorem itemHostId_eq_some_iff (item : MemItem) (id : HostId) : itemHostId item = some id ↔ item.id = id.setWidth 5 := by
  unfold itemHostId
  split
  · next h =>
    rw [Option.some_inj]
    constructor
    · rintro rfl
      apply BitVec.eq_of_toNat_eq
      simp only [BitVec.toNat_setWidth]
      omega
    · intro hid
      rw [hid]
      apply BitVec.eq_of_toNat_eq
      simp only [BitVec.toNat_setWidth]
      omega
  · next h =>
    refine ⟨nofun, fun hid => absurd ?_ h⟩
    rw [hid]
    exact setWidth_lt_sixteen id

/-- Transactions that own one item are of one stream. -/
theorem Txn.owns_stream {x y : Txn} {item : MemItem} (hx : x.owns item = true) (hy : y.owns item = true) :
    y.req.dir = x.req.dir ∧ y.req.id = x.req.id := by
  obtain ⟨hxdir, hxid, -⟩ := (Txn.owns_iff x item).1 hx
  obtain ⟨hydir, hyid, -⟩ := (Txn.owns_iff y item).1 hy
  refine ⟨hydir.symm.trans hxdir, Option.some_inj.1 ?_⟩
  rw [← (itemHostId_eq_some_iff item _).2 hxid, ← (itemHostId_eq_some_iff item _).2 hyid]

/-- The owner of an item is the oldest transaction that owns it; none while PRST_N is asserted (R52, R59). -/
theorem itemOwner_eq (s : State) (item : MemItem) :
    itemOwner s item = if s.pins.prst = true then none else s.tracker.txns.find? fun y => y.owns item := by
  unfold itemOwner
  refine if_congr Iff.rfl rfl ?_
  cases hid : itemHostId item with
  | none =>
    refine (List.find?_eq_none.2 fun y _ howns => ?_).symm
    have := (itemHostId_eq_some_iff item y.req.id).2 ((Txn.owns_iff y item).1 howns).2.1
    rw [hid] at this; cases this
  | some id =>
    have widened := (itemHostId_eq_some_iff item id).1 hid
    refine congrArg (fun p => s.tracker.txns.find? p) (funext fun y => ?_)
    rw [Bool.eq_iff_iff, Txn.owns_iff]
    have same : item.id = y.req.id.setWidth 5 ↔ y.req.id = id := by
      rw [← itemHostId_eq_some_iff, hid, Option.some_inj, eq_comm]
    simp only [Bool.and_eq_true, beq_iff_eq, same, and_assoc, eq_comm (a := y.req.dir)]

theorem itemOwner_eq_none_iff (s : State) (item : MemItem) :
    itemOwner s item = none ↔ s.pins.prst = true ∨ ∀ x ∈ s.tracker.txns, x.owns item = false := by
  rw [itemOwner_eq]
  split
  · next h => simp [h]
  · next h => simp [h]

/-- The transaction that no owner of an item stands before, and that owns it, is its owner. -/
theorem itemOwner_stands_of_none {s : State} {before after : List Txn} {x : Txn} (htxns : s.tracker.txns = before ++ x :: after)
    {item : MemItem} (hp : s.pins.prst = false) (hx : x.owns item = true) (hb : ∀ y ∈ before, y.owns item = false) :
    itemOwner s item = some x := by
  rw [itemOwner_eq, if_neg (by simp [hp]), htxns]
  exact find_split _ _ _ _ hb hx

theorem owner_of_itemOwner {s : State} {item : MemItem} {x : Txn} (h : itemOwner s item = some x) :
    s.pins.prst = false ∧ x ∈ s.tracker.txns ∧ x.owns item = true := by
  rw [itemOwner_eq] at h
  split at h
  · cases h
  · next hp => exact ⟨by simpa using hp, List.mem_of_find?_eq_some h, List.find?_some (p := fun y => Txn.owns y item) h⟩

/-! ## The candidates -/

/-- The memory's candidate owns the item kept presented, and is next in its stream (R53). -/
theorem memoryCandidate_eq_some_iff {s : State} (hn : (s.tracker.txns.map Txn.tag).Nodup) (x : Txn) :
    memoryCandidate s = some x ↔ x ∈ s.tracker.txns ∧ nextInStream s.tracker.txns x = true ∧ s.pins.prst = false ∧
      ∃ item, s.fwd.head = some item ∧ x.owns item = true := by
  unfold memoryCandidate
  constructor
  · intro h
    split at h
    · next y hy =>
      split at h
      · next hnext =>
        cases h
        obtain ⟨item, hhead, hitem⟩ := Option.bind_eq_some_iff.1 hy
        obtain ⟨hp, hx, howns⟩ := owner_of_itemOwner hitem
        exact ⟨hx, hnext, hp, item, hhead, howns⟩
      · cases h
    · cases h
  · rintro ⟨hx, hnext, hp, item, hhead, howns⟩
    obtain ⟨before, after, htxns, hnone⟩ := (nextInStream_iff_stands hn hx).1 hnext
    have owner : itemOwner s item = some x := itemOwner_stands_of_none htxns hp howns fun y hy =>
      Bool.eq_false_iff.2 fun hyo => hnone y hy (Txn.owns_stream howns hyo)
    simp only [hhead, Option.bind_some, owner, hnext, if_true]

/-- The local answers that become eligible (R51). -/
theorem mem_freshlyEligible_iff (t : Tracker) (tag : Nat) : tag ∈ freshlyEligible t ↔
    ∃ x ∈ t.txns, x.tag = tag ∧ x.isLocal = true ∧ nextInStream t.txns x = true ∧ tag ∉ t.eligible.flatten := by
  simp only [freshlyEligible, List.mem_map, List.mem_filter, Bool.and_eq_true, Bool.not_eq_true', List.contains_eq_mem,
    decide_eq_false_iff_not]
  constructor
  · rintro ⟨x, ⟨hx, ⟨hlocal, hnext⟩, hnew⟩, rfl⟩
    exact ⟨x, hx, rfl, hlocal, hnext, hnew⟩
  · rintro ⟨x, hx, rfl, hlocal, hnext, hnew⟩
    exact ⟨x, ⟨hx, ⟨hlocal, hnext⟩, hnew⟩, rfl⟩

theorem freshlyEligible_nodup {t : Tracker} (hn : (t.txns.map Txn.tag).Nodup) : (freshlyEligible t).Nodup :=
  hn.sublist (List.filter_sublist.map Txn.tag)

/-- Recording adds the answers that become eligible as one group, if there are any (R51). -/
theorem noteEligible_eq (s : State) : noteEligible s = { s with tracker := { s.tracker with
    eligible := s.tracker.eligible ++ (if freshlyEligible s.tracker = [] then [] else [freshlyEligible s.tracker]) } } := by
  unfold noteEligible
  cases h : freshlyEligible s.tracker with
  | nil => simp
  | cons tag tags => simp

theorem isLocal_iff (x : Txn) : x.isLocal = true ↔ ∃ verdict status, x.phase = .localAnswer verdict status := by
  unfold Txn.isLocal
  cases x.phase <;> simp

/-! ## Giving the channel -/

section

variable {s : State}

theorem giveChannel_taken (h : ¬(s.tracker.hostChan = none ∧ s.tracker.localTurn = false)) : giveChannel s = s := by
  unfold giveChannel
  rw [if_pos]
  rw [Bool.or_eq_true, Option.isSome_iff_ne_none]
  by_contra hno
  simp only [not_or, not_not, Bool.not_eq_true] at hno
  exact h hno

variable (free : s.tracker.hostChan = none ∧ s.tracker.localTurn = false)
include free

theorem free_not_taken : (s.tracker.hostChan.isSome || s.tracker.localTurn) = false := by simp [free.1, free.2]

/-- The memory's candidate has the channel, unless a local answer is waiting and the memory had it last. -/
theorem giveChannel_memory {x : Txn} (hx : memoryCandidate s = some x)
    (h : s.tracker.eligible = [] ∨ s.tracker.lastSource = .localAnswer) : giveChannel s = holdChannel s x.tag := by
  simp only [giveChannel, free_not_taken free, hx]
  cases he : s.tracker.eligible with
  | nil => rfl
  | cons group groups =>
    rcases h with h | h
    · rw [he] at h; cases h
    · simp [h]

/-- The channel is given to a local answer, unless the memory has a candidate and a local answer had it last. -/
theorem giveChannel_local (he : s.tracker.eligible ≠ [])
    (h : memoryCandidate s = none ∨ s.tracker.lastSource = .memory) : giveChannel s = giveLocal s := by
  obtain ⟨group, groups, hgroups⟩ := List.exists_cons_of_ne_nil he
  simp only [giveChannel, free_not_taken free, hgroups]
  cases hx : memoryCandidate s with
  | none => rfl
  | some x =>
    rcases h with h | h
    · rw [hx] at h; cases h
    · simp [h]

theorem giveChannel_nobody (hx : memoryCandidate s = none) (he : s.tracker.eligible = []) : giveChannel s = s := by
  simp [giveChannel, free_not_taken free, hx, he]

end

/-! ## Settled -/

/-- Settles O29: recording and giving, case by case, with the memory's candidate told by its place. -/
theorem hostChannelIsGiven : Obligations.HostChannelIsGiven := by
  intro s hn candidate answers free
  have candidate_iff : ∀ x, candidate x ↔ memoryCandidate s = some x := by
    intro x
    rw [memoryCandidate_eq_some_iff hn]
    constructor
    · rintro ⟨before, after, item, htxns, hnone, hphase, hhead, hdir, hid, hp⟩
      have hx : x ∈ s.tracker.txns := by simp [htxns]
      exact ⟨hx, (nextInStream_iff_stands hn hx).2 ⟨before, after, htxns, hnone⟩, hp, item, hhead,
        (Txn.owns_iff x item).2 ⟨hdir, hid, hphase⟩⟩
    · rintro ⟨hx, hnext, hp, item, hhead, howns⟩
      obtain ⟨before, after, htxns, hnone⟩ := (nextInStream_iff_stands hn hx).1 hnext
      obtain ⟨hdir, hid, hphase⟩ := (Txn.owns_iff x item).1 howns
      exact ⟨before, after, item, htxns, hnone, hphase, hhead, hdir, hid, hp⟩
  have none_iff : (∀ x, ¬candidate x) ↔ memoryCandidate s = none := by
    simp only [candidate_iff, Option.eq_none_iff_forall_ne_some, ne_eq]
  refine ⟨⟨freshlyEligible s.tracker, fun tag => ?_, freshlyEligible_nodup hn, noteEligible_eq s⟩, rfl, giveChannel_taken,
    fun x hfree hx hwho => ?_, fun hfree hans hwho => ?_, fun hfree hans hx => ?_⟩
  · rw [mem_freshlyEligible_iff]
    constructor
    · rintro ⟨x, hx, htag, hlocal, hnext, hnew⟩
      obtain ⟨before, after, htxns, hnone⟩ := (nextInStream_iff_stands hn hx).1 hnext
      exact ⟨before, x, after, htxns, hnone, htag, (isLocal_iff x).1 hlocal, hnew⟩
    · rintro ⟨before, x, after, htxns, hnone, htag, hlocal, hnew⟩
      have hx : x ∈ s.tracker.txns := by simp [htxns]
      exact ⟨x, hx, htag, (isLocal_iff x).2 hlocal, (nextInStream_iff_stands hn hx).2 ⟨before, after, htxns, hnone⟩, hnew⟩
  · exact giveChannel_memory hfree ((candidate_iff x).1 hx) (hwho.imp_left not_not.1)
  · exact giveChannel_local hfree hans (hwho.imp_left none_iff.1)
  · exact giveChannel_nobody hfree (none_iff.1 hx) (not_not.1 hans)

end Sys2Proof.Machine

/-! The host response channel: `ChannelLegal`, told of the parts of the state it looks at alone (`HostSide.Sound`). While an entry has
changed and the turns are still to be taken, all of it holds but what the turns bring about (`HostSide.Owed`), and taking them brings it
about (R51, R53). Where tags rise with acceptance, the entry next in its stream is the one with the least tag of it (`Next`). -/

namespace Sys2Proof.Machine

/-! ## Next in a stream, by tags -/

/-- No entry of the transaction's stream has a lower tag. -/
def Next (txns : List Txn) (x : Txn) : Prop := ∀ y ∈ txns, sameStream y x = true → x.tag ≤ y.tag

theorem next_iff {s : State} (hs : s.lanes.Sound) {x : Txn} (hx : x ∈ s.tracker.txns) :
    nextInStream s.tracker.txns x = true ↔ Next s.tracker.txns x := by
  obtain ⟨before, after, htxns⟩ := List.append_of_mem hx
  have stands : Stands s before x after := ⟨htxns, hs.tags_nodup⟩
  obtain ⟨hbefore, hafter⟩ := hs.around (x := x) htxns
  rw [nextInStream_stands stands]
  constructor
  · intro hnone y hy hsame
    rw [htxns, List.mem_append, List.mem_cons] at hy
    rcases hy with hy | rfl | hy
    · exact absurd ((sameStream_iff y x).1 hsame) (hnone y hy)
    · exact Nat.le_refl _
    · exact Nat.le_of_lt (hafter y hy).1
  · intro hnext y hy hsame
    exact Nat.not_le_of_lt (hbefore y hy).1 (hnext y (by simp [htxns, hy]) ((sameStream_iff y x).2 hsame))

/-- An entry stays next among entries each of which has the tag and the request of one that was there. -/
theorem Next.transfer {txns txns' : List Txn} {x x' : Txn} (h : Next txns x)
    (hw : ∀ y' ∈ txns', ∃ y ∈ txns, y'.tag = y.tag ∧ y'.req = y.req) (ht : x'.tag = x.tag) (hr : x'.req = x.req) : Next txns' x' := by
  intro y' hy' hsame
  obtain ⟨y, hy, htag, hreq⟩ := hw y' hy'
  rw [ht, htag]
  refine h y hy ?_
  rwa [sameStream_congr hreq, sameStream_comm, sameStream_congr hr, sameStream_comm] at hsame

theorem Next.of_subset {txns txns' : List Txn} {x : Txn} (h : Next txns x) (hsub : ∀ y ∈ txns', y ∈ txns) : Next txns' x :=
  h.transfer (fun y hy => ⟨y, hsub y hy, rfl, rfl⟩) rfl rfl

/-! ## Soundness of the host side -/

/-- Whether a transaction's local answer is being sent. -/
def Txn.IsReturning (x : Txn) : Prop := ∃ verdict status, x.phase = .returning verdict status

/-- Whether a transaction's response has begun. -/
def Txn.Begun (x : Txn) : Prop := 0 < x.delivered ∨ x.IsReturning

namespace HostSide

/-- The memory's candidate for the channel (R53). -/
def Candidate (h : HostSide) (x : Txn) : Prop :=
  x ∈ h.txns ∧ Next h.txns x ∧ h.prst = false ∧ ∃ item, h.head = some item ∧ x.owns item = true

/-- What holds of the host side also while turns are still to be taken (R50 to R53, R58, R59). -/
structure Owed (h : HostSide) : Prop where
  once : h.eligible.flatten.Nodup
  groups : ∀ group ∈ h.eligible, group ≠ []
  recorded : ∀ tag ∈ h.eligible.flatten, ∃ x ∈ h.txns, x.tag = tag ∧ x.isLocal = true ∧ Next h.txns x
  holder : ∀ tag, h.hostChan = some tag → ∃ x ∈ h.txns, x.tag = tag ∧ Next h.txns x ∧
    (x.phase = .forwarded ∧ h.lastSource = .memory ∨ x.IsReturning ∧ h.lastSource = .localAnswer)
  begun : ∀ x ∈ h.txns, x.delivered < responseItems x.req ∧ (x.Begun → h.hostChan = some x.tag)
  turn : h.localTurn = true → h.hostChan = none ∧ h.eligible ≠ []
  owned : ∀ item, h.head = some item → h.prst = false ∧ ∃ x ∈ h.txns, x.owns item = true
  quiet : h.por = true ∨ h.prst = true → h.txns = [] ∧ h.head = none

/-- Every local answer that is next in its stream is recorded as eligible (R51). -/
def AllRecorded (h : HostSide) : Prop := ∀ x ∈ h.txns, x.isLocal = true → Next h.txns x → x.tag ∈ h.eligible.flatten

/-- The host side with the turns taken: a free channel that is given to none has no candidate (R53). -/
structure Sound (h : HostSide) : Prop extends Owed h where
  all : h.AllRecorded
  given : h.hostChan = none → h.localTurn = false → (∀ x, ¬h.Candidate x) ∧ h.eligible = []

end HostSide

theorem candidate_iff {s : State} (hs : s.lanes.Sound) (x : Txn) : s.hostSide.Candidate x ↔ memoryCandidate s = some x := by
  rw [memoryCandidate_eq_some_iff hs.tags_nodup]
  constructor
  · rintro ⟨hx, hnext, hrest⟩
    exact ⟨hx, (next_iff hs hx).2 hnext, hrest⟩
  · rintro ⟨hx, hnext, hrest⟩
    exact ⟨hx, (next_iff hs hx).1 hnext, hrest⟩

theorem no_candidate_iff {s : State} (hs : s.lanes.Sound) : (∀ x, ¬s.hostSide.Candidate x) ↔ memoryCandidate s = none := by
  simp only [candidate_iff hs, Option.eq_none_iff_forall_ne_some, ne_eq]

theorem owned_iff (s : State) (item : MemItem) :
    itemOwner s item ≠ none ↔ s.pins.prst = false ∧ ∃ x ∈ s.tracker.txns, x.owns item = true := by
  rw [ne_eq, itemOwner_eq_none_iff]
  simp

/-- Where traffic is sound, the legality of the channel is soundness of the host side. -/
theorem channelLegal_iff {s : State} (hs : s.lanes.Sound) : ChannelLegal s ↔ s.hostSide.Sound := by
  constructor
  · rintro ⟨once, groups, recorded, all, holder, begun, turn, given, owned, quiet⟩
    refine ⟨⟨once, groups, fun tag htag => ?_, fun tag htag => ?_, begun, turn, fun item hitem => (owned_iff s item).1 (owned item hitem),
      quiet⟩, fun x hx hlocal hnext => all x hx hlocal ((next_iff hs hx).2 hnext), fun hchan hturn => ?_⟩
    · obtain ⟨x, hx, ht, hlocal, hnext⟩ := recorded tag htag
      exact ⟨x, hx, ht, hlocal, (next_iff hs hx).1 hnext⟩
    · obtain ⟨x, hx, ht, hnext, hphase⟩ := holder tag htag
      exact ⟨x, hx, ht, (next_iff hs hx).1 hnext, hphase⟩
    · obtain ⟨hnone, hempty⟩ := given hchan hturn
      exact ⟨(no_candidate_iff hs).2 hnone, hempty⟩
  · rintro ⟨⟨once, groups, recorded, holder, begun, turn, owned, quiet⟩, all, given⟩
    refine ⟨once, groups, fun tag htag => ?_, fun x hx hlocal hnext => all x hx hlocal ((next_iff hs hx).1 hnext), fun tag htag => ?_,
      begun, turn, fun hchan hturn => ?_, fun item hitem => (owned_iff s item).2 (owned item hitem), quiet⟩
    · obtain ⟨x, hx, ht, hlocal, hnext⟩ := recorded tag htag
      exact ⟨x, hx, ht, hlocal, (next_iff hs hx).2 hnext⟩
    · obtain ⟨x, hx, ht, hnext, hphase⟩ := holder tag htag
      exact ⟨x, hx, ht, (next_iff hs hx).2 hnext, hphase⟩
    · obtain ⟨hnone, hempty⟩ := given hchan hturn
      exact ⟨(no_candidate_iff hs).1 hnone, hempty⟩

/-! ## Taking the turns -/

/-- While nobody has the channel no response has begun (R50). -/
theorem HostSide.Owed.none_begun {h : HostSide} (owed : h.Owed) (hchan : h.hostChan = none) : ∀ x ∈ h.txns, ¬x.Begun := by
  intro x hx hbegun
  have := (owed.begun x hx).2 hbegun
  rw [hchan] at this
  cases this

section Turns

variable {s : State} (hs : s.lanes.Sound) (h : s.hostSide.Owed)
include hs h

/-- Recording leaves every local answer that is next in its stream recorded (R51). -/
theorem noteEligible_owed : (noteEligible s).hostSide.Owed ∧ (noteEligible s).hostSide.AllRecorded := by
  have flat : (noteEligible s).hostSide.eligible.flatten = s.tracker.eligible.flatten ++ freshlyEligible s.tracker := by
    rw [noteEligible_eq]
    by_cases hfresh : freshlyEligible s.tracker = [] <;> simp [State.hostSide, hfresh]
  have side : (noteEligible s).hostSide = { s.hostSide with eligible := (noteEligible s).hostSide.eligible } := by
    rw [noteEligible_eq]; rfl
  refine ⟨?_, ?_⟩
  · rw [side]
    refine { h with once := ?_, groups := ?_, recorded := ?_, turn := fun hturn => ⟨(h.turn hturn).1, ?_⟩ }
    · rw [flat, List.nodup_append]
      refine ⟨h.once, freshlyEligible_nodup hs.tags_nodup, ?_⟩
      rintro a ha _ hb rfl
      obtain ⟨-, -, -, -, -, hnew⟩ := (mem_freshlyEligible_iff _ _).1 hb
      exact hnew ha
    · rw [noteEligible_eq]
      intro group hgroup
      rcases List.mem_append.1 hgroup with hgroup | hgroup
      · exact h.groups group hgroup
      · split at hgroup
        · cases hgroup
        · next hne => rw [List.mem_singleton.1 hgroup]; exact hne
    · rw [flat]
      intro tag htag
      rcases List.mem_append.1 htag with htag | htag
      · exact h.recorded tag htag
      · obtain ⟨x, hx, ht, hlocal, hnext, -⟩ := (mem_freshlyEligible_iff _ _).1 htag
        exact ⟨x, hx, ht, hlocal, (next_iff hs hx).1 hnext⟩
    · rw [noteEligible_eq]
      exact fun hempty => (h.turn hturn).2 (List.append_eq_nil_iff.1 hempty).1
  · unfold HostSide.AllRecorded
    rw [flat, side]
    intro x hx hlocal hnext
    by_cases hold : x.tag ∈ s.tracker.eligible.flatten
    · exact List.mem_append_left _ hold
    · exact List.mem_append_right _ ((mem_freshlyEligible_iff _ _).2 ⟨x, hx, rfl, hlocal, (next_iff hs hx).2 hnext, hold⟩)

/-- Giving the channel leaves no candidate for a free channel that is given to none (R53). -/
theorem giveChannel_sound (hall : s.hostSide.AllRecorded) : (giveChannel s).hostSide.Sound := by
  by_cases free : s.tracker.hostChan = none ∧ s.tracker.localTurn = false
  · obtain ⟨hchan, hturn⟩ := free
    have toMemory : ∀ x, memoryCandidate s = some x → (holdChannel s x.tag).hostSide.Sound := by
      intro x hx
      obtain ⟨hmem, hnext, -, item, -, howns⟩ := (candidate_iff hs x).2 hx
      have phase := ((Txn.owns_iff x item).1 howns).2.2
      refine { h with all := hall, holder := ?_, begun := ?_, turn := ?_, given := nofun }
      · rintro _ ⟨⟩
        exact ⟨x, hmem, rfl, hnext, .inl ⟨phase, rfl⟩⟩
      · exact fun y hy => ⟨(h.begun y hy).1, fun hb => absurd hb (h.none_begun hchan y hy)⟩
      · intro ht
        rw [show (holdChannel s x.tag).hostSide.localTurn = false from hturn] at ht
        cases ht
    have toLocal : s.tracker.eligible ≠ [] → (giveLocal s).hostSide.Sound := fun he =>
      { h with all := hall, turn := fun _ => ⟨hchan, he⟩, given := nofun }
    by_cases he : s.tracker.eligible = []
    · cases hx : memoryCandidate s with
      | none =>
        rw [giveChannel_nobody ⟨hchan, hturn⟩ hx he]
        exact { h with all := hall, given := fun _ _ => ⟨(no_candidate_iff hs).2 hx, he⟩ }
      | some x => rw [giveChannel_memory ⟨hchan, hturn⟩ hx (.inl he)]; exact toMemory x hx
    · cases hx : memoryCandidate s with
      | none => rw [giveChannel_local ⟨hchan, hturn⟩ he (.inl hx)]; exact toLocal he
      | some x =>
        cases hlast : s.tracker.lastSource with
        | memory => rw [giveChannel_local ⟨hchan, hturn⟩ he (.inr hlast)]; exact toLocal he
        | localAnswer => rw [giveChannel_memory ⟨hchan, hturn⟩ hx (.inr hlast)]; exact toMemory x hx
  · rw [giveChannel_taken free]
    exact { h with all := hall, given := fun hchan hturn => absurd ⟨hchan, hturn⟩ free }

theorem takeTurns_sound : (takeTurns s).hostSide.Sound := by
  obtain ⟨owed, all⟩ := noteEligible_owed hs h
  exact giveChannel_sound (by rw [noteEligible_lanes]; exact hs) owed all

end Turns

/-! ## Entries that change in their places -/

/-- What an entry may become without losing its place on the host side. -/
structure Txn.Follows (y x : Txn) : Prop where
  tag : y.tag = x.tag
  req : y.req = x.req
  ownAnswer : x.isLocal = true → y.isLocal = true
  forwarded : x.phase = .forwarded → y.phase = .forwarded
  returning : x.IsReturning → y.IsReturning

theorem Txn.follows_refl (x : Txn) : x.Follows x := ⟨rfl, rfl, id, id, id⟩

theorem Txn.Follows.owns {y x : Txn} (h : y.Follows x) {item : MemItem} (hx : x.owns item = true) : y.owns item = true := by
  obtain ⟨hdir, hid, hphase⟩ := (Txn.owns_iff x item).1 hx
  exact (Txn.owns_iff y item).2 ⟨h.req ▸ hdir, h.req ▸ hid, h.forwarded hphase⟩

/-- One entry of a list changed, the others as they were. -/
theorem forall₂_place {R : Txn → Txn → Prop} (hrefl : ∀ z, R z z) {txns before after : List Txn} {x y : Txn}
    (htxns : txns = before ++ x :: after) (hyx : R y x) : List.Forall₂ R (before ++ y :: after) txns := by
  rw [htxns]
  exact List.rel_append (List.forall₂_same.2 fun z _ => hrefl z) (.cons hyx (List.forall₂_same.2 fun z _ => hrefl z))

theorem forall₂_exists_right {R : Txn → Txn → Prop} {new old : List Txn} (h : List.Forall₂ R new old) :
    ∀ y ∈ new, ∃ x ∈ old, R y x := by
  induction h with
  | nil => nofun
  | cons hyx _ ih =>
    simp only [List.mem_cons, forall_eq_or_imp]
    exact ⟨⟨_, .inl rfl, hyx⟩, fun y hy => (ih y hy).imp fun _ hx => ⟨.inr hx.1, hx.2⟩⟩

theorem forall₂_exists_left {R : Txn → Txn → Prop} {new old : List Txn} (h : List.Forall₂ R new old) :
    ∀ x ∈ old, ∃ y ∈ new, R y x :=
  forall₂_exists_right (R := fun x y => R y x) h.flip

namespace HostSide

variable {h : HostSide} {txns : List Txn}

/-- Entries that are followed leave what is owed owed. -/
theorem Owed.follow (owed : h.Owed) (hf : List.Forall₂ Txn.Follows txns h.txns)
    (hb : ∀ y ∈ txns, y.delivered < responseItems y.req ∧ (y.Begun → h.hostChan = some y.tag)) : Owed { h with txns := txns } := by
  have within : ∀ y ∈ txns, ∃ x ∈ h.txns, y.tag = x.tag ∧ y.req = x.req := fun y hy =>
    (forall₂_exists_right hf y hy).imp fun x hx => ⟨hx.1, hx.2.tag, hx.2.req⟩
  have follower := forall₂_exists_left hf
  refine { owed with recorded := ?_, holder := ?_, begun := hb, owned := ?_, quiet := ?_ }
  · intro tag htag
    obtain ⟨x, hx, rfl, hlocal, hnext⟩ := owed.recorded tag htag
    obtain ⟨y, hy, hyx⟩ := follower x hx
    exact ⟨y, hy, hyx.tag, hyx.ownAnswer hlocal, hnext.transfer within hyx.tag hyx.req⟩
  · intro tag htag
    obtain ⟨x, hx, rfl, hnext, hphase⟩ := owed.holder tag htag
    obtain ⟨y, hy, hyx⟩ := follower x hx
    exact ⟨y, hy, hyx.tag, hnext.transfer within hyx.tag hyx.req,
      hphase.imp (fun hp => ⟨hyx.forwarded hp.1, hp.2⟩) fun hp => ⟨hyx.returning hp.1, hp.2⟩⟩
  · intro item hitem
    obtain ⟨hp, x, hx, howns⟩ := owed.owned item hitem
    obtain ⟨y, hy, hyx⟩ := follower x hx
    exact ⟨hp, y, hy, hyx.owns howns⟩
  · intro hreset
    obtain ⟨hempty, hhead⟩ := owed.quiet hreset
    rw [hempty] at hf
    exact ⟨List.forall₂_nil_right_iff.1 hf, hhead⟩

/-- Entries that are followed leave the host side sound where none comes to be a local answer, and no candidate comes up. -/
theorem Sound.follow (sound : h.Sound) (hf : List.Forall₂ Txn.Follows txns h.txns)
    (hb : ∀ y ∈ txns, y.delivered < responseItems y.req ∧ (y.Begun → h.hostChan = some y.tag))
    (hl : List.Forall₂ (fun y x => y.Follows x ∧ (y.isLocal = true → x.isLocal = true)) txns h.txns)
    (hc : h.hostChan = none → ∀ y, Candidate { h with txns := txns } y → ∃ x, h.Candidate x) : Sound { h with txns := txns } := by
  have follower := forall₂_exists_left hf
  refine { sound.toOwed.follow hf hb with all := ?_, given := ?_ }
  · intro y hy hlocal hnext
    obtain ⟨x, hx, hyx, hback⟩ := forall₂_exists_right hl y hy
    rw [hyx.tag]
    refine sound.all x hx (hback hlocal) (hnext.transfer (fun z hz => ?_) hyx.tag.symm hyx.req.symm)
    obtain ⟨z', hz', hfol⟩ := follower z hz
    exact ⟨z', hz', hfol.tag.symm, hfol.req.symm⟩
  · intro hchan hturn
    obtain ⟨hnone, hempty⟩ := sound.given hchan hturn
    refine ⟨fun y hy => ?_, hempty⟩
    obtain ⟨x, hx⟩ := hc hchan y hy
    exact hnone x hx

end HostSide

/-- An entry that differs in nothing the host side looks at. -/
structure Txn.Alike (y x : Txn) : Prop where
  tag : y.tag = x.tag
  req : y.req = x.req
  delivered : y.delivered = x.delivered
  ownAnswer : y.isLocal = x.isLocal
  forwarded : y.phase = .forwarded ↔ x.phase = .forwarded
  returning : y.IsReturning ↔ x.IsReturning

theorem Txn.alike_refl (x : Txn) : x.Alike x := ⟨rfl, rfl, rfl, rfl, Iff.rfl, Iff.rfl⟩

theorem Txn.alike_of_same_phase {y x : Txn} (htag : y.tag = x.tag) (hreq : y.req = x.req) (hdel : y.delivered = x.delivered)
    (hphase : y.phase = x.phase) : y.Alike x :=
  ⟨htag, hreq, hdel, by unfold Txn.isLocal; rw [hphase], by rw [hphase], by unfold Txn.IsReturning; rw [hphase]⟩

theorem Txn.Alike.follows {y x : Txn} (h : y.Alike x) : y.Follows x :=
  ⟨h.tag, h.req, fun hl => h.ownAnswer ▸ hl, h.forwarded.2, h.returning.2⟩

theorem Txn.Alike.owns {y x : Txn} (h : y.Alike x) {item : MemItem} (hy : y.owns item = true) : x.owns item = true := by
  obtain ⟨hdir, hid, hphase⟩ := (Txn.owns_iff y item).1 hy
  exact (Txn.owns_iff x item).2 ⟨h.req ▸ hdir, h.req ▸ hid, h.forwarded.1 hphase⟩

theorem Txn.Begun.of_same {y x : Txn} (hdel : y.delivered = x.delivered) (hret : y.IsReturning → x.IsReturning) (h : y.Begun) : x.Begun :=
  h.imp (fun hd => hdel ▸ hd) hret

namespace HostSide

variable {h : HostSide}

/-- A successor in which no new response begins, and no item is delivered, is owed what the entry was. -/
theorem Owed.begun_of_same (owed : h.Owed) {txns : List Txn}
    (hf : List.Forall₂ (fun y x : Txn => y.tag = x.tag ∧ y.req = x.req ∧ y.delivered = x.delivered ∧
      (y.IsReturning → x.IsReturning)) txns h.txns) :
    ∀ y ∈ txns, y.delivered < responseItems y.req ∧ (y.Begun → h.hostChan = some y.tag) := by
  intro y hy
  obtain ⟨x, hx, htag, hreq, hdel, hret⟩ := forall₂_exists_right hf y hy
  obtain ⟨hlt, hchan⟩ := owed.begun x hx
  rw [hreq, hdel, htag]
  exact ⟨hlt, fun hb => hchan (hb.of_same hdel hret)⟩

theorem Sound.alike (sound : h.Sound) {txns : List Txn} (ha : List.Forall₂ Txn.Alike txns h.txns) : Sound { h with txns := txns } := by
  refine sound.follow (ha.imp fun _ _ hyx => hyx.follows)
    (sound.begun_of_same (ha.imp fun _ _ hyx => ⟨hyx.tag, hyx.req, hyx.delivered, hyx.returning.1⟩))
    (ha.imp fun _ _ hyx => ⟨hyx.follows, fun hl => hyx.ownAnswer ▸ hl⟩) fun _ y hy => ?_
  obtain ⟨hmem, hnext, hp, item, hhead, howns⟩ := hy
  obtain ⟨x, hx, hyx⟩ := forall₂_exists_right ha y hmem
  refine ⟨x, hx, hnext.transfer (fun z hz => ?_) hyx.tag.symm hyx.req.symm, hp, item, hhead, hyx.owns howns⟩
  obtain ⟨z', hz', hfol⟩ := forall₂_exists_left ha z hz
  exact ⟨z', hz', hfol.tag.symm, hfol.req.symm⟩

/-! ## Entries that come and go -/

/-- A youngest entry is next before no other. -/
theorem next_append {x y : Txn} (htag : ∀ y ∈ h.txns, y.tag < x.tag) (hy : y ∈ h.txns) (hn : Next h.txns y) :
    Next (h.txns ++ [x]) y := by
  intro z hz hsame
  rcases List.mem_append.1 hz with hz | hz
  · exact hn z hz hsame
  · rw [List.mem_singleton.1 hz]
    exact Nat.le_of_lt (htag y hy)

section Append

variable {x : Txn} (htag : ∀ y ∈ h.txns, y.tag < x.tag) (hd : x.delivered = 0) (hi : 0 < responseItems x.req)
  (hr : ¬x.IsReturning) (hq : h.por = false ∧ h.prst = false)
include htag hd hi hr hq

theorem Owed.append (owed : h.Owed) : Owed { h with txns := h.txns ++ [x] } := by
  have stays : ∀ {y}, y ∈ h.txns → y ∈ h.txns ++ [x] := fun hy => List.mem_append_left _ hy
  refine { owed with recorded := ?_, holder := ?_, begun := ?_, owned := ?_, quiet := ?_ }
  · intro tag ht
    obtain ⟨y, hy, he, hlocal, hnext⟩ := owed.recorded tag ht
    exact ⟨y, stays hy, he, hlocal, next_append htag hy hnext⟩
  · intro tag ht
    obtain ⟨y, hy, he, hnext, hphase⟩ := owed.holder tag ht
    exact ⟨y, stays hy, he, next_append htag hy hnext, hphase⟩
  · intro y hy
    rcases List.mem_append.1 hy with hy | hy
    · exact owed.begun y hy
    · rw [List.mem_singleton.1 hy, hd]
      exact ⟨hi, fun hb => (hb.elim (by omega) hr).elim⟩
  · intro item hitem
    obtain ⟨hp, y, hy, howns⟩ := owed.owned item hitem
    exact ⟨hp, y, stays hy, howns⟩
  · rw [hq.1, hq.2]
    rintro (hf | hf) <;> cases hf

theorem Sound.append (sound : h.Sound) (hl : x.isLocal = false) (hf : x.phase ≠ .forwarded) :
    Sound { h with txns := h.txns ++ [x] } := by
  refine { sound.toOwed.append htag hd hi hr hq with all := ?_, given := ?_ }
  · intro y hy hlocal hnext
    rcases List.mem_append.1 hy with hy | hy
    · exact sound.all y hy hlocal (hnext.of_subset fun z hz => List.mem_append_left _ hz)
    · rw [List.mem_singleton.1 hy, hl] at hlocal; cases hlocal
  · intro hchan hturn
    obtain ⟨hnone, hempty⟩ := sound.given hchan hturn
    refine ⟨?_, hempty⟩
    rintro y ⟨hy, hnext, hp, item, hhead, howns⟩
    rcases List.mem_append.1 hy with hy | hy
    · exact hnone y ⟨hy, hnext.of_subset fun z hz => List.mem_append_left _ hz, hp, item, hhead, howns⟩
    · rw [List.mem_singleton.1 hy] at howns
      exact hf ((Txn.owns_iff x item).1 howns).2.2

end Append

theorem Owed.dropHead (owed : h.Owed) : Owed { h with head := none } :=
  { owed with owned := nofun, quiet := fun hreset => ⟨(owed.quiet hreset).1, rfl⟩ }

theorem Sound.dropHead (sound : h.Sound) : Sound { h with head := none } :=
  { sound.toOwed.dropHead with
    all := sound.all
    given := fun hchan hturn => ⟨fun _ hx => (by obtain ⟨-, -, -, _, hhead, -⟩ := hx; cases hhead), (sound.given hchan hturn).2⟩ }

/-- An item with an owner comes to stand at the head of the memory response channel (R52). -/
theorem Owed.putHead (owed : h.Owed) {item : MemItem} {x : Txn} (hp : h.por = false ∧ h.prst = false) (hx : x ∈ h.txns)
    (howns : x.owns item = true) : Owed { h with head := some item } :=
  { owed with
    owned := by rintro _ ⟨⟩; exact ⟨hp.2, x, hx, howns⟩
    quiet := by
      intro hreset
      rw [show h.txns = [] from (owed.quiet hreset).1] at hx
      cases hx }

end HostSide

theorem isLocal_eq_false {x : Txn} (h : x.phase = .forwarded ∨ x.IsReturning) : x.isLocal = false := by
  rcases h with hp | ⟨_, _, hp⟩ <;> simp [Txn.isLocal, hp]

/-- The entries left when one is freed are the others. -/
theorem mem_freed {txns before after : List Txn} {x : Txn} (htxns : txns = before ++ x :: after) (hn : (txns.map Txn.tag).Nodup)
    (z : Txn) : z ∈ before ++ after ↔ z ∈ txns ∧ z ≠ x := by
  have distinct : txns.Nodup := hn.of_map
  rw [htxns] at distinct ⊢
  simp only [List.nodup_append, List.nodup_cons, List.mem_cons, forall_eq_or_imp] at distinct
  obtain ⟨-, ⟨hafter, -⟩, hbefore⟩ := distinct
  simp only [List.mem_append, List.mem_cons]
  constructor
  · rintro (hz | hz)
    · exact ⟨.inl hz, (hbefore z hz).1⟩
    · exact ⟨.inr (.inr hz), fun he => hafter (he ▸ hz)⟩
  · rintro ⟨hz | rfl | hz, hne⟩
    · exact .inl hz
    · exact absurd rfl hne
    · exact .inr hz

/-- The entries where one has changed are the changed one and the others. -/
theorem mem_changed {txns before after : List Txn} {x : Txn} (htxns : txns = before ++ x :: after) (hn : (txns.map Txn.tag).Nodup)
    (y z : Txn) : z ∈ before ++ y :: after ↔ z = y ∨ z ∈ txns ∧ z ≠ x := by
  rw [← mem_freed htxns hn, List.mem_append, List.mem_cons, List.mem_append, or_left_comm]

namespace HostSide

variable {h : HostSide} {before after : List Txn} {x y : Txn}

section Holder

variable (htxns : h.txns = before ++ x :: after) (hn : (h.txns.map Txn.tag).Nodup)
include htxns hn

/-- The entry that has the channel is freed and gives the channel up: the turns are to be taken (R50). -/
theorem Owed.free (owed : h.Owed) (hchan : h.hostChan = some x.tag) (hh : x.phase ≠ .forwarded ∨ h.head = none) :
    Owed { h with txns := before ++ after, hostChan := none } := by
  have hx : x ∈ h.txns := by simp [htxns]
  have old : ∀ {y}, y ∈ before ++ after → y ∈ h.txns := fun hy => ((mem_freed htxns hn _).1 hy).1
  have notLocal : x.isLocal = false := by
    obtain ⟨y, hy, htag, -, hphase⟩ := owed.holder _ hchan
    rw [eq_of_tag hn hy hx htag] at hphase
    exact isLocal_eq_false (hphase.imp And.left And.left)
  refine { owed with recorded := ?_, holder := nofun, begun := ?_, turn := ?_, owned := ?_, quiet := ?_ }
  · intro tag ht
    obtain ⟨y, hy, he, hlocal, hnext⟩ := owed.recorded tag ht
    refine ⟨y, (mem_freed htxns hn y).2 ⟨hy, ?_⟩, he, hlocal, hnext.of_subset fun z hz => old hz⟩
    rintro rfl
    rw [notLocal] at hlocal; cases hlocal
  · intro y hy
    obtain ⟨hlt, hb⟩ := owed.begun y (old hy)
    refine ⟨hlt, fun hbegun => absurd ?_ ((mem_freed htxns hn y).1 hy).2⟩
    have same := hb hbegun
    rw [hchan] at same
    exact eq_of_tag hn (old hy) hx (Option.some_inj.1 same).symm
  · intro hturn
    have := (owed.turn hturn).1
    rw [hchan] at this; cases this
  · intro item hitem
    obtain ⟨hp, y, hy, howns⟩ := owed.owned item hitem
    refine ⟨hp, y, (mem_freed htxns hn y).2 ⟨hy, ?_⟩, howns⟩
    rintro rfl
    rcases hh with hh | hh
    · exact hh ((Txn.owns_iff y item).1 howns).2.2
    · rw [show h.head = some item from hitem] at hh; cases hh
  · intro hreset
    rw [(owed.quiet hreset).1] at hx; cases hx

/-- The host takes an item, not the last, of the response that has the channel (R50, R52). -/
theorem Sound.deliver (sound : h.Sound) (hchan : h.hostChan = some x.tag) (htag : y.tag = x.tag) (hreq : y.req = x.req)
    (hphase : y.phase = x.phase) (hd : y.delivered < responseItems x.req) : Sound { h with txns := before ++ y :: after } := by
  have same : (y.isLocal = true → x.isLocal = true) ∧ y.Follows x := by
    unfold Txn.isLocal
    rw [hphase]
    exact ⟨id, htag, hreq, by unfold Txn.isLocal; rw [hphase]; exact id, by rw [hphase]; exact id,
      by unfold Txn.IsReturning; rw [hphase]; exact id⟩
  have place : List.Forall₂ Txn.Follows (before ++ y :: after) h.txns := forall₂_place Txn.follows_refl htxns same.2
  have localPlace : List.Forall₂ (fun y x : Txn => y.Follows x ∧ (y.isLocal = true → x.isLocal = true)) (before ++ y :: after) h.txns :=
    forall₂_place (fun z => ⟨z.follows_refl, id⟩) htxns same.symm
  refine sound.follow place (fun z hz => ?_) localPlace fun hnone => ?_
  · rcases (mem_changed htxns hn y z).1 hz with rfl | ⟨hz, -⟩
    · rw [htag, hreq]; exact ⟨hd, fun _ => hchan⟩
    · exact sound.begun z hz
  · rw [hchan] at hnone; cases hnone

end Holder

end HostSide

/-! ## A local answer begins -/

theorem flatten_dropEligible (groups : List (List Nat)) (tag : Nat) :
    (dropEligible groups tag).flatten = groups.flatten.filter (· != tag) := by
  unfold dropEligible
  rw [List.filter_flatten]
  induction groups with
  | nil => rfl
  | cons group groups ih =>
    rw [List.map_cons, List.filter_cons]
    split
    · rw [List.flatten_cons, ih, List.flatten_cons]
    · next hempty =>
      rw [ih, List.flatten_cons, show group.filter (· != tag) = [] by simpa using hempty, List.nil_append]

theorem ne_nil_of_mem_dropEligible {groups : List (List Nat)} {tag : Nat} {group : List Nat} (h : group ∈ dropEligible groups tag) :
    group ≠ [] := by
  have := (List.mem_filter.1 h).2
  simpa using this

/-- A local answer that is next in its stream begins, and has the channel (R50, R51, R53). -/
theorem HostSide.Sound.begin {h : HostSide} (sound : h.Sound) {before after : List Txn} {x y : Txn}
    (htxns : h.txns = before ++ x :: after) (hn : (h.txns.map Txn.tag).Nodup) (hnone : h.hostChan = none) (hlocal : x.isLocal = true)
    (hnext : Next h.txns x) (htag : y.tag = x.tag) (hreq : y.req = x.req) (hdel : y.delivered = x.delivered) (hret : y.IsReturning) :
    Sound { h with
      txns := before ++ y :: after, hostChan := some x.tag, localTurn := false, lastSource := .localAnswer
      eligible := dropEligible h.eligible x.tag } := by
  have hx : x ∈ h.txns := by simp [htxns]
  have mem := mem_changed htxns hn y
  have place : List.Forall₂ (fun z w : Txn => z.tag = w.tag ∧ z.req = w.req) (before ++ y :: after) h.txns :=
    forall₂_place (fun _ => ⟨rfl, rfl⟩) htxns ⟨htag, hreq⟩
  have within := forall₂_exists_right place
  have without : ∀ w ∈ h.txns, ∃ z ∈ before ++ y :: after, w.tag = z.tag ∧ w.req = z.req := fun w hw =>
    (forall₂_exists_left place w hw).imp fun _ hz => ⟨hz.1, hz.2.1.symm, hz.2.2.symm⟩
  refine ⟨⟨?_, fun _ => ne_nil_of_mem_dropEligible, ?_, ?_, ?_, nofun, ?_, ?_⟩, ?_, nofun⟩
  · rw [flatten_dropEligible]
    exact sound.once.filter _
  · intro tag ht
    rw [flatten_dropEligible, Lanes.mem_filter_ne] at ht
    obtain ⟨z, hz, rfl, hl, hzn⟩ := sound.recorded tag ht.1
    exact ⟨z, (mem z).2 (.inr ⟨hz, fun he => ht.2 (by rw [he])⟩), rfl, hl, hzn.transfer within rfl rfl⟩
  · rintro _ ⟨⟩
    exact ⟨y, (mem y).2 (.inl rfl), htag, hnext.transfer within htag hreq, .inr ⟨hret, rfl⟩⟩
  · intro z hz
    rcases (mem z).1 hz with rfl | ⟨hz, -⟩
    · rw [hreq, hdel, htag]
      exact ⟨(sound.begun x hx).1, fun _ => rfl⟩
    · exact ⟨(sound.begun z hz).1, fun hb => absurd hb (sound.none_begun hnone z hz)⟩
  · intro item hitem
    obtain ⟨hp, z, hz, howns⟩ := sound.owned item hitem
    refine ⟨hp, z, (mem z).2 (.inr ⟨hz, ?_⟩), howns⟩
    rintro rfl
    rw [isLocal_eq_false (.inl ((Txn.owns_iff z item).1 howns).2.2)] at hlocal
    cases hlocal
  · intro hreset
    rw [(sound.quiet hreset).1] at hx; cases hx
  · intro z hz hl hzn
    rcases (mem z).1 hz with rfl | ⟨hz, hne⟩
    · rw [isLocal_eq_false (.inr hret)] at hl; cases hl
    · rw [flatten_dropEligible, Lanes.mem_filter_ne]
      exact ⟨sound.all z hz hl (hzn.transfer without rfl rfl), fun he => hne (eq_of_tag hn hz hx he)⟩

end Sys2Proof.Machine

/-! Every command keeps the host side sound. A verdict, the release of held entries and the end of a response leave turns to be taken,
and take them; a request taken by the memory makes no candidate, since the item kept presented belongs to an older transaction of its
stream (R52); the other commands change nothing that the host side looks at. -/

namespace Sys2Proof.Machine

/-! ## Verdicts -/

@[simp] theorem addTracked_hostSide (s : State) (host : HostId) (b : Ix × Entry × Granule × Nat) :
    (addTracked s host b).hostSide = s.hostSide := hostSide_of_same (by simp) (by simp) (by simp)

@[simp] theorem handOff_hostSide (s : State) (r : Request) (bs : List WriteBeat) (between : List DirtyCommand) :
    (handOff s r bs between).hostSide = s.hostSide := by
  have reported : (reportWindows s r (findings s r bs)).hostSide = s.hostSide := hostSide_of_same (by simp) (by simp) (by simp)
  unfold handOff addTrackedBlocks
  split
  · exact reported
  · simpa using reported
  · refine (foldl_keeps State.hostSide _ (fun t b => addTracked_hostSide t r.id b) _ _).trans ?_
    refine (foldl_keeps State.hostSide _ takeBetween_hostSide _ _).trans ?_
    simpa using reported

/-- What a verdict leaves of the host side: all of it, and an entry that no item has been delivered of and that is not being answered. -/
structure Unanswered (s : State) (x : Txn) (r : State × Txn) : Prop where
  side : r.1.hostSide = s.hostSide
  delivered : r.2.delivered = x.delivered
  returning : ¬r.2.IsReturning

theorem judge_unanswered (s : State) (x : Txn) (between : List DirtyCommand) : Unanswered s x (judge s x between) := by
  unfold judge
  split
  · exact ⟨rfl, rfl, nofun⟩
  · split
    · unfold judgeRead
      split
      · exact ⟨rfl, rfl, nofun⟩
      · exact ⟨rfl, rfl, nofun⟩
    · unfold judgeWrite
      dsimp only
      split
      · refine ⟨?_, rfl, nofun⟩
        refine (show _ = (handOff _ _ _ _).hostSide from rfl).trans ?_
        rw [handOff_hostSide]
        exact hostSide_of_same (by simp) (by simp) (by simp)
      · exact ⟨hostSide_of_same (by simp) (by simp) (by simp), rfl, nofun⟩

theorem verdictTime_unanswered (s : State) (earlier : List Txn) (x : Txn) (between : List DirtyCommand) :
    Unanswered s x (verdictTime s earlier x between) := by
  unfold verdictTime
  split
  · exact judge_unanswered s x between
  · split
    · exact ⟨rfl, rfl, nofun⟩
    · split
      · exact ⟨rfl, rfl, nofun⟩
      · exact judge_unanswered s x between

/-- After a verdict the turns are taken where it is answered locally; elsewhere nothing is owed. -/
theorem afterVerdict_hostSound {s : State} {x : Txn} (hs : (afterVerdict s x).lanes.Sound) (owed : s.hostSide.Owed)
    (sound : x.isLocal = false → s.hostSide.Sound) : (afterVerdict s x).hostSide.Sound := by
  rw [afterVerdict_lanes] at hs
  cases hl : x.isLocal with
  | true => rw [afterVerdict_local hl]; exact takeTurns_sound hs owed
  | false => rw [afterVerdict_not_local hl]; exact sound hl

theorem responseItems_pos {r : Request} (h : r.beatsLegal = true) : 0 < responseItems r := by
  unfold responseItems
  split
  · simp only [Request.beatsLegal, Bool.and_eq_true, decide_eq_true_eq] at h
    omega
  · exact Nat.one_pos

theorem acceptRequest_hostSound {s : State} (hs : s.lanes.Sound) (h : s.hostSide.Sound) {r : Request} (hr : r.beatsLegal = true)
    (hp : s.pins.por = false ∧ s.pins.prst = false) : (acceptRequest s r).hostSide.Sound := by
  have lanes := acceptRequest_sound hs hr
  have younger : ∀ y ∈ s.tracker.txns, y.tag < s.tracker.nextTag := fun y hy => (hs.entries y hy).1
  have items := responseItems_pos hr
  unfold acceptRequest at lanes ⊢
  dsimp only at lanes ⊢
  split
  · next hd =>
    exact h.append (x := newTxn s.tracker.nextTag r) younger rfl items (by simp [newTxn, Txn.IsReturning, hd]) hp
      (by simp [newTxn, Txn.isLocal, hd]) (by simp [newTxn, hd])
  · next hd =>
    simp only [hd] at lanes
    rw [newTxn_read _ hd] at lanes ⊢
    obtain ⟨judged, -⟩ := verdictTime_judged (bumpTag s) s.tracker.txns (x := entryOfRequest s.tracker.nextTag r .judging)
      (.inl ⟨hd, rfl⟩) []
    obtain ⟨side, hdel, hret⟩ := verdictTime_unanswered (bumpTag s) s.tracker.txns (entryOfRequest s.tracker.nextTag r .judging) []
    set v := verdictTime (bumpTag s) s.tracker.txns (entryOfRequest s.tracker.nextTag r .judging) [] with hv
    have appended : (appendTxn v.1 v.2).hostSide = { s.hostSide with txns := s.hostSide.txns ++ [v.2] } := by
      change { v.1.hostSide with txns := v.1.hostSide.txns ++ [v.2] } = _
      rw [side]; rfl
    have oldest : ∀ y ∈ s.hostSide.txns, y.tag < v.2.tag := by rw [judged.tag]; exact younger
    have none : v.2.delivered = 0 := hdel
    have pos : 0 < responseItems v.2.req := by rw [judged.req]; exact items
    refine afterVerdict_hostSound lanes ?_ fun hl => ?_
    · rw [appended]; exact h.toOwed.append oldest none pos hret hp
    · rw [appended]; exact h.append oldest none pos hret hp hl judged.notForwarded

theorem setTxn_hostSide {s t : State} {before after : List Txn} {x y : Txn} (stands : Stands s before x after)
    (ht : t.tracker.txns = s.tracker.txns) (htag : y.tag = x.tag) :
    (setTxn t y).hostSide = { t.hostSide with txns := before ++ y :: after } := by
  rw [setTxn_stands stands ht htag]; rfl

/-- An entry that is not answered and not forwarded may become anything that is not being answered. -/
theorem Txn.follows_of_idle {y x : Txn} (htag : y.tag = x.tag) (hreq : y.req = x.req) (hl : x.isLocal = false)
    (hf : x.phase ≠ .forwarded) (hr : ¬x.IsReturning) : y.Follows x :=
  ⟨htag, hreq, fun h => (by rw [hl] at h; cases h), fun h => absurd h hf, fun h => absurd h hr⟩

theorem storeBeat_hostSound {s : State} (hs : s.lanes.Sound) (h : s.hostSide.Sound) {x : Txn}
    (hx : collectingTxn s.tracker.txns = some x) (offer : OfferedBeat) : (storeBeat s x offer).hostSide.Sound := by
  obtain ⟨before, after, stands, hphase, -⟩ := collectingTxn_stands hs hx
  have hdir := dir_of_collecting (hs.entries x (by simp [State.lanes, stands.1])).2.2 hphase
  have lanes := storeBeat_sound hs hx offer
  by_cases hlast : x.req.beats ≤ x.beatsHeld.length + 1
  · rw [storeBeat_last s hlast] at lanes ⊢
    obtain ⟨judged, -⟩ := verdictTime_judged s (acceptedBefore s.tracker.txns x) (x := x.filled offer.beat offer.between)
      (.inr ⟨hdir, _, rfl⟩) offer.between
    obtain ⟨side, hdel, hret⟩ :=
      verdictTime_unanswered s (acceptedBefore s.tracker.txns x) (x.filled offer.beat offer.between) offer.between
    set v := verdictTime s (acceptedBefore s.tracker.txns x) (x.filled offer.beat offer.between) offer.between with hv
    have notLocal : x.isLocal = false := by simp [Txn.isLocal, hphase]
    have notReturning : ¬x.IsReturning := by simp [Txn.IsReturning, hphase]
    have follows : v.2.Follows x := Txn.follows_of_idle judged.tag judged.req notLocal (by simp [hphase]) notReturning
    have replaced : (setTxn v.1 v.2).hostSide = { s.hostSide with txns := before ++ v.2 :: after } := by
      rw [setTxn_hostSide stands judged.txns judged.tag, side]
    refine afterVerdict_hostSound lanes ?_ fun hl => ?_
    · rw [replaced]
      refine h.toOwed.follow (forall₂_place Txn.follows_refl stands.1 follows) (h.begun_of_same ?_)
      exact forall₂_place (fun _ => ⟨rfl, rfl, rfl, id⟩) stands.1 ⟨judged.tag, judged.req, hdel, fun hr => absurd hr hret⟩
    · rw [replaced]
      refine h.alike (forall₂_place Txn.alike_refl stands.1 ⟨judged.tag, judged.req, hdel, by rw [hl, notLocal], ?_, ?_⟩)
      · simp [hphase, judged.notForwarded]
      · simp [hret, notReturning]
  · have hlt : (x.beatsHeld ++ [offer.beat]).length < x.req.beats := by simp; omega
    simp only [storeBeat, if_pos hlt]
    rw [setTxn_hostSide stands rfl]
    · exact h.alike (forall₂_place Txn.alike_refl stands.1 (Txn.alike_of_same_phase rfl rfl rfl rfl))
    · rfl

/-! ## The end of a drain -/

/-- Held entries have their verdicts and are not yet answered (R32). -/
theorem releaseEach_unanswered (portFree : Bool) {todo : List Txn} (hl : ∀ x ∈ todo, x.slotLegal = true) (s : State) :
    (releaseEach s portFree todo).1.hostSide = s.hostSide ∧
    List.Forall₂ Txn.Follows (releaseEach s portFree todo).2 todo ∧
    List.Forall₂ (fun y x : Txn => y.tag = x.tag ∧ y.req = x.req ∧ y.delivered = x.delivered ∧ (y.IsReturning → x.IsReturning))
      (releaseEach s portFree todo).2 todo := by
  induction todo generalizing s with
  | nil => exact ⟨rfl, .nil, .nil⟩
  | cons x rest ih =>
    rw [List.forall_mem_cons] at hl
    unfold releaseEach
    split
    · next hx =>
      obtain ⟨why, hphase⟩ : ∃ why, x.phase = .held why := by
        unfold Txn.isHeld at hx
        split at hx <;> simp_all
      have full : x.SlotReady := slotReady_of_held hx hl.1
      have ready : Txn.SlotReady { x with phase := .judging } := full
      obtain ⟨judged, -⟩ := judge_judged s ready (if portFree then x.between else [])
      obtain ⟨side, hdel, hret⟩ := judge_unanswered s { x with phase := .judging } (if portFree then x.between else [])
      obtain ⟨hside, hfollow, hsame⟩ := ih hl.2 (judge s { x with phase := .judging } (if portFree then x.between else [])).1
      refine ⟨hside.trans side, .cons (Txn.follows_of_idle judged.tag judged.req ?_ ?_ ?_) hfollow,
        .cons ⟨judged.tag, judged.req, hdel, fun hr => absurd hr hret⟩ hsame⟩
      · simp [Txn.isLocal, hphase]
      · simp [hphase]
      · simp [Txn.IsReturning, hphase]
    · obtain ⟨hside, hfollow, hsame⟩ := ih hl.2 s
      exact ⟨hside, .cons x.follows_refl hfollow, .cons ⟨rfl, rfl, rfl, id⟩ hsame⟩

theorem releaseHeld_hostSound {s : State} (hs : Lanes.Sound { s.lanes with drains := true }) (h : s.hostSide.Owed) (portFree : Bool) :
    (releaseHeld s portFree).hostSide.Sound := by
  have lanes := releaseHeld_sound hs portFree
  have legal : ∀ x ∈ s.tracker.txns, x.slotLegal = true := fun x hx => (hs.entries x hx).2.2
  obtain ⟨hside, hfollow, hsame⟩ := releaseEach_unanswered portFree legal s
  unfold releaseHeld at lanes ⊢
  dsimp only at lanes ⊢
  rw [takeTurns_lanes] at lanes
  refine takeTurns_sound lanes ?_
  change HostSide.Owed { (releaseEach s portFree s.tracker.txns).1.hostSide with txns := (releaseEach s portFree s.tracker.txns).2 }
  rw [hside]
  exact h.follow hfollow (h.begun_of_same hsame)

@[simp] theorem closeDrain_hostSide (s : State) : (closeDrain s).hostSide = s.hostSide := hostSide_of_same (by simp) (by simp) (by simp)

@[simp] theorem endCommit_hostSide (s : State) (o : LastOutcome) (a b : IxSet) : (endCommit s o a b).hostSide = s.hostSide := rfl

@[simp] theorem switchSet_hostSide (s : State) (which : IxSet) : (switchSet s which).hostSide = s.hostSide :=
  hostSide_of_same (by simp) (by simp) (by simp)

@[simp] theorem cutDrain_hostSide (s : State) (d : Drain) (o : LastOutcome) : (cutDrain s d o).hostSide = s.hostSide :=
  closeDrain_hostSide s

@[simp] theorem enterDraining_hostSide (s : State) (d : Drain) : (enterDraining s d).hostSide = s.hostSide :=
  hostSide_of_same (by simp [enterDraining]) (by simp [enterDraining]) (by simp [enterDraining])

section Drains

variable {s : State} (hs : s.lanes.Sound) (h : s.hostSide.Sound)
include hs h

theorem cutDrain_released_hostSound (d : Drain) (o : LastOutcome) (portFree : Bool) :
    (releaseHeld (cutDrain s d o) portFree).hostSide.Sound :=
  releaseHeld_hostSound (by rw [cutDrain_lanes]; exact hs.draining) (by rw [cutDrain_hostSide]; exact h.toOwed) portFree

theorem completeDrain_hostSound (d : Drain) (portFree : Bool) : (completeDrain s d portFree).hostSide.Sound :=
  releaseHeld_hostSound (by rw [endCommit_lanes, switchSet_lanes, closeDrain_lanes]; exact hs.draining)
    (by rw [endCommit_hostSide, switchSet_hostSide, closeDrain_hostSide]; exact h.toOwed) portFree

theorem doCommit_hostSound : (doCommit s).1.hostSide.Sound := by
  unfold doCommit
  split
  · exact h
  · split
    · exact h
    · split
      · exact h
      · exact h
      · unfold acceptCommit
        dsimp only
        split
        · rwa [endCommit_hostSide, switchSet_hostSide]
        · have begun : (enterDraining (switchSet s (immediatePart s.table)) (newDrain s)).hostSide.Sound := by
            rwa [enterDraining_hostSide, switchSet_hostSide]
          split
          · refine completeDrain_hostSound ?_ begun _ _
            rw [enterDraining_lanes, switchSet_lanes]
            exact hs.draining
          · exact begun

theorem doAbortCommit_hostSound : (doAbortCommit s).1.hostSide.Sound := by
  unfold doAbortCommit
  split
  · exact h
  · exact cutDrain_released_hostSound hs h _ _ _

end Drains

/-! ## Requests and beats the memory takes -/

theorem not_begun_of_waiting {x : Txn} (h : x.phase = .waitingForward) : x.isLocal = false ∧ ¬x.IsReturning := by
  simp [Txn.isLocal, Txn.IsReturning, h]

/-- A transaction that comes to be forwarded is no candidate: the item kept presented belongs to one of its stream that was forwarded
before it, and is older (R54). -/
theorem takeHostRequest_hostSound {s : State} (hs : s.lanes.Sound) (h : s.hostSide.Sound) {tag : Nat} {x : Txn}
    (hm : s.fwd.memReq = some (.host tag)) (hx : findTxn s.tracker.txns tag = some x) : (takeHostRequest s x).hostSide.Sound := by
  obtain ⟨before, after, stands, rfl⟩ := findTxn_stands hs hx
  have hmem : x ∈ s.tracker.txns := by simp [stands.1]
  obtain ⟨rest, hq⟩ := List.head?_eq_some_iff.1 (hs.presented _ hm)
  have hw : x.phase = .waitingForward := hs.waiting_of_queued hmem (by rw [show s.lanes.queue = _ from hq]; simp)
  obtain ⟨notLocal, notReturning⟩ := not_begun_of_waiting hw
  have side : (takeHostRequest s x).hostSide = { s.hostSide with txns := before ++ forwardTxn x :: after } := by
    rw [← stands_putTxn stands (forwardTxn x) rfl]; rfl
  have follows : (forwardTxn x).Follows x := Txn.follows_of_idle rfl rfl notLocal (by simp [hw]) notReturning
  rw [side]
  refine h.follow (forall₂_place Txn.follows_refl stands.1 follows)
    (h.begun_of_same (forall₂_place (fun _ => ⟨rfl, rfl, rfl, id⟩) stands.1 ⟨rfl, rfl, rfl, fun hr => ?_⟩))
    (forall₂_place (fun z => ⟨z.follows_refl, id⟩) stands.1 ⟨follows, fun hl => ?_⟩) fun _ y hy => ?_
  · simp [Txn.IsReturning, forwardTxn] at hr
  · simp [Txn.isLocal, forwardTxn] at hl
  · obtain ⟨hy, hnext, hp, item, hhead, howns⟩ := hy
    have same : ∀ z ∈ s.tracker.txns, ∃ z' ∈ before ++ forwardTxn x :: after, z.tag = z'.tag ∧ z.req = z'.req := by
      exact forall₂_exists_left (R := fun z w : Txn => w.tag = z.tag ∧ w.req = z.req)
        (forall₂_place (fun _ => ⟨rfl, rfl⟩) stands.1 ⟨rfl, rfl⟩)
    rcases (mem_changed stands.1 stands.2 _ y).1 hy with rfl | ⟨hy, -⟩
    · exfalso
      obtain ⟨-, w, hwmem, hwowns⟩ := h.owned item hhead
      obtain ⟨-, -, hwphase⟩ := (Txn.owns_iff w item).1 hwowns
      obtain ⟨hdir, hid⟩ := Txn.owns_stream howns hwowns
      have stream : sameStream x w = true := (sameStream_iff x w).2 ⟨hdir.symm, hid.symm⟩
      have older := (hnext.transfer (x' := x) same rfl rfl) w hwmem (by rwa [sameStream_comm])
      obtain ⟨hbefore, hafter⟩ := hs.around (x := x) stands.1
      rw [show s.hostSide.txns = _ from stands.1, List.mem_append, List.mem_cons] at hwmem
      rcases hwmem with hwmem | rfl | hwmem
      · exact absurd (hbefore w hwmem).1 (Nat.not_lt_of_le older)
      · rw [hw] at hwphase; cases hwphase
      · exact ((hafter w hwmem).2 stream).2 hwphase hw
    · exact ⟨y, hy, hnext.transfer same rfl rfl, hp, item, hhead, howns⟩

theorem takeWriteBeat_hostSound {s : State} (hs : s.lanes.Sound) (h : s.hostSide.Sound) {x : Txn} {beats : List WriteBeat} {n : Nat}
    (hx : sendingTxn s = some (x, beats, n)) : (takeWriteBeat s x beats n).hostSide.Sound := by
  obtain ⟨⟨tag, hfind⟩, -⟩ := sendingTxn_eq_some hx
  obtain ⟨before, after, stands, -⟩ := findTxn_stands hs hfind
  have replaced : ∀ slot, HostSide.Sound { s.hostSide with txns := before ++ { x with slot := slot } :: after } := fun slot =>
    h.alike (forall₂_place Txn.alike_refl stands.1 (Txn.alike_of_same_phase rfl rfl rfl rfl))
  unfold takeWriteBeat
  dsimp only
  split
  · rw [setTxn_hostSide stands]
    · exact replaced _
    all_goals rfl
  · rw [setTxn_hostSide stands]
    · exact replaced none
    all_goals rfl

/-! ## Responses -/

/-- An entry that gives the channel up leaves the turns to be taken, and they are (R50, R51, R53). -/
theorem retire_hostSound {s : State} {x : Txn} (hl : (retire s x).lanes.Sound)
    (h : HostSide.Owed { s.hostSide with txns := freeTxn s.tracker.txns x.tag, hostChan := none }) : (retire s x).hostSide.Sound := by
  unfold retire at hl ⊢
  rw [takeTurns_lanes] at hl
  exact takeTurns_sound hl h

section Answers

variable {s : State} (hs : s.lanes.Sound) (h : s.hostSide.Sound)
include hs h

theorem sendLocal_hostSound (dir : Dir) (id : HostId) : (sendLocal s dir id).hostSide.Sound := by
  unfold sendLocal
  split
  · next x hx =>
    obtain ⟨before, after, stands, hstream⟩ := find_stands hs hx
    split
    · next verdict status hphase =>
      split
      · next ready =>
        simp only [localReady, Bool.and_eq_true, Option.isNone_iff_eq_none] at ready
        obtain ⟨⟨⟨-, hnone⟩, -⟩, -⟩ := ready
        have hmem : x ∈ s.tracker.txns := by simp [stands.1]
        obtain ⟨hdir, hid⟩ : x.req.dir = dir ∧ x.req.id = id := by simpa using hstream
        have hnext : nextInStream s.tracker.txns x = true := by
          rw [nextInStream_iff_oldest stands.2 hmem, hdir, hid]; exact hx
        have began : (beginLocal s x verdict status).hostSide = { s.hostSide with
            txns := before ++ { x with phase := .returning verdict status } :: after, hostChan := some x.tag, localTurn := false
            lastSource := .localAnswer, eligible := dropEligible s.tracker.eligible x.tag } := by
          rw [← stands_putTxn stands { x with phase := .returning verdict status } rfl]; rfl
        rw [began]
        exact h.begin stands.1 stands.2 hnone ((isLocal_iff x).2 ⟨verdict, status, hphase⟩) ((next_iff hs hmem).1 hnext) rfl rfl rfl
          ⟨verdict, status, rfl⟩
      · exact h
    all_goals exact h
  · exact h

theorem takeLocalItem_hostSound {x : Txn} {verdict : LocalVerdict} {status : RespStatus} (hx : channelTxn s = some x)
    (hphase : x.phase = .returning verdict status) : (takeLocalItem s x status).hostSide.Sound := by
  have lanes := takeLocalItem_sound hs hx hphase
  obtain ⟨tag, hchan, hfind⟩ := Option.bind_eq_some_iff.1 hx
  obtain ⟨before, after, stands, rfl⟩ := findTxn_stands hs hfind
  unfold takeLocalItem at lanes ⊢
  dsimp only at lanes ⊢
  split
  · next hlt =>
    rw [setTxn_hostSide stands]
    · exact h.deliver stands.1 stands.2 hchan rfl rfl rfl hlt
    all_goals rfl
  · next hlast =>
    rw [if_neg hlast] at lanes
    refine retire_hostSound lanes ?_
    rw [putHostItem_tracker, stands_freeTxn stands]
    exact h.toOwed.free stands.1 stands.2 hchan (.inl (by simp [hphase]))

theorem passItem_hostSound {before after : List Txn} {x : Txn} (stands : Stands s before x after) (hphase : x.phase = .forwarded)
    (hslot : x.slot = none) (hchan : s.tracker.hostChan = some x.tag) (item : MemItem) : (passItem s x item).hostSide.Sound := by
  have lanes := passItem_sound hs stands hphase hslot item
  unfold passItem at lanes ⊢
  dsimp only at lanes ⊢
  have taken : (setHead (putHostItem (countError s x item) (passedItem item)) none).hostSide = { s.hostSide with head := none } := by
    simp [State.hostSide, setHead]
  have txns : (setHead (putHostItem (countError s x item) (passedItem item)) none).tracker.txns = s.tracker.txns := by simp
  split
  · next hlt =>
    rw [setTxn_hostSide stands txns, taken]
    · exact h.dropHead.deliver stands.1 stands.2 hchan rfl rfl rfl hlt
    · rfl
  · next hlast =>
    rw [if_neg hlast] at lanes
    refine retire_hostSound lanes ?_
    have landed : (landWrite (setHead (putHostItem (countError s x item) (passedItem item)) none) x).hostSide =
        { s.hostSide with head := none } := (hostSide_of_same (by simp) (by simp) (by simp)).trans taken
    rw [landed, landWrite_tracker, txns, stands_freeTxn stands]
    exact h.dropHead.toOwed.free stands.1 stands.2 hchan (.inr rfl)

theorem offerItem_hostSound (hp : s.pins.por = false) (item : MemItem) (ready : Bool) : (offerItem s item ready).hostSide.Sound := by
  unfold offerItem
  split
  · next x hx =>
    obtain ⟨before, after, stands, hphase⟩ := itemOwner_stands hs hx
    obtain ⟨hprst, hmem, howns⟩ := owner_of_itemOwner hx
    split
    · have presented : (setHead s (some item)).lanes.Sound := hs
      have given : (giveChannel (setHead s (some item))).hostSide.Sound :=
        giveChannel_sound presented (h.toOwed.putHead ⟨hp, hprst⟩ hmem howns) h.all
      have lanes : (giveChannel (setHead s (some item))).lanes.Sound := by rw [giveChannel_lanes]; exact presented
      unfold presentItem
      dsimp only
      split
      · next hpass =>
        simp only [passReady, Bool.and_eq_true, Option.isNone_iff_eq_none, beq_iff_eq] at hpass
        obtain ⟨-, hslot, hchan⟩ := hpass
        have stands' : Stands (giveChannel (setHead s (some item))) before x after := by
          rw [Stands, txns_of_lanes (giveChannel_lanes _)]; exact stands
        exact passItem_hostSound lanes given stands' hphase hslot hchan item
      · exact given
    · exact h
  · split <;> exact h

end Answers

/-! ## Resets -/

theorem hostSound_of_empty {h : HostSide} (ht : h.txns = []) (hc : h.hostChan = none) (hl : h.localTurn = false) (he : h.eligible = [])
    (hh : h.head = none) : h.Sound := by
  obtain ⟨txns, chan, turn, last, eligible, head, por, prst⟩ := h
  cases ht; cases hc; cases hl; cases he; cases hh
  exact ⟨⟨.nil, nofun, nofun, nofun, nofun, nofun, nofun, fun _ => ⟨rfl, rfl⟩⟩, nofun, fun _ _ => ⟨fun _ hx => (nomatch hx.1), rfl⟩⟩

/-- While a reset pin is asserted nothing is under way, and the pins may change (R59). -/
theorem HostSide.Sound.repin {h : HostSide} (sound : h.Sound) (hreset : h.por = true ∨ h.prst = true) (por prst : Bool) :
    Sound { h with por := por, prst := prst } := by
  obtain ⟨hempty, hhead⟩ := sound.quiet hreset
  refine { sound with
    owned := fun item hitem => ?_, quiet := fun _ => ⟨hempty, hhead⟩
    given := fun hchan hturn => ⟨fun x hx => ?_, (sound.given hchan hturn).2⟩ }
  · rw [show h.head = some item from hitem] at hhead; cases hhead
  · have hmem : x ∈ h.txns := hx.1
    rw [hempty] at hmem; cases hmem

theorem exec_hostSound_of_drivesPin {c : Instr} {s t : State} (hc : drivesPin c = true) (h : s.hostSide.Sound) (ht : exec c s = .next t) :
    t.hostSide.Sound := by
  cases c with
  | powerOnReset => cases ht; exact hostSound_of_empty rfl rfl rfl rfl rfl
  | powerOnResetRelease =>
    cases ht
    cases hp : s.pins.por with
    | true => exact h.repin (.inl hp) false s.pins.prst
    | false => rwa [hostSide_of_same (s := s) (t := { s with pins := { s.pins with por := false } }) rfl rfl (by rw [← hp])]
  | portResetAssert =>
    simp only [exec, execPortResetAssert] at ht
    split at ht
    · cases ht; exact h
    · split at ht
      · next hp => cases ht; exact h.repin (.inl hp) s.pins.por true
      · cases ht
        have reset : (portResetBlocks s).hostSide.Sound :=
          hostSound_of_empty (by simp [State.hostSide, portResetBlocks, portResetTracker])
            (by simp [State.hostSide, portResetBlocks, portResetTracker]) (by simp [State.hostSide, portResetBlocks, portResetTracker])
            (by simp [State.hostSide, portResetBlocks, portResetTracker]) (by simp [State.hostSide, portResetBlocks, portResetForwarder])
        unfold portResetCommit
        split
        · rwa [cutDrain_hostSide]
        · exact reset
  | portResetDeassert =>
    simp only [exec, execPortResetDeassert] at ht
    split at ht
    · cases ht; exact h
    · next hp =>
      have released := h.repin (.inr (show s.pins.prst = true by simpa using hp)) s.pins.por false
      split at ht
      · cases ht; exact released
      · cases ht
        unfold resumeStarvation
        split <;> exact released
  | _ => cases hc

/-! ## Every command -/

theorem exec_hostSound_of_carries {c : Instr} {s t : State} (hpin : drivesPin c = false) (hc : carries c = true) (hs : s.lanes.Sound)
    (h : s.hostSide.Sound) (ht : exec c s = .next t) : t.hostSide.Sound := by
  have stepped : ∀ {ready : Bool} {u : State}, stepWhen ready s u = .next t →
      (s.pins.por = false → ready = true → u.hostSide.Sound) → t.hostSide.Sound :=
    fun ht hu => stepWhen_keeps (P := fun s => s.hostSide.Sound) ht h hu
  have stays : Host.Outcome.next (φ := Fault) (ρ := Refusal) s = .next t → t.hostSide.Sound := by
    rintro ⟨⟩; exact h
  cases c with
  | powerOnReset | portResetAssert => cases hpin
  | hostRequestAccept req =>
    simp only [exec, execHostRequestAccept] at ht
    split at ht
    · next hr =>
      refine stepped ht fun hp hready => acceptRequest_hostSound hs h hr ⟨hp, ?_⟩
      simp only [requestReady, Bool.and_eq_true, Bool.not_eq_true'] at hready
      exact hready.1.1
    · cases ht
  | hostWriteBeat offer =>
    simp only [exec, execHostWriteBeat] at ht
    split at ht
    · next hx => exact stepped ht fun _ _ => storeBeat_hostSound hs h hx offer
    · exact stays ht
  | hostClaimGrant =>
    simp only [exec, execHostClaimGrant] at ht
    split at ht
    · exact stepped ht fun _ _ => h
    · exact stays ht
  | scanClaimGrant =>
    simp only [exec, execScanClaimGrant] at ht
    split at ht
    · exact stepped ht fun _ _ => h
    · exact stays ht
  | forcedClaimGrant =>
    simp only [exec, execForcedClaimGrant] at ht
    split at ht
    · exact stepped ht fun _ _ => h
    · exact stays ht
  | memoryRequestTaken =>
    simp only [exec, execMemoryRequestTaken] at ht
    split at ht
    · next hm =>
      split at ht
      · next hx => exact stepped ht fun _ _ => takeHostRequest_hostSound hs h hm hx
      · exact stays ht
    · exact stepped ht fun _ _ => h
    · exact stays ht
  | memoryWriteBeatTaken =>
    simp only [exec, execMemoryWriteBeatTaken] at ht
    split at ht
    · next hx => exact stepped ht fun _ _ => takeWriteBeat_hostSound hs h hx
    · exact stays ht
  | idleGapMet => exact stepped ht fun _ _ => h
  | memoryResponseItemPass offer => exact stepped ht fun hp _ => offerItem_hostSound hs h hp _ _
  | localAnswerSend dir id head =>
    refine stepped ht fun hp _ => ?_
    cases head with
    | none => exact sendLocal_hostSound hs h dir id
    | some item => exact sendLocal_hostSound (offerItem_sound hs item false) (offerItem_hostSound hs h hp item false) dir id
  | localAnswerItemTaken =>
    simp only [exec, execLocalAnswerItemTaken] at ht
    split at ht
    · next hx =>
      split at ht
      · next hphase => exact stepped ht fun _ _ => takeLocalItem_hostSound hs h hx hphase
      all_goals exact stays ht
    · exact stays ht
  | drainTimerExpiry =>
    simp only [exec, execDrainTimerExpiry] at ht
    split at ht
    · exact stepped ht fun _ _ => cutDrain_released_hostSound hs h _ _ _
    · exact stays ht
  | drainComplete =>
    simp only [exec, execDrainComplete] at ht
    split at ht
    · exact stepped ht fun _ _ => completeDrain_hostSound hs h _ _
    · exact stays ht
  | commit => exact takeCommand_keeps (P := fun s => s.hostSide.Sound) ht h (doCommit_hostSound hs h)
  | abortCommit => exact takeCommand_keeps (P := fun s => s.hostSide.Sound) ht h (doAbortCommit_hostSound hs h)
  | _ => cases hc

theorem exec_hostSound {c : Instr} {s t : State} (ht : exec c s = .next t) (hs : s.lanes.Sound) (h : s.hostSide.Sound) :
    t.hostSide.Sound := by
  cases hpin : drivesPin c with
  | true => exact exec_hostSound_of_drivesPin hpin h ht
  | false =>
    cases hc : carries c with
    | true => exact exec_hostSound_of_carries hpin hc hs h ht
    | false =>
      have shape := exec_shape hpin (by rintro req rfl; cases hc) s
      rw [hc] at shape
      rwa [shape.hostSide ht]

/-! ## Settled -/

/-- Settles O19: sound traffic and a sound host side are kept together by every command and by the passing of time. -/
theorem hostChannelStaysLegal : Obligations.HostChannelStaysLegal := by
  intro s t h tracker streams forwarder channel
  obtain ⟨-, -, -, entries⟩ := tracker
  have traffic := (lanes_sound_iff s).2 ⟨entries, streams, forwarder⟩
  have kept : t.lanes.Sound ∧ t.hostSide.Sound := step_keeps (P := fun s => s.lanes.Sound ∧ s.hostSide.Sound) (fun _ _ hs => hs)
    (fun _ hs => ⟨advance_sound hs.1, hs.2⟩) (fun _ _ _ hx hs => ⟨exec_sound hx hs.1, exec_hostSound hx hs.1 hs.2⟩) h
    ⟨traffic, (channelLegal_iff traffic).1 channel⟩
  exact (channelLegal_iff kept.1).2 kept.2

end Sys2Proof.Machine

/-! The transfers at the host port and the items of the memory, each with the state it leaves: a write and its beats collected, a local
answer begun and sent, an item of the memory passed, kept presented, or discarded. -/

namespace Sys2Proof.Machine

/-! ## Requests and beats -/

theorem exec_hostRequestAccept_write {s : State} {r : Request} (hp : PinsReleased s) (hr : r.beatsLegal = true)
    (hroom : s.tracker.txns.length < 16) (hslot : slotsUsed s.tracker.txns < 4) (hd : r.dir = .write) :
    exec (.hostRequestAccept r) s = .next (appendTxn (bumpTag s) (newTxn s.tracker.nextTag r)) := by
  have ready : requestReady s r = true := by simp [requestReady, hp.2, hd, Config.txnEntries, Config.writeSlots, hroom, hslot]
  simp only [exec, execHostRequestAccept, hr, if_true]
  rw [stepWhen_taken hp.1 ready, acceptRequest]
  simp only [hd]

theorem newTxn_write (tag : Nat) {r : Request} (h : r.dir = .write) :
    newTxn tag r = { entryOfRequest tag r .collecting with slot := some { state := .filling, beats := [] } } := by
  simp [newTxn, entryOfRequest, h]

theorem exec_hostRequestAccept_full {s : State} {r : Request} (hr : r.beatsLegal = true)
    (hfull : 16 ≤ s.tracker.txns.length ∨ r.dir = .write ∧ 4 ≤ slotsUsed s.tracker.txns) :
    exec (.hostRequestAccept r) s = .next s := by
  simp only [exec, execHostRequestAccept, hr, if_true]
  refine stepWhen_not _ _ ?_
  rcases hfull with hlength | ⟨hd, hslots⟩
  · simp [requestReady, Config.txnEntries, Nat.not_lt_of_le hlength]
  · simp [requestReady, Config.writeSlots, hd, Nat.not_lt_of_le hslots]

/-- Settles O22: a write joins as the youngest entry where there is room, and a beat goes to the oldest write still collecting. -/
theorem requestsAndBeatsCollected : Obligations.RequestsAndBeatsCollected := by
  intro s hp
  refine ⟨fun r hr => ⟨fun hroom hslot hd => ?_, exec_hostRequestAccept_full hr⟩, fun beat between => ⟨?_, fun hnone => ?_⟩⟩
  · rw [exec_hostRequestAccept_write hp hr hroom hslot hd, newTxn_write _ hd]
    rfl
  · intro before x after stands hx hb hlt
    have oldest : collectingTxn s.tracker.txns = some x := by
      rw [stands.1]
      exact find_split _ _ _ _ (by simpa using hb) (by simp [hx])
    have more : (x.beatsHeld ++ [beat]).length < x.req.beats := by simpa using hlt
    simp only [exec, execHostWriteBeat, oldest]
    rw [stepWhen_taken hp.1 (by simp [hp.2])]
    simp only [storeBeat, if_pos more]
    rw [setTxn_stands stands]
    · rfl
    all_goals rfl
  · have none : collectingTxn s.tracker.txns = none := List.find?_eq_none.2 (by simpa using hnone)
    simp only [exec, execHostWriteBeat, none]

/-! ## Local answers -/

theorem responseItems_eq (r : Request) : responseItems r = if r.dir = .read then r.beats else 1 := by
  unfold responseItems
  cases r.dir <;> rfl

theorem localItem_eq (r : Request) (status : RespStatus) :
    localItem r status = if r.dir = .read then HostItem.readBeat 0 status else HostItem.writeDone status := by
  unfold localItem
  cases r.dir <;> rfl

theorem dropEligible_eq (groups : List (List Nat)) (tag : Nat) :
    dropEligible groups tag = (groups.map fun group => group.filter (· ≠ tag)).filter (· ≠ []) := by
  have differs : (fun a : Nat => a != tag) = fun a => decide (a ≠ tag) := funext fun a => by
    rw [Bool.eq_iff_iff]; simp
  have filled : (fun group : List Nat => !group.isEmpty) = fun group => decide (group ≠ []) := funext fun group => by
    rw [Bool.eq_iff_iff]; simp
  unfold dropEligible
  rw [filled]
  simp only [differs]

theorem oldestEligible_iff (t : Tracker) (tag : Nat) :
    oldestEligible t tag = true ↔ ∃ group groups, t.eligible = group :: groups ∧ tag ∈ group := by
  unfold oldestEligible
  cases t.eligible <;> simp

section

variable {s : State} (hp : s.pins.por = false)
include hp

theorem exec_localAnswerSend_none (dir : Dir) (id : HostId) : exec (.localAnswerSend dir id none) s = .next (sendLocal s dir id) :=
  stepWhen_taken hp rfl

theorem exec_localAnswerSend_some (dir : Dir) (id : HostId) (item : MemItem) :
    exec (.localAnswerSend dir id (some item)) s = .next (sendLocal (offerItem s item false) dir id) :=
  stepWhen_taken hp rfl

theorem exec_memoryResponseItemPass (item : MemItem) (ready : Bool) :
    exec (.memoryResponseItemPass ⟨item, ready⟩) s = .next (offerItem s item ready) :=
  stepWhen_taken hp rfl

end

section

variable {s : State} {before after : List Txn} {x : Txn} (stands : Stands s before x after)
include stands

theorem sendLocal_answer (hnone : NoneOfStream before x) {verdict : LocalVerdict} {status : RespStatus}
    (hphase : x.phase = .localAnswer verdict status) :
    sendLocal s x.req.dir x.req.id = if localReady s x then beginLocal s x verdict status else s := by
  unfold sendLocal
  rw [stands.1, oldestOf_stands hnone]
  simp only [hphase]

theorem sendLocal_other (hnone : NoneOfStream before x) (hphase : ∀ v st, x.phase ≠ .localAnswer v st) :
    sendLocal s x.req.dir x.req.id = s := by
  unfold sendLocal
  rw [stands.1, oldestOf_stands hnone]
  dsimp only
  split
  · next v st h => exact absurd h (hphase v st)
  all_goals rfl

theorem channelTxn_stands (hchan : s.tracker.hostChan = some x.tag) : channelTxn s = some x := by
  rw [channelTxn, hchan, Option.bind_some, stands_findTxn stands]

theorem exec_localAnswerItemTaken (hp : PinsReleased s) (hchan : s.tracker.hostChan = some x.tag) {verdict : LocalVerdict}
    {status : RespStatus} (hphase : x.phase = .returning verdict status) :
    exec .localAnswerItemTaken s = .next (takeLocalItem s x status) := by
  simp only [exec, execLocalAnswerItemTaken, channelTxn_stands stands hchan, hphase]
  exact stepWhen_taken hp.1 (by simp [hp.2])

end

/-- Settles O30: the entry that is next in the stream is found in its place, and the answer begins or an item of it is taken. -/
theorem localAnswers : Obligations.LocalAnswers := by
  intro s hp
  refine ⟨fun before after x verdict status stands => ?_, fun dir id hnone => ?_, fun dir id item t ht => ?_, fun hchan => ?_⟩
  · intro item items wires given
    have ready_iff : localReady s x = true ↔ given := by
      simp only [localReady, hp.2, Bool.not_false, Bool.true_and, Bool.and_eq_true, Option.isNone_iff_eq_none, oldestEligible_iff,
        and_assoc, given]
    refine ⟨fun hnone hphase => ⟨fun hgiven => ?_, fun hnot => ?_⟩, fun hnone hphase => ?_, fun hphase hchan hlt => ?_,
      fun hphase hchan hle => ?_, fun hphase hchan => ?_⟩
    · rw [exec_localAnswerSend_none hp.1, sendLocal_answer stands hnone hphase, if_pos (ready_iff.2 hgiven), ← dropEligible_eq,
        ← stands_putTxn stands { x with phase := .returning verdict status } rfl]
      rfl
    · rw [exec_localAnswerSend_none hp.1, sendLocal_answer stands hnone hphase, if_neg fun hr => hnot (ready_iff.1 hr)]
    · rw [exec_localAnswerSend_none hp.1, sendLocal_other stands hnone hphase]
    · rw [exec_localAnswerItemTaken stands hp hchan hphase, takeLocalItem, responseItems_eq]
      dsimp only
      rw [if_pos hlt, setTxn_stands stands, localItem_eq]
      · rfl
      all_goals rfl
    · rw [exec_localAnswerItemTaken stands hp hchan hphase, takeLocalItem, responseItems_eq]
      dsimp only
      rw [if_neg (Nat.not_lt_of_le hle), retire, putHostItem_tracker, stands_freeTxn stands, localItem_eq]
      rfl
    · simp only [exec, execLocalAnswerItemTaken, channelTxn_stands stands hchan, hphase]
  · have none : oldestOf s.tracker.txns dir id = none := List.find?_eq_none.2 fun y hy => by simpa using hnone y hy
    rw [exec_localAnswerSend_none hp.1, sendLocal, none]
  · rw [exec_memoryResponseItemPass hp.1] at ht
    cases ht
    have pins : (offerItem s item false).pins.por = false := by rw [offerItem_pins]; exact hp.1
    rw [exec_localAnswerSend_some hp.1, exec_localAnswerSend_none pins]
  · simp only [exec, execLocalAnswerItemTaken, channelTxn, hchan, Option.bind_none]

/-! ## Items of the memory -/

section

variable {s : State} {before after : List Txn} {x : Txn} (stands : Stands s before x after) {item : MemItem}
include stands

theorem memoryCandidate_stands (hp : s.pins.prst = false) (hhead : s.fwd.head = some item) (howns : x.owns item = true)
    (hnone : NoneOfStream before x) : memoryCandidate s = some x :=
  (memoryCandidate_eq_some_iff stands.2 x).2 ⟨by simp [stands.1], (nextInStream_stands stands).2 hnone, hp, item, hhead, howns⟩

/-- The item's transaction is not next in its stream: the memory has no candidate. -/
theorem memoryCandidate_of_not_next (hhead : s.fwd.head = some item) (howner : itemOwner s item = some x)
    (hnot : ¬NoneOfStream before x) : memoryCandidate s = none := by
  have notNext : nextInStream s.tracker.txns x = false := by
    rw [← Bool.not_eq_true]
    exact fun h => hnot ((nextInStream_stands stands).1 h)
  simp only [memoryCandidate, hhead, Option.bind_some, howner, notNext, Bool.false_eq_true, if_false]

end

/-- Whom the channel belongs to once an item of the next transaction is presented (R53). -/
theorem giveChannel_held {s : State} {x : Txn} (hx : memoryCandidate s = some x)
    (hwho : s.tracker.hostChan = some x.tag ∨ s.tracker.hostChan = none ∧ s.tracker.localTurn = false ∧
      (s.tracker.eligible = [] ∨ s.tracker.lastSource = .localAnswer)) :
    giveChannel s = { s with tracker := { s.tracker with
      hostChan := some x.tag, lastSource := if s.tracker.hostChan = none then .memory else s.tracker.lastSource } } := by
  rcases hwho with hchan | ⟨hchan, hturn, hlast⟩
  · rw [giveChannel_taken (by simp [hchan]), if_neg (by simp [hchan]), ← hchan]
  · rw [giveChannel_memory ⟨hchan, hturn⟩ hx hlast, if_pos hchan]
    rfl

theorem countError_eq (s : State) (x : Txn) (item : MemItem) : countError s x item = { s with fwd := { s.fwd with
    memErrors := if itemStatus item = .err ∧ x.errSeen = false then satInc s.fwd.memErrors else s.fwd.memErrors } } := by
  unfold countError
  by_cases h : itemStatus item = .err ∧ x.errSeen = false
  · rw [if_pos h, if_pos (by simp [h.1, h.2])]
    rfl
  · rw [if_neg h, if_neg (by simpa using h)]

/-- The writes awaited after a write has landed: one less in each draining region that it is into (R115). -/
theorem lowerAwaited_eq (s : State) (x : Txn) : lowerAwaited s x = { s with
    sig := { s.sig with life := Tab.ofFn fun i =>
      match s.sig.life.get i with
      | some (.signing (.drainingWrites n)) =>
        some (.signing (.drainingWrites (n - (if x.isInto (s.table.active.get i) then 1 else 0))))
      | l => l } } := by
  refine congrArg (fun life => ({ s with sig := { s.sig with life := Tab.ofFn life } } : State)) (funext fun i => ?_)
  cases s.sig.life.get i with
  | none => rfl
  | some life =>
    cases life with
    | blank | opened | intact | corrupt => rfl
    | signing sub =>
      cases sub with
      | queued | active => rfl
      | drainingWrites n => dsimp only; split <;> rfl

section

variable {s : State} {before after : List Txn} {x : Txn} {item : MemItem} (stands : Stands s before x after)
include stands

/-- An item, not the last of its response, passes: it is counted as delivered (R52, R58). -/
theorem passItem_more (hlt : x.delivered + 1 < responseItems x.req) :
    passItem s x item = { s with
      tracker := { s.tracker with txns := before ++
        { x with delivered := x.delivered + 1, errSeen := x.errSeen || itemStatus item == .err } :: after }
      wires := { s.wires with hostItem := some (passedItem item) }
      fwd := { s.fwd with
        head := none
        memErrors := if itemStatus item = .err ∧ x.errSeen = false then satInc s.fwd.memErrors else s.fwd.memErrors } } := by
  unfold passItem
  dsimp only
  rw [if_pos hlt, setTxn_stands stands, countError_eq]
  · rfl
  · simp
  · rfl

/-- The last item of a response passes: its transaction, landed if it is a write, is freed (R52). -/
theorem passItem_last (hle : responseItems x.req ≤ x.delivered + 1) :
    passItem s x item = takeTurns (({
      landWrite { s with
        wires := { s.wires with hostItem := some (passedItem item) }
        fwd := { s.fwd with
          head := none
          memErrors := if itemStatus item = .err ∧ x.errSeen = false then satInc s.fwd.memErrors else s.fwd.memErrors } } x with
      tracker := { s.tracker with txns := before ++ after, hostChan := none } } : State)) := by
  unfold passItem
  dsimp only
  rw [if_neg (Nat.not_lt_of_le hle), countError_eq, retire, landWrite_tracker]
  simp only [setHead_tracker, putHostItem_tracker]
  rw [stands_freeTxn stands]
  rfl

end

/-- Settles O33: the item's transaction has or is given the channel, and the item passes. -/
theorem memoryItemsPass : Obligations.MemoryItemsPass := by
  intro s before after x item hp stands hnone hphase hslot hdir hid hhead hwho held passed items
  have howns : x.owns item = true := (Txn.owns_iff x item).2 ⟨hdir, hid, hphase⟩
  have owner : itemOwner s item = some x := itemOwner_stands_of_none stands.1 hp.2 howns fun y hy =>
    Bool.eq_false_iff.2 fun hyo => hnone y hy (Txn.owns_stream howns hyo)
  have fits : headFits s item = true := by
    rcases hhead with hhead | hhead <;> simp [headFits, headFree, hhead]
  have given : giveChannel (setHead s (some item)) = { setHead s (some item) with tracker := held } :=
    giveChannel_held (memoryCandidate_stands (s := setHead s (some item)) stands hp.2 rfl howns hnone) hwho
  have offered : exec (.memoryResponseItemPass ⟨item, true⟩) s =
      .next (passItem { setHead s (some item) with tracker := held } x item) := by
    rw [exec_memoryResponseItemPass hp.1]
    simp only [offerItem, owner, fits, if_true, presentItem, given]
    rw [if_pos]
    simp [passReady, hslot, held]
  have count : responseItems x.req = items := responseItems_eq x.req
  have stands' : Stands { setHead s (some item) with tracker := held } before x after := stands
  rw [offered]
  refine ⟨fun hlt => ?_, fun hle hd => ?_, ?_⟩
  · rw [passItem_more stands' (count ▸ hlt)]
    rfl
  · rw [passItem_last stands' (count ▸ hle), landWrite, if_neg (by simp [hd])]
    rfl
  · intro hle hd landed
    rw [passItem_last stands' (count ▸ hle), landWrite, if_pos hd, lowerAwaited_eq]
    cases ht : x.tracked <;> simp only [landed, ht] <;> rfl

/-! ## Items that do not pass -/

theorem chunkOutstanding_iff (s : State) : chunkOutstanding s = true ↔ ∃ r, s.scan.engine = .reading r := by
  unfold chunkOutstanding
  cases s.scan.engine <;> simp

/-- Only an item with a host id has an owner. -/
theorem owns_eq_false_of_id {item : MemItem} (h : 16 ≤ item.id.toNat) (x : Txn) : x.owns item = false := by
  refine Bool.eq_false_iff.2 fun howns => ?_
  rw [((Txn.owns_iff x item).1 howns).2.1] at h
  exact absurd (setWidth_lt_sixteen x.req.id) (Nat.not_lt_of_le h)

theorem isChunkItem_eq_false_of_id {s : State} {item : MemItem} (h : item.id ≠ 16) : isChunkItem s item = false := by
  rw [isChunkItem, beq_eq_false_iff_ne.2 h, Bool.and_false, Bool.false_and]

/-- An item that belongs to nothing: no transaction owns it, and it is none of an outstanding chunk read (R58, R59). -/
theorem unowned_of {s : State} {item : MemItem}
    (h : s.pins.prst = true ∨ 17 ≤ item.id.toNat ∨ (item.id = 16 ∧ itemDir item = .write) ∨
      (item.id = 16 ∧ ∀ r, s.scan.engine ≠ .reading r) ∨
      (item.id.toNat < 16 ∧ ∀ x ∈ s.tracker.txns, x.req.dir = itemDir item → x.req.id.setWidth 5 = item.id → x.phase ≠ .forwarded)) :
    itemOwner s item = none ∧ isChunkItem s item = false := by
  rw [itemOwner_eq_none_iff]
  rcases h with hp | hid | ⟨hid, hd⟩ | ⟨hid, hread⟩ | ⟨hid, hnone⟩
  · exact ⟨.inl hp, by simp [isChunkItem, hp]⟩
  · refine ⟨.inr fun x _ => owns_eq_false_of_id (by omega) x, isChunkItem_eq_false_of_id ?_⟩
    rintro h
    rw [h] at hid
    exact absurd hid (by decide)
  · exact ⟨.inr fun x _ => owns_eq_false_of_id (by rw [hid]; decide) x, by simp [isChunkItem, hd]⟩
  · have notOutstanding : chunkOutstanding s = false := by
      rw [← Bool.not_eq_true, chunkOutstanding_iff]
      rintro ⟨r, hr⟩
      exact hread r hr
    exact ⟨.inr fun x _ => owns_eq_false_of_id (by rw [hid]; decide) x, by simp [isChunkItem, notOutstanding]⟩
  · refine ⟨.inr fun x hx => Bool.eq_false_iff.2 fun howns => ?_, isChunkItem_eq_false_of_id ?_⟩
    · obtain ⟨hdir, hi, hphase⟩ := (Txn.owns_iff x item).1 howns
      exact hnone x hx hdir.symm hi.symm hphase
    · rintro h
      rw [h] at hid
      exact absurd hid (by decide)

/-- Whatever keeps the channel from an item's transaction, giving does not give it to it (R53). -/
theorem not_given {s : State} {before after : List Txn} {x : Txn} {item : MemItem} (stands : Stands s before x after)
    (hhead : s.fwd.head = some item) (howner : itemOwner s item = some x)
    (h : (∃ tag, s.tracker.hostChan = some tag ∧ tag ≠ x.tag) ∨
      s.tracker.hostChan = none ∧ (¬NoneOfStream before x ∨ s.tracker.localTurn = true ∨
        s.tracker.eligible ≠ [] ∧ s.tracker.lastSource = .memory)) :
    (giveChannel s).tracker.hostChan ≠ some x.tag := by
  rcases h with ⟨tag, hchan, hne⟩ | ⟨hchan, hother⟩
  · rw [giveChannel_taken (by simp [hchan]), hchan]
    exact fun he => hne (Option.some_inj.1 he)
  · cases hturn : s.tracker.localTurn with
    | true => rw [giveChannel_taken (by simp [hturn]), hchan]; nofun
    | false =>
      have toLocal : s.tracker.eligible ≠ [] → (memoryCandidate s = none ∨ s.tracker.lastSource = .memory) →
          (giveChannel s).tracker.hostChan ≠ some x.tag := fun he hc => by
        rw [giveChannel_local ⟨hchan, hturn⟩ he hc]
        exact fun h => nomatch hchan.symm.trans h
      rcases hother with hnot | ht | ⟨he, hlast⟩
      · have none := memoryCandidate_of_not_next stands hhead howner hnot
        by_cases he : s.tracker.eligible = []
        · rw [giveChannel_nobody ⟨hchan, hturn⟩ none he, hchan]; nofun
        · exact toLocal he (.inl none)
      · rw [hturn] at ht; cases ht
      · exact toLocal he (.inr hlast)

/-- Settles O34: an item without an owner is counted, one that may not pass is kept presented, and none comes past it. -/
theorem itemsDiscardedOrKeptWaiting : Obligations.ItemsDiscardedOrKeptWaiting := by
  intro s hp counted
  refine ⟨fun hhead => ⟨fun item hitem => ?_, fun hread data status => ?_⟩,
    fun before x after item ready => ?_, fun kept item hhead hne => ?_⟩
  · obtain ⟨unowned, notChunk⟩ := unowned_of hitem
    refine ⟨?_, fun ready => ?_⟩
    · simp only [exec, execMemoryResponseDiscard, unowned]
      exact stepWhen_taken hp (by simp [headFree, hhead, notChunk])
    · rw [exec_memoryResponseItemPass hp, offerItem, unowned]
      simp only [headFree, hhead, notChunk]
      rfl
  · have free : headFree s = true := by simp [headFree, hhead]
    constructor
    · simp only [exec, execChunkReadBeat]
      split
      · next r hr => exact absurd hr (hread r)
      all_goals exact stepWhen_taken hp free
    · simp only [exec, execChunkReadReturn]
      split
      · next r hr => exact absurd hr (hread r)
      all_goals exact stepWhen_taken hp free
  · intro stands hphase hdir hid hprst hfirst hhead hkept
    have howns : x.owns item = true := (Txn.owns_iff x item).2 ⟨hdir, hid, hphase⟩
    have owner : itemOwner s item = some x := itemOwner_stands_of_none stands.1 hprst howns fun y hy =>
      Bool.eq_false_iff.2 fun hyo => by
        obtain ⟨-, -, hforwarded⟩ := (Txn.owns_iff y item).1 hyo
        obtain ⟨hyd, hyi⟩ := Txn.owns_stream howns hyo
        exact hfirst y hy hyd hyi hforwarded
    have fits : headFits s item = true := by
      rcases hhead with hhead | hhead <;> simp [headFits, headFree, hhead]
    refine ⟨?_, by simp only [exec, execMemoryResponseDiscard, owner]⟩
    have waits : (ready && passReady (giveChannel (setHead s (some item))) x) = false := by
      rw [Bool.and_eq_false_iff, passReady, Bool.and_eq_false_iff]
      rcases hkept with hready | hslot | hother
      · exact .inl hready
      · exact .inr (.inl (Option.isNone_eq_false_iff.2 (Option.isSome_iff_ne_none.2 hslot)))
      · refine .inr (.inr (beq_eq_false_iff_ne.2 ?_))
        exact not_given (s := setHead s (some item)) stands rfl owner hother
    rw [exec_memoryResponseItemPass hp, offerItem, owner]
    simp only [fits, if_true, presentItem, waits]
    rfl
  · have busy : headFree s = false := by simp [headFree, hhead]
    have unfit : headFits s item = false := by simp [headFits, busy, hhead, hne]
    refine ⟨fun ready => ?_, ?_, fun data status => ⟨?_, ?_⟩⟩
    · rw [exec_memoryResponseItemPass hp, offerItem]
      split
      · rw [unfit]; rfl
      · rw [busy]; rfl
    · simp only [exec, execMemoryResponseDiscard]
      split
      · rfl
      · exact stepWhen_not _ _ (by simp [busy])
    · simp only [exec, execChunkReadBeat]
      split
      all_goals exact stepWhen_not _ _ (by simp [busy])
    · simp only [exec, execChunkReadReturn]
      split
      all_goals exact stepWhen_not _ _ (by simp [busy])

end Sys2Proof.Machine

/-! The memory port and the clock: what the memory takes, the arbiter's grants and what keeps each from coming about, the expiry of the
scan timers, and the cycle in which nothing is due. -/

namespace Sys2Proof.Machine

/-! ## What the memory takes -/

theorem exec_memoryRequestTaken_host {s : State} {before after : List Txn} {x : Txn} (hp : PinsReleased s)
    (stands : Stands s before x after) (hm : s.fwd.memReq = some (.host x.tag)) :
    exec .memoryRequestTaken s = .next (takeHostRequest s x) := by
  simp only [exec, execMemoryRequestTaken, hm, stands_findTxn stands]
  exact stepWhen_taken hp.1 (by simp [hp.2])

theorem exec_memoryWriteBeatTaken {s : State} {before after : List Txn} {x : Txn} {rest : List Nat} {beats : List WriteBeat} {sent : Nat}
    (hp : PinsReleased s) (stands : Stands s before x after) (hq : s.fwd.sending = x.tag :: rest)
    (hslot : x.slot = some { state := .sending sent, beats := beats }) :
    exec .memoryWriteBeatTaken s = .next (takeWriteBeat s x beats sent) := by
  have sending : sendingTxn s = some (x, beats, sent) := by
    simp only [sendingTxn, hq, stands_findTxn stands, hslot]
  simp only [exec, execMemoryWriteBeatTaken, sending]
  exact stepWhen_taken hp.1 (by simp [hp.2])

theorem filter_bne_eq (tags : List Nat) (a : Nat) : tags.filter (· != a) = tags.filter (· ≠ a) :=
  congrArg (fun p => tags.filter p) (funext fun b => by rw [Bool.eq_iff_iff]; simp)

theorem append_if_write (r : Request) (tags : List Nat) (a : Nat) :
    (if r.dir = .write then tags ++ [a] else tags) = tags ++ (if r.dir = .write then [a] else []) := by
  split
  · rfl
  · rw [List.append_nil]

/-- Settles O32: the entry is found in its place, and its request, or the next of its beats, goes out. -/
theorem memoryTakes : Obligations.MemoryTakes := by
  intro s hp
  refine ⟨fun before x after stands hm => ?_, fun a hm => ?_, fun before x after rest beats sent stands hq hslot hlt => ?_,
    fun before x after rest beats sent stands hq hnew hslot hle => ?_⟩
  · rw [exec_memoryRequestTaken_host hp stands hm, takeHostRequest, stands_putTxn stands (forwardTxn x) rfl, filter_bne_eq,
      append_if_write]
    rfl
  · simp only [exec, execMemoryRequestTaken, hm]
    exact stepWhen_taken hp.1 (by simp [hp.2])
  · rw [exec_memoryWriteBeatTaken hp stands hq hslot, takeWriteBeat]
    dsimp only
    rw [if_pos hlt, setTxn_stands stands]
    · rfl
    all_goals rfl
  · have left : s.fwd.sending.filter (· != x.tag) = rest := by
      rw [hq, List.filter_cons_of_neg (by simp)]
      exact Lanes.filter_ne_eq_self hnew
    rw [exec_memoryWriteBeatTaken hp stands hq hslot, takeWriteBeat]
    dsimp only
    rw [if_neg (Nat.not_lt_of_le hle), setTxn_stands stands, left]
    · rfl
    all_goals rfl

/-! ## The arbiter's grants -/

theorem outstanding_eq_zero_iff (txns : List Txn) : outstanding txns = 0 ↔ ∀ x ∈ txns, x.phase ≠ .forwarded := by
  simp [outstanding, List.countP_eq_zero]

theorem channelFree_iff (s : State) : channelFree s = true ↔ PinsReleased s ∧ s.fwd.memReq = none := by
  simp [channelFree, portsHeld, and_comm (a := s.pins.prst = false)]

/-- All that a grant asks for beyond a claim (R56, R57). -/
theorem hostGrantReady_iff (s : State) :
    hostGrantReady s = true ↔ channelFree s = true ∧ (∀ r, s.scan.engine ≠ .reading r) ∧ s.scan.forced = false := by
  have reading : chunkOutstanding s = false ↔ ∀ r, s.scan.engine ≠ .reading r := by
    rw [← Bool.not_eq_true, chunkOutstanding_iff, not_exists]
  simp only [hostGrantReady, Bool.and_eq_true, Bool.not_eq_true', reading, and_assoc]

theorem gapMet_iff (s : State) : gapMet s = true ↔ ∃ g, s.fwd.idleGap = some g ∧ g.hold ≤ g.count := by
  unfold gapMet
  cases s.fwd.idleGap <;> simp

theorem scanGrantReady_iff (s : State) :
    scanGrantReady s = true ↔ channelFree s = true ∧ s.scan.engine = .waitingGap ∧ withheld s = false ∧ s.scan.forced = false ∧
      ∃ g, s.fwd.idleGap = some g ∧ g.hold ≤ g.count := by
  simp only [scanGrantReady, claimable, Bool.and_eq_true, Bool.not_eq_true', beq_iff_eq, gapMet_iff, and_assoc]

theorem forcedGrantReady_iff (s : State) :
    forcedGrantReady s = true ↔ channelFree s = true ∧ s.scan.engine = .waitingGap ∧ s.scan.forced = true ∧
      ∀ x ∈ s.tracker.txns, x.phase ≠ .forwarded := by
  simp only [forcedGrantReady, Bool.and_eq_true, beq_iff_eq, outstanding_eq_zero_iff, and_assoc]

section

variable {s : State}

theorem exec_hostClaimGrant_not (h : s.fwd.queue = [] ∨ ¬hostGrantReady s = true) : exec .hostClaimGrant s = .next s := by
  simp only [exec, execHostClaimGrant]
  split
  · next hq =>
    refine stepWhen_not _ _ ?_
    rcases h with h | h
    · rw [hq] at h; cases h
    · simpa using h
  · rfl

theorem nextChunk_of_no_context (h : s.scan.context = none) : nextChunk s = none := by rw [nextChunk, h]; rfl

theorem exec_scanClaimGrant_not (h : s.scan.context = none ∨ ¬scanGrantReady s = true) : exec .scanClaimGrant s = .next s := by
  simp only [exec, execScanClaimGrant]
  split
  · next hc =>
    refine stepWhen_not _ _ ?_
    rcases h with h | h
    · rw [nextChunk_of_no_context h] at hc; cases hc
    · simpa using h
  · rfl

theorem exec_forcedClaimGrant_not (h : s.scan.context = none ∨ ¬forcedGrantReady s = true) : exec .forcedClaimGrant s = .next s := by
  simp only [exec, execForcedClaimGrant]
  split
  · next hc =>
    refine stepWhen_not _ _ ?_
    rcases h with h | h
    · rw [nextChunk_of_no_context h] at hc; cases hc
    · simpa using h
  · rfl

/-- The next chunk's address is the region's first byte plus the cursor (R135). -/
theorem nextChunk_addr {c : JobContext} (h : s.scan.context = some c) : ∃ a, nextChunk s = some a ∧ addrOf a = chunkAddr s c := by
  refine ⟨(s.table.active.get c.region).lo + c.cursor, by rw [nextChunk, h]; rfl, ?_⟩
  rw [addrOf, chunkAddr, Entry.lo, Nat.mul_comm]

end

/-- Settles O31: each grant comes about under its conditions, and does nothing where one of them fails. -/
theorem claimsGrantedOrKeptWaiting : Obligations.ClaimsGrantedOrKeptWaiting := by
  intro s granted
  refine ⟨fun hp hm => ?_, fun hbusy => ?_, fun hforced => ⟨?_, ?_⟩, fun hno => ?_, fun hq => exec_hostClaimGrant_not (.inl hq),
    fun hno => ?_, fun hno => ?_⟩
  · have free : channelFree s = true := (channelFree_iff s).2 ⟨hp, hm⟩
    refine ⟨fun tag rest hq hread hforced => ?_, fun c g hc he hw hforced hg hmet => ?_, fun c hc he hforced hnone => ?_⟩
    · simp only [exec, execHostClaimGrant, hq]
      rw [stepWhen_taken hp.1 ((hostGrantReady_iff s).2 ⟨free, hread, hforced⟩)]
    · obtain ⟨a, hnext, haddr⟩ := nextChunk_addr hc
      simp only [exec, execScanClaimGrant, hnext]
      rw [stepWhen_taken hp.1 ((scanGrantReady_iff s).2 ⟨free, he, hw, hforced, g, hg, hmet⟩), grantChunk, haddr]
    · obtain ⟨a, hnext, haddr⟩ := nextChunk_addr hc
      simp only [exec, execForcedClaimGrant, hnext]
      rw [stepWhen_taken hp.1 ((forcedGrantReady_iff s).2 ⟨free, he, hforced, hnone⟩), grantChunk, haddr]
  · rcases hbusy with hm | ⟨r, hr⟩
    · have notFree : ¬channelFree s = true := fun h => hm ((channelFree_iff s).1 h).2
      exact ⟨exec_hostClaimGrant_not (.inr fun h => notFree ((hostGrantReady_iff s).1 h).1),
        exec_scanClaimGrant_not (.inr fun h => notFree ((scanGrantReady_iff s).1 h).1),
        exec_forcedClaimGrant_not (.inr fun h => notFree ((forcedGrantReady_iff s).1 h).1)⟩
    · have notWaiting : s.scan.engine ≠ .waitingGap := by rw [hr]; nofun
      exact ⟨exec_hostClaimGrant_not (.inr fun h => ((hostGrantReady_iff s).1 h).2.1 r hr),
        exec_scanClaimGrant_not (.inr fun h => notWaiting ((scanGrantReady_iff s).1 h).2.1),
        exec_forcedClaimGrant_not (.inr fun h => notWaiting ((forcedGrantReady_iff s).1 h).2.1)⟩
  · refine exec_hostClaimGrant_not (.inr fun h => ?_)
    obtain ⟨-, -, hnot⟩ := (hostGrantReady_iff s).1 h
    rw [hforced] at hnot; cases hnot
  · refine exec_scanClaimGrant_not (.inr fun h => ?_)
    obtain ⟨-, -, -, hnot, -⟩ := (scanGrantReady_iff s).1 h
    rw [hforced] at hnot; cases hnot
  · refine exec_forcedClaimGrant_not (.inr fun h => ?_)
    obtain ⟨-, -, hforced, hnone⟩ := (forcedGrantReady_iff s).1 h
    rcases hno with hno | ⟨x, hx, hphase⟩
    · rw [hforced] at hno; cases hno
    · exact hnone x hx hphase
  · refine exec_scanClaimGrant_not (.inr fun h => ?_)
    obtain ⟨-, -, hw, -, g, hg, hmet⟩ := (scanGrantReady_iff s).1 h
    rcases hno with hnone | ⟨g', hg', hlt⟩ | hwith
    · rw [hg] at hnone; cases hnone
    · rw [hg] at hg'; cases hg'; omega
    · rw [hw] at hwith; cases hwith
  · rcases hno with he | hc
    · exact ⟨exec_scanClaimGrant_not (.inr fun h => he ((scanGrantReady_iff s).1 h).2.1),
        exec_forcedClaimGrant_not (.inr fun h => he ((forcedGrantReady_iff s).1 h).2.1)⟩
    · exact ⟨exec_scanClaimGrant_not (.inl hc), exec_forcedClaimGrant_not (.inl hc)⟩

/-! ## The scan timers and the idle gap -/

/-- The regions that join a round (R133), in the words of the statement. -/
theorem joinsRound_eq (s : State) (i : Ix) : joinsRound s i = ((s.scan.queue.jobOf i).isNone &&
    (match s.sig.life.get i with
      | some (.intact _) => true
      | _ => false)) := by
  unfold joinsRound
  cases s.sig.life.get i with
  | none => simp
  | some life => cases life <;> simp

theorem enqueueRound_none {s : State} (h : allIx.filter (joinsRound s) = []) :
    enqueueRound s = { s with scan := { s.scan with roundTimer := some (startedRound s) } } := by
  unfold enqueueRound
  rw [h]
  rfl

theorem enqueueRound_jobs {s : State} (h : allIx.filter (joinsRound s) ≠ []) :
    enqueueRound s = { s with scan := { s.scan with
      queue := { s.scan.queue with round := s.scan.queue.round ++ allIx.filter (joinsRound s) }
      roundCount := s.scan.roundCount + 1, roundTimer := none } } := by
  unfold enqueueRound
  split
  · next hnone => exact absurd hnone h
  · rfl

theorem startRound_none {s : State} (h : allIx.filter (joinsRound s) = []) : startRound s = enqueueRound s := by
  unfold startRound
  rw [h]

theorem startRound_jobs {s : State} (h : allIx.filter (joinsRound s) ≠ []) : startRound s = settle (enqueueRound s) := by
  unfold startRound
  split
  · next hnone => exact absurd hnone h
  · rfl

theorem timerDue_iff (t : Option Timer) : timerDue t = true ↔ ∃ timer, t = some timer ∧ timer.limit ≤ timer.elapsed := by
  unfold timerDue
  cases t <;> simp [Timer.due]

theorem gapCounts_iff (s : State) :
    gapCounts s = true ↔ PinsReleased s ∧ s.fwd.queue = [] ∧ ∀ x ∈ s.tracker.txns, x.phase ≠ .forwarded := by
  simp [gapCounts, portsHeld, outstanding_eq_zero_iff, and_comm (a := s.pins.prst = false), and_assoc]

/-- A job that joins meets a round exactly where the engine is IDLE and the round timer has run its length (R133). -/
theorem meetRound_not_due {s : State}
    (h : ¬(s.scan.engine = .idle ∧ ∃ timer, s.scan.roundTimer = some timer ∧ timer.limit ≤ timer.elapsed)) : meetRound s = s :=
  if_neg (by simpa only [Bool.and_eq_true, beq_iff_eq, timerDue_iff] using h)

/-- The free value is drawn, and says whether the round is enqueued (log entry 26). -/
theorem meetRound_due {s : State}
    (h : s.scan.engine = .idle ∧ ∃ timer, s.scan.roundTimer = some timer ∧ timer.limit ≤ timer.elapsed) :
    meetRound s =
      if Config.roundFirst s.scan.ties = true then enqueueRound { s with scan := { s.scan with ties := s.scan.ties + 1 } }
      else { s with scan := { s.scan with ties := s.scan.ties + 1 } } :=
  if_pos (by simpa only [Bool.and_eq_true, beq_iff_eq, timerDue_iff] using h)

theorem gapHold_some {s : State} {g : IdleGap} (h : s.fwd.idleGap = some g) : gapHold s = g.hold := by rw [gapHold, h]

theorem gapHold_none {s : State} (h : s.fwd.idleGap = none) : gapHold s = s.mgmt.timing.idleHold.toNat := by rw [gapHold, h]

/-- Settles O40: each timer acts while it runs, and a round that is due meets a joining job as the free value says. -/
theorem timersExpire : Obligations.TimersExpire := by
  intro s hp
  have jobs_eq : (allIx.filter fun i => (s.scan.queue.jobOf i).isNone &&
      (match s.sig.life.get i with
        | some (.intact _) => true
        | _ => false)) = allIx.filter (joinsRound s) :=
    congrArg (fun p => allIx.filter p) (funext fun i => (joinsRound_eq s i).symm)
  refine ⟨fun timer ht => ?_, fun ht => ?_, fun timer ht => ?_, fun ht => ?_, ?_, fun hprst hq hnone => ?_, fun hbusy => ?_⟩
  · exact stepWhen_taken hp (by rw [ht]; rfl)
  · exact stepWhen_not _ _ (by rw [ht]; rfl)
  · have expires : exec .roundTimerExpiry s = .next (startRound s) := stepWhen_taken hp (by rw [ht]; rfl)
    intro jobs
    have joining : jobs = allIx.filter (joinsRound s) := jobs_eq
    clear_value jobs
    subst joining
    rw [expires]
    exact ⟨fun hjobs => by rw [startRound_jobs hjobs, enqueueRound_jobs hjobs],
      fun hjobs => by rw [startRound_none hjobs, enqueueRound_none hjobs]⟩
  · exact stepWhen_not _ _ (by rw [ht]; rfl)
  · intro due jobs drawn
    have joining : jobs = allIx.filter (joinsRound s) := jobs_eq
    clear_value jobs
    subst joining
    refine ⟨meetRound_not_due, fun hdue hjobs => ?_, fun hdue hjobs => ?_⟩
    · rw [meetRound_due hdue, enqueueRound_jobs (s := drawn) hjobs]
      rfl
    · rw [meetRound_due hdue, enqueueRound_none (s := drawn) hjobs]
      rfl
  · have met : exec .idleGapMet s = .next { s with fwd := { s.fwd with idleGap := some { hold := gapHold s, count := gapHold s } } } :=
      stepWhen_taken hp ((gapCounts_iff s).2 ⟨⟨hp, hprst⟩, hq, hnone⟩)
    refine ⟨fun g hg => ?_, fun hg => ?_⟩
    · rw [met, gapHold_some hg]
    · rw [met, gapHold_none hg]
  · refine stepWhen_not _ _ (Bool.eq_false_iff.2 fun counts => ?_)
    obtain ⟨-, hq, hnone⟩ := (gapCounts_iff s).1 counts
    rcases hbusy with hbusy | ⟨x, hx, hphase⟩
    · exact hbusy hq
    · exact hnone x hx hphase

/-! ## One clock cycle -/

/-- A step whose conditions do not hold changes nothing in a cycle either. -/
theorem taken_of_not {due : Bool} {meaning : State → Host.Outcome State Fault Refusal} {s : State} (h : meaning s = .next s) :
    taken due meaning s = s := by
  unfold taken
  split
  · rw [h]; rfl
  · rfl

theorem stepWhen_self (ready : Bool) (s : State) : stepWhen ready s s = .next s := by
  unfold stepWhen
  split <;> rfl

/-- With no drain to end, the cycle ends none. -/
theorem endDrains_none {s : State} (hd : s.commit.draining = none)
    (hw : ∀ i, s.sig.life.get i ≠ some (.signing (.drainingWrites 0))) : endDrains s = s := by
  have regions : allIx.filter (drainedRegion s) = [] := List.filter_eq_nil_iff.2 fun i _ => by simpa [drainedRegion] using hw i
  have writes : taken true execWriteDrainDone s = s := by
    have none_drained : finishWriteDrains s = s := by rw [finishWriteDrains, regions]
    refine taken_of_not ?_
    rw [execWriteDrainDone, none_drained]
    exact stepWhen_self _ s
  rw [endDrains, writes, taken, execDrainComplete, hd]
  rfl

/-- With no timer running, none expires. -/
theorem expireTimers_none {s : State} (hd : s.commit.draining = none) (hs : s.scan.starvation = none)
    (hr : s.scan.roundTimer = none) : expireTimers s = s := by
  have notDue {due : Option Timer} (meaning : State → Host.Outcome State Fault Refusal) (h : due = none) :
      taken (timerDue due) meaning s = s := by rw [h]; rfl
  simp only [expireTimers]
  rw [notDue _ (by rw [drainTimer, hd]; rfl), notDue _ hs, notDue _ hr]

/-- With no host claim and the engine off, the arbiter grants nothing. -/
theorem grantClaims_none {s : State} (hq : s.fwd.queue = []) (he : s.scan.engine = .off) : grantClaims s = s := by
  have notWaiting : s.scan.engine ≠ .waitingGap := by rw [he]; nofun
  have host : execHostClaimGrant s = .next s := exec_hostClaimGrant_not (.inl hq)
  have forced : execForcedClaimGrant s = .next s :=
    exec_forcedClaimGrant_not (.inr fun h => notWaiting ((forcedGrantReady_iff s).1 h).2.1)
  have scan : execScanClaimGrant s = .next s :=
    exec_scanClaimGrant_not (.inr fun h => notWaiting ((scanGrantReady_iff s).1 h).2.1)
  rw [grantClaims, taken_of_not host, taken_of_not forced, taken_of_not scan]

/-- With no timer running, the cycle moves the idle-gap count alone. -/
theorem advance_no_timers {s : State} (hd : s.commit.draining = none) (hs : s.scan.starvation = none)
    (hr : s.scan.roundTimer = none) : advance s = { s with fwd := { s.fwd with idleGap := tickGap s } } := by
  have starvation : s.scan.starvation.map Timer.tick = s.scan.starvation := by rw [hs]; rfl
  have roundTimer : s.scan.roundTimer.map Timer.tick = s.scan.roundTimer := by rw [hr]; rfl
  have draining : (s.commit.draining.map fun d => { d with timer := d.timer.tick }) = s.commit.draining := by rw [hd]; rfl
  rw [advance, starvation, roundTimer, draining]

theorem tickGap_counts {s : State} (h : gapCounts s = true) : tickGap s =
    match s.fwd.idleGap with
    | some g => some { hold := g.hold, count := min g.hold (g.count + 1) }
    | none => some { hold := s.mgmt.timing.idleHold.toNat, count := min s.mgmt.timing.idleHold.toNat 1 } := by
  rw [tickGap, if_pos h]
  cases hg : s.fwd.idleGap with
  | none => rw [gapHold_none hg]; rfl
  | some g => rw [gapHold_some hg]; rfl

theorem step_empty {s : State} (h : s.pending = []) : step s = .next (cycle s) := by rw [step, h]

theorem cycle_released {s : State} (hp : s.pins.por = false) :
    cycle s = grantClaims (advance (expireTimers (endDrains s))) := if_neg (by simp [hp])

/-- Settles O2: an empty queue is one cycle, and where nothing is due each of its parts but the idle-gap count does nothing. -/
theorem emptyQueueIsOneCycle : Obligations.EmptyQueueIsOneCycle := by
  intro s hempty
  rw [step_empty hempty]
  refine ⟨fun hpor => ?_, fun hpor => ?_, fun hp hd hq _ hnone hw he hs hr _ => ?_⟩
  · rw [cycle, if_pos hpor]
  · rw [cycle_released hpor]
  · have counts : gapCounts s = true := (gapCounts_iff s).2 ⟨hp, hq, hnone⟩
    have grants : grantClaims { s with fwd := { s.fwd with idleGap := tickGap s } } =
        { s with fwd := { s.fwd with idleGap := tickGap s } } := grantClaims_none hq he
    rw [cycle_released hp.1, endDrains_none hd hw, expireTimers_none hd hs hr, advance_no_timers hd hs hr, grants]
    exact congrArg (fun gap => Host.Outcome.next { s with fwd := { s.fwd with idleGap := gap } }) (tickGap_counts counts)

end Sys2Proof.Machine

/-! What life states and the counts of writes in flight depend on: the operations between a verdict and the end of a command neither
change the active copy, nor open a region or take its being OPEN away, nor make a region await writes (`Calm`); the others at least
make none await writes that did not await as many before (`Eased`). -/

namespace Sys2Proof.Machine

/-! ## Regions that await writes -/

/-- A region is in DRAINING_WRITES and awaits a number of writes (R110). -/
def State.Awaits (s : State) (i : Ix) (n : Nat) : Prop := s.sig.life.get i = some (.signing (.drainingWrites n))

/-- The active copy is the same, and a region that awaits writes awaited as many before. -/
structure Eased (s t : State) : Prop where
  active : t.table.active = s.table.active
  awaits : ∀ i n, t.Awaits i n → s.Awaits i n

/-- Eased, and the same regions are OPEN. -/
structure Calm (s t : State) : Prop extends Eased s t where
  opened : ∀ i, t.sig.life.get i = some .opened ↔ s.sig.life.get i = some .opened

theorem Eased.trans {s t u : State} (h : Eased s t) (h' : Eased t u) : Eased s u :=
  ⟨h'.active.trans h.active, fun i n hu => h.awaits i n (h'.awaits i n hu)⟩

theorem Calm.trans {s t u : State} (h : Calm s t) (h' : Calm t u) : Calm s u :=
  ⟨h.toEased.trans h'.toEased, fun i => (h'.opened i).trans (h.opened i)⟩

theorem Calm.of_same {s t : State} (ha : t.table.active = s.table.active) (hs : t.sig.life = s.sig.life) : Calm s t :=
  ⟨⟨ha, fun i n h => by rwa [State.Awaits, hs] at h⟩, fun i => by rw [hs]⟩

theorem Calm.refl (s : State) : Calm s s := .of_same rfl rfl

theorem Eased.refl (s : State) : Eased s s := (Calm.refl s).toEased

/-- The Scan Engine's own state is not looked at. -/
theorem Calm.scan (s : State) (e : ScanEngine) : Calm s { s with scan := e } := .of_same rfl rfl

/-- A life state that awaits no writes is given to a region. -/
theorem setLife_eased (s : State) (i : Ix) {l : Life} (hl : ∀ n, l ≠ .signing (.drainingWrites n)) : Eased s (setLife s i (some l)) := by
  refine ⟨rfl, fun j n h => ?_⟩
  simp only [State.Awaits, setLife_life, Tab.get_set] at h
  split at h
  · cases h; exact absurd rfl (hl n)
  · exact h

/-- A region that is not OPEN and does not come to be OPEN is given a life state that awaits no writes. -/
theorem setLife_calm {s : State} {i : Ix} {l : Life} (ho : s.sig.life.get i ≠ some .opened) (hn : l ≠ .opened)
    (hl : ∀ n, l ≠ .signing (.drainingWrites n)) : Calm s (setLife s i (some l)) := by
  refine ⟨setLife_eased s i hl, fun j => ?_⟩
  by_cases hj : j = i
  · subst hj; simp [hn, ho]
  · simp [Tab.get_set_of_ne _ _ hj]

/-- Operations one after the other, each of them calm. -/
theorem foldl_calm {α : Type} {f : State → α → State} (h : ∀ s a, Calm s (f s a)) (l : List α) (s : State) : Calm s (l.foldl f s) :=
  foldl_keeps_prop (P := Calm s) (fun t a ht => ht.trans (h t a)) l (.refl s)

/-! ## The engine -/

theorem tellActive_calm (s : State) (i : Ix) (k : JobKind) : Calm s (tellActive s i k) := by
  unfold tellActive
  split
  · next hl => exact setLife_calm (by simp [hl]) nofun nofun
  · exact .refl s

theorem enterWaiting_calm (s : State) : Calm s (enterWaiting s) := .of_same (by simp) (by simp)

theorem takeHead_calm (s : State) : Calm s (takeHead s) := by
  unfold takeHead
  split
  · exact (Calm.scan s _).trans ((tellActive_calm ..).trans (enterWaiting_calm _))
  · exact .refl s

theorem settle_calm (s : State) : Calm s (settle s) := (takeHead_calm s).trans (.of_same (by simp [settle]) (by simp [settle]))

theorem meetRound_calm (s : State) : Calm s (meetRound s) := .of_same (by simp) (by simp)

theorem startRound_calm (s : State) : Calm s (startRound s) := by
  have enqueued : Calm s (enqueueRound s) := .of_same (by simp) (by simp)
  unfold startRound
  split
  · exact enqueued
  · exact enqueued.trans (settle_calm _)

/-! ## The write drain -/

theorem queueSign_eased (s : State) (i : Ix) : Eased s (queueSign s i) :=
  (setLife_eased s i (l := .signing .queued) nofun).trans (Calm.scan _ _).toEased

theorem requestSign_eased (s : State) (i : Ix) : Eased s (requestSign s i) := (queueSign_eased s i).trans (settle_calm _).toEased

theorem requestSign_calm {s : State} {i : Ix} (h : s.sig.life.get i ≠ some .opened) : Calm s (requestSign s i) := by
  have queued : Calm s (setLife s i (some (.signing .queued))) := setLife_calm h nofun nofun
  exact ⟨requestSign_eased s i, fun j => ((settle_calm _).opened j).trans (queued.opened j)⟩

/-- A region whose SIGN job is requested awaits no writes. -/
theorem requestSign_not_awaits (s : State) (i : Ix) (n : Nat) : ¬(requestSign s i).Awaits i n := fun h => by
  have queued : (queueSign s i).Awaits i n := (settle_calm _).awaits i n h
  simp [State.Awaits, queueSign] at queued

theorem foldl_requestSign_calm (regions : List Ix) {s : State} (h : ∀ i ∈ regions, s.sig.life.get i ≠ some .opened) :
    Calm s (regions.foldl requestSign s) := by
  induction regions generalizing s with
  | nil => exact .refl s
  | cons i rest ih =>
    rw [List.forall_mem_cons] at h
    have first := requestSign_calm h.1
    exact first.trans (ih fun j hj => fun ho => h.2 j hj ((first.opened j).1 ho))

theorem foldl_requestSign_not_awaits {regions : List Ix} {s : State} {i : Ix} (hi : i ∈ regions) (n : Nat) :
    ¬(regions.foldl requestSign s).Awaits i n := by
  induction regions generalizing s with
  | nil => cases hi
  | cons j rest ih =>
    by_cases hr : i ∈ rest
    · exact ih hr
    · rw [show i = j by simpa [hr] using hi]
      exact fun h => requestSign_not_awaits s j n
        ((foldl_keeps_prop (P := Eased (requestSign s j)) (fun t k ht => ht.trans (requestSign_eased t k)) rest (.refl _)).awaits j n h)

theorem drainedRegion_iff (s : State) (i : Ix) : i ∈ allIx.filter (drainedRegion s) ↔ s.Awaits i 0 := by
  simp [mem_allIx, drainedRegion, State.Awaits]

theorem finishWriteDrains_calm (s : State) : Calm s (finishWriteDrains s) := by
  unfold finishWriteDrains
  split
  · exact .refl s
  · refine (meetRound_calm s).trans (foldl_requestSign_calm _ fun i hi => ?_)
    have drained : s.sig.life.get i = some (.signing (.drainingWrites 0)) := (drainedRegion_iff s i).1 hi
    rw [meetRound_sig, drained]
    nofun

/-- After the end of the write drains no region awaits 0 writes (R116). -/
theorem finishWriteDrains_none (s : State) (i : Ix) : ¬(finishWriteDrains s).Awaits i 0 := by
  intro h
  have before := (drainedRegion_iff s i).2 ((finishWriteDrains_calm s).awaits i 0 h)
  unfold finishWriteDrains at h
  split at h
  · next hnone => rw [hnone] at before; cases before
  · exact foldl_requestSign_not_awaits before 0 h

/-! ## Commands between dirty additions, and the hand-off -/

/-- SOFT_CLEAR gives up SIGNING, and leaves the regions that are OPEN (R123). -/
theorem softClearState_calm (s : State) : Calm s (softClearState s) := by
  refine ⟨⟨rfl, fun i n h => ?_⟩, fun i => ?_⟩
  · simp only [State.Awaits, softClearState, Tab.get_ofFn, softClearLife] at h
    split at h
    · cases h
    · exact h
  · simp only [softClearState, Tab.get_ofFn, softClearLife]
    split <;> simp [*]

theorem takeBetween_calm (s : State) (c : DirtyCommand) : Calm s (takeBetween s c) := by
  have answer : ∀ {u : State} (n : Nat) (r : Response), Calm s u → Calm s (answered u n r) := fun _ _ h => h.trans (.of_same rfl rfl)
  cases c with
  | takeDirty count => exact answer 1 _ (by unfold doTakeDirty; split <;> exact .of_same rfl rfl)
  | clearDirty index => exact answer 1 _ (by unfold doClearDirty; split <;> exact .of_same rfl rfl)
  | dirtyStatus => exact answer 0 _ (.refl s)
  | setDirtyThreshold threshold => exact answer 1 _ (by unfold doSetDirtyThreshold; split <;> exact .of_same rfl rfl)
  | softClear =>
    refine answer 0 _ ?_
    unfold doSoftClear
    split
    · exact .refl s
    · exact softClearState_calm s

theorem addTracked_calm (s : State) (host : HostId) (b : Ix × Entry × Granule × Nat) : Calm s (addTracked s host b) :=
  .of_same (by simp) (by simp)

theorem handOff_calm (s : State) (r : Request) (beats : List WriteBeat) (between : List DirtyCommand) :
    Calm s (handOff s r beats between) := by
  have reported : Calm s (reportWindows s r (findings s r beats)) := .of_same (by simp) (by simp)
  unfold handOff addTrackedBlocks
  split
  · exact reported
  · exact reported.trans (addTracked_calm ..)
  · exact reported.trans ((addTracked_calm ..).trans ((foldl_calm takeBetween_calm _ _).trans
      (foldl_calm (fun t d => addTracked_calm t _ d) _ _)))

/-- No command between dirty additions changes tracked writes in flight (R106). -/
@[simp] theorem takeBetween_inFlight (s : State) (c : DirtyCommand) : (takeBetween s c).dirty.inFlight = s.dirty.inFlight := by
  cases c <;> simp only [takeBetween, commanded_eq, answered_dirty]
  · unfold doTakeDirty; split <;> rfl
  · unfold doClearDirty; split <;> rfl
  · unfold doSetDirtyThreshold; split <;> rfl
  · unfold doSoftClear; split <;> rfl

@[simp] theorem addTracked_inFlight (s : State) (host : HostId) (b : Ix × Entry × Granule × Nat) :
    (addTracked s host b).dirty.inFlight = s.dirty.inFlight := by
  rw [addTracked, addBlock_only]

@[simp] theorem handOff_inFlight (s : State) (r : Request) (beats : List WriteBeat) (between : List DirtyCommand) :
    (handOff s r beats between).dirty.inFlight = s.dirty.inFlight := by
  unfold handOff addTrackedBlocks
  split
  · simp
  · simp
  · refine (foldl_keeps (fun t => t.dirty.inFlight) _ (fun t b => addTracked_inFlight t r.id b) _ _).trans ?_
    refine (foldl_keeps (fun t => t.dirty.inFlight) _ takeBetween_inFlight _ _).trans ?_
    simp

end Sys2Proof.Machine

/-! What a verdict makes of the writes in flight: a write is in flight only if its cause set was empty, and then none of its strobed
bytes is shielded (R69, R70), and it counts among the tracked writes if it has a dirty block (R106). -/

namespace Sys2Proof.Machine

/-! ## Shielded bytes -/

/-- In a table free of overlap a byte belongs to the entry that covers it (R20, R22). -/
theorem regionAt_of_covers {table : Tab Entry} (h : NoOverlap table) {i : Ix} {a : Nat} (hc : (table.get i).covers a = true) :
    regionAt table a = some i := by
  refine (allIx_find_eq_some _ i).2 ⟨hc, fun j hj => ?_⟩
  by_cases hij : i = j
  · exact hij.le
  · rw [Entry.covers_iff] at hc hj
    obtain ⟨hei, hli, hhi⟩ := hc
    obtain ⟨hej, hlj, hhj⟩ := hj
    have apart := h i j hij
    simp only [overlaps, hei, hej, Bool.true_and, Bool.and_eq_false_iff, decide_eq_false_iff_not] at apart
    omega

/-- A write with an empty cause set has no strobed byte in a GUARD or unopened CHECKED region (R69, R70). -/
theorem unshielded_of_no_cause {s : State} {r : Request} {beats : List WriteBeat} (hr : r.beatsLegal = true)
    (hc : causeSet s r beats = []) : ∀ a, StrobedByte r (strobesOf beats) a → ¬ShieldedByte s a := by
  rintro a hstrobed ⟨i, hregion, hguard | ⟨hchecked, hlife⟩⟩
  · have cause : (i, Cause.guard) ∈ causeSet s r beats :=
      (mem_causeSet_iff_strobed hr fun p => pieceCause_guard_iff s r beats p i).2 ⟨⟨a, hstrobed, hregion⟩, hguard⟩
    rw [hc] at cause; cases cause
  · have cause : (i, Cause.checked) ∈ causeSet s r beats :=
      (mem_causeSet_iff_strobed hr fun p => pieceCause_checked_iff s r beats p i).2 ⟨⟨a, hstrobed, hregion⟩, hchecked, hlife⟩
    rw [hc] at cause; cases cause

theorem Calm.shieldedByte_iff {s t : State} (h : Calm s t) (a : Nat) : ShieldedByte t a ↔ ShieldedByte s a := by
  simp only [ShieldedByte, h.active, ne_eq, h.opened]

/-- A byte in the range of a region in SIGNING is shielded (R69, R109). -/
theorem shieldedByte_of_signing {s : State} (hn : NoOverlap s.table.active) (hl : LifeLegal s) {i : Ix} {sub : SubPhase}
    (hi : s.sig.life.get i = some (.signing sub)) {a : Nat} (hlo : (s.table.active.get i).lo ≤ a)
    (hhi : a < (s.table.active.get i).hi) : ShieldedByte s a := by
  have checked := hl i
  rw [hi, Option.isSome_some, eq_comm, Entry.isChecked, Bool.and_eq_true] at checked
  obtain ⟨henabled, hpart⟩ := checked
  have covers : (s.table.active.get i).covers a = true := by simp [Entry.covers, henabled, hlo, hhi]
  refine ⟨i, regionAt_of_covers hn covers, .inr ⟨?_, by simp [hi]⟩⟩
  split at hpart
  · next fc hfc => exact ⟨fc, hfc⟩
  all_goals cases hpart

/-! ## Writes in flight -/

/-- A write in flight, as the counts look at it (R66, R106). -/
structure Flight where
  req : Request
  strobes : List (BitVec 8)
  tracked : Bool

/-- Whether a write in flight is into an entry's range (R66). -/
def Flight.isInto (f : Flight) (e : Entry) : Bool := strobedWithin f.req f.strobes e.lo e.hi

/-- An entry's flight, where it is a write in flight. -/
def Txn.flight (x : Txn) : Option Flight := if x.inFlight then some ⟨x.req, x.strobes, x.tracked⟩ else none

/-- The writes in flight. -/
def flights (txns : List Txn) : List Flight := txns.filterMap Txn.flight

/-- A transaction that neither waits to be forwarded nor is forwarded is no write in flight. -/
theorem flight_of_not_forward {x : Txn} (hw : x.phase ≠ .waitingForward) (hf : x.phase ≠ .forwarded) : x.flight = none := by
  simp [Txn.flight, Txn.inFlight, Txn.isForward, hw, hf]

theorem flight_of_read {x : Txn} (h : x.req.dir = .read) : x.flight = none := by
  simp [Txn.flight, Txn.inFlight, h]

theorem flight_of_write {x : Txn} (hd : x.req.dir = .write) (hp : x.phase = .waitingForward ∨ x.phase = .forwarded) :
    x.flight = some ⟨x.req, x.strobes, x.tracked⟩ := by
  rcases hp with hp | hp <;> simp [Txn.flight, Txn.inFlight, Txn.isForward, hd, hp]

/-- If the entry is a write in flight, none of its strobed bytes is shielded (R70). -/
def Txn.Clear (x : Txn) (s : State) : Prop :=
  ∀ f, x.flight = some f → ∀ a, StrobedByte f.req f.strobes a → ¬ShieldedByte s a

theorem Txn.Clear.calm {x : Txn} {s t : State} (h : x.Clear s) (hc : Calm s t) : x.Clear t :=
  fun f hf a hstrobed hshielded => h f hf a hstrobed ((hc.shieldedByte_iff a).1 hshielded)

theorem flights_place (before : List Txn) (x : Txn) (after : List Txn) :
    flights (before ++ x :: after) = flights before ++ (x.flight.toList ++ flights after) := by
  cases h : x.flight <;> simp [flights, h]

theorem writesInto_eq (txns : List Txn) (e : Entry) : writesInto txns e = (flights txns).countP (·.isInto e) := by
  rw [flights, List.countP_filterMap, writesInto]
  congr 1
  funext x
  cases h : x.inFlight <;> simp [Txn.flight, Flight.isInto, Txn.isInto, h]

theorem countP_tracked_eq (txns : List Txn) : txns.countP (fun x => x.inFlight && x.tracked) = (flights txns).countP Flight.tracked := by
  rw [flights, List.countP_filterMap]
  congr 1
  funext x
  cases h : x.inFlight <;> simp [Txn.flight, h]

/-! ## The counts -/

/-- The counts of a state are those of a list of writes in flight (R106, R113). -/
structure Tallied (fs : List Flight) (s : State) : Prop where
  inFlight : s.dirty.inFlight = fs.countP Flight.tracked
  awaited : ∀ i n, s.Awaits i n → n = fs.countP (·.isInto (s.table.active.get i))

/-- The counts are those of a list of writes in flight, and no region awaits none (R116). -/
structure Counted (fs : List Flight) (s : State) : Prop extends Tallied fs s where
  some_awaited : ∀ i, ¬s.Awaits i 0

theorem writesCounted_iff (s : State) : WritesCounted s ↔ Counted (flights s.tracker.txns) s := by
  simp only [WritesCounted, countP_tracked_eq, writesInto_eq]
  constructor
  · rintro ⟨hflight, hawaits⟩
    exact ⟨⟨hflight, fun i n h => (hawaits i n h).2⟩, fun i h => absurd (hawaits i 0 h).1 (Nat.lt_irrefl 0)⟩
  · rintro ⟨⟨hflight, hawaits⟩, hsome⟩
    refine ⟨hflight, fun i n h => ⟨Nat.pos_of_ne_zero fun h0 => ?_, hawaits i n h⟩⟩
    subst h0; exact hsome i h

theorem Tallied.eased {fs : List Flight} {s t : State} (h : Tallied fs s) (he : Eased s t) (hf : t.dirty.inFlight = s.dirty.inFlight) :
    Tallied fs t :=
  ⟨hf.trans h.inFlight, fun i n hi => by rw [he.active]; exact h.awaited i n (he.awaits i n hi)⟩

theorem Counted.eased {fs : List Flight} {s t : State} (h : Counted fs s) (he : Eased s t) (hf : t.dirty.inFlight = s.dirty.inFlight) :
    Counted fs t :=
  ⟨h.toTallied.eased he hf, fun i hi => h.some_awaited i (he.awaits i 0 hi)⟩

/-! ## Verdicts -/

/-- What a verdict time leaves of a transaction, in its state `r.1` and its entry `r.2`: if that is now a write in flight, none of its
strobed bytes is shielded, and the count of tracked ones has gone up by it (R70, R106). -/
structure Reached (s : State) (r : State × Txn) : Prop where
  calm : Calm s r.1
  inFlight : r.1.dirty.inFlight = s.dirty.inFlight + r.2.flight.toList.countP Flight.tracked
  clear : r.2.Clear s

/-- A transaction that is not forwarded, or is a READ, changes no count. -/
theorem reached_of_no_flight {s t : State} {y : Txn} (hc : Calm s t) (hf : t.dirty.inFlight = s.dirty.inFlight)
    (hy : y.flight = none) : Reached s (t, y) where
  calm := hc
  inFlight := by simp [hy, hf]
  clear := by simp [Txn.Clear, hy]

theorem judgeMalformed_reached (s : State) (x : Txn) : Reached s (judgeMalformed s x) :=
  reached_of_no_flight (.of_same rfl rfl) rfl (flight_of_not_forward nofun nofun)

theorem judgeRead_reached (s : State) {x : Txn} (h : x.req.dir = .read) : Reached s (judgeRead s x) := by
  unfold judgeRead
  split
  · exact reached_of_no_flight (.of_same rfl rfl) rfl (flight_of_read h)
  · exact reached_of_no_flight (.of_same rfl rfl) rfl (flight_of_read h)

theorem countTracked_inFlight (s : State) (tracked : Bool) :
    (countTracked s tracked).dirty.inFlight = s.dirty.inFlight + if tracked then 1 else 0 := by
  cases tracked <;> rfl

theorem judgeWrite_reached (s : State) {x : Txn} (hr : x.req.beatsLegal = true) (hd : x.req.dir = .write) (beats : List WriteBeat)
    (between : List DirtyCommand) : Reached s (judgeWrite s x beats between) := by
  have counted : ∀ tracked, Calm s (countTracked (countWindows s (findings s x.req beats)) tracked) :=
    fun tracked => .of_same (by simp) (by simp)
  unfold judgeWrite
  dsimp only
  split
  · next hcause =>
    have flight := flight_of_write (x := { x with phase := .waitingForward, strobes := strobesOf beats
                                                  tracked := !(trackedBlocks s x.req beats).isEmpty }) hd (.inl rfl)
    refine ⟨(counted _).trans ((handOff_calm ..).trans (.of_same rfl rfl)), ?_, fun f hf => ?_⟩
    · dsimp only
      rw [flight, enqueue_dirty, handOff_inFlight, countTracked_inFlight, countWindows_dirty, Option.toList_some, List.countP_singleton]
    · obtain rfl : _ = f := Option.some.inj (flight.symm.trans hf)
      exact unshielded_of_no_cause hr hcause
  · exact reached_of_no_flight (.of_same (by simp) (by simp)) (by simp) (flight_of_not_forward nofun nofun)

theorem judge_reached (s : State) {x : Txn} (hr : x.req.beatsLegal = true) (between : List DirtyCommand) :
    Reached s (judge s x between) := by
  unfold judge
  split
  · exact judgeMalformed_reached s x
  · split
    · next hd => exact judgeRead_reached s hd
    · next hd => exact judgeWrite_reached s hr hd _ between

theorem verdictTime_reached (s : State) (earlier : List Txn) {x : Txn} (hr : x.req.beatsLegal = true) (between : List DirtyCommand) :
    Reached s (verdictTime s earlier x between) := by
  have held : ∀ why, Reached s (s, { x with phase := .held why }) := fun why =>
    reached_of_no_flight (.refl s) rfl (flight_of_not_forward nofun nofun)
  unfold verdictTime
  split
  · exact judge_reached s hr between
  · split
    · exact held .stream
    · split
      · exact held .range
      · exact judge_reached s hr between

/-- A write that comes to be in flight is into no range that awaits writes, and the counts go on as those of all of them. -/
theorem Reached.counted {s : State} {r : State × Txn} (h : Reached s r) (hn : NoOverlap s.table.active) (hl : LifeLegal s)
    {before after : List Flight} (hc : Counted (before ++ after) s) : Counted (before ++ (r.2.flight.toList ++ after)) r.1 where
  inFlight := by
    rw [h.inFlight, hc.inFlight]
    simp only [List.countP_append]
    omega
  awaited := fun i n hi => by
    have outside : r.2.flight.toList.countP (·.isInto (s.table.active.get i)) = 0 := by
      refine List.countP_eq_zero.2 fun f hf hinto => ?_
      obtain ⟨a, hstrobed, hlo, hhi⟩ := (strobedWithin_iff ..).1 hinto
      exact h.clear f (by simpa using hf) a hstrobed (shieldedByte_of_signing hn hl (h.calm.awaits i n hi) hlo hhi)
    rw [h.calm.active, hc.awaited i n (h.calm.awaits i n hi)]
    simp only [List.countP_append, outside]
    omega
  some_awaited := fun i hi => hc.some_awaited i (h.calm.awaits i 0 hi)

end Sys2Proof.Machine

/-! How the counts of writes in flight pass through the operations that carry traffic, switch entries, or let a region enter and leave
its write drain. -/

namespace Sys2Proof.Machine

theorem WritesCounted.eased {s t : State} (h : WritesCounted s) (hfl : flights t.tracker.txns = flights s.tracker.txns)
    (he : Eased s t) (hf : t.dirty.inFlight = s.dirty.inFlight) : WritesCounted t := by
  rw [writesCounted_iff, hfl]
  exact ((writesCounted_iff s).1 h).eased he hf

theorem WritesCounted.of_same {s t : State} (h : WritesCounted s) (hfl : flights t.tracker.txns = flights s.tracker.txns)
    (ha : t.table.active = s.table.active) (hl : t.sig.life = s.sig.life) (hf : t.dirty.inFlight = s.dirty.inFlight) : WritesCounted t :=
  h.eased hfl (Calm.of_same ha hl).toEased hf

/-! ## Entries in their places -/

/-- An entry replaced by one with the same flight. -/
theorem flights_putTxn {s : State} {before after : List Txn} {x y : Txn} (stands : Stands s before x after) (htag : y.tag = x.tag)
    (hy : y.flight = x.flight) : flights (putTxn s.tracker.txns y) = flights s.tracker.txns := by
  rw [stands_putTxn stands y htag, stands.1, flights_place, flights_place, hy]

theorem flights_freeTxn {s : State} {before after : List Txn} {x : Txn} (stands : Stands s before x after) :
    flights (freeTxn s.tracker.txns x.tag) = flights before ++ flights after := by
  rw [stands_freeTxn stands, flights, List.filterMap_append, flights, flights]

/-- An entry with no flight is freed. -/
theorem flights_freeTxn_of_none {s : State} {before after : List Txn} {x : Txn} (stands : Stands s before x after)
    (hx : x.flight = none) : flights (freeTxn s.tracker.txns x.tag) = flights s.tracker.txns := by
  rw [flights_freeTxn stands, stands.1, flights_place, hx]; rfl

/-! ## Verdicts -/

theorem acceptRequest_counted {s : State} (hn : NoOverlap s.table.active) (hl : LifeLegal s) (h : WritesCounted s) {r : Request}
    (hr : r.beatsLegal = true) : WritesCounted (acceptRequest s r) := by
  unfold acceptRequest
  dsimp only
  split
  · next hd =>
    have none : (newTxn s.tracker.nextTag r).flight = none := flight_of_not_forward (by simp [newTxn, hd]) (by simp [newTxn, hd])
    exact h.of_same (by simp [appendTxn, bumpTag, flights, none]) rfl rfl rfl
  · next hd =>
    obtain ⟨judged, -⟩ := verdictTime_judged (bumpTag s) s.tracker.txns (x := newTxn s.tracker.nextTag r)
      (.inl ⟨hd, by simp [newTxn, hd]⟩) []
    have reached := verdictTime_reached (bumpTag s) s.tracker.txns (x := newTxn s.tracker.nextTag r) hr []
    set v := verdictTime (bumpTag s) s.tracker.txns (newTxn s.tracker.nextTag r) [] with hv
    have bumped : Counted (flights s.tracker.txns ++ []) (bumpTag s) := by
      rw [List.append_nil]
      exact ((writesCounted_iff s).1 h).eased (Calm.of_same (s := s) (t := bumpTag s) rfl rfl).toEased rfl
    have counted := reached.counted hn hl bumped
    rw [writesCounted_iff, txns_of_lanes (afterVerdict_lanes _ _), appendTxn, judged.txns]
    exact (flights_place .. ▸ counted : Counted (flights (s.tracker.txns ++ [v.2])) v.1).eased
      (Calm.of_same (by simp) (by simp)).toEased (by simp)

theorem storeBeat_counted {s : State} (hn : NoOverlap s.table.active) (hl : LifeLegal s) (ht : TrackerLegal s.tracker)
    (h : WritesCounted s) {x : Txn} (hx : collectingTxn s.tracker.txns = some x) (offer : OfferedBeat) :
    WritesCounted (storeBeat s x offer) := by
  obtain ⟨⟨before, after, stands⟩, hmem⟩ := ht.find_stands hx
  have hphase : x.phase = .collecting := by simpa using List.find?_some hx
  have grounded : x.flight = none := flight_of_not_forward (by simp [hphase]) (by simp [hphase])
  by_cases hlast : x.req.beats ≤ x.beatsHeld.length + 1
  · have hdir := dir_of_collecting (ht.entry hmem).2 hphase
    obtain ⟨judged, -⟩ := verdictTime_judged s (acceptedBefore s.tracker.txns x) (x := x.filled offer.beat offer.between)
      (.inr ⟨hdir, _, rfl⟩) offer.between
    have reached := verdictTime_reached s (acceptedBefore s.tracker.txns x) (x := x.filled offer.beat offer.between)
      (ht.entry hmem).1 offer.between
    rw [storeBeat_last s hlast]
    set v := verdictTime s (acceptedBefore s.tracker.txns x) (x.filled offer.beat offer.between) offer.between with hv
    have counted := (writesCounted_iff s).1 h
    rw [stands.1, flights_place, grounded] at counted
    rw [writesCounted_iff, txns_of_lanes (afterVerdict_lanes _ _), setTxn_stands stands judged.txns judged.tag]
    exact (flights_place .. ▸ reached.counted hn hl counted : Counted (flights (before ++ v.2 :: after)) v.1).eased
      (Calm.of_same (by simp) (by simp)).toEased (by simp)
  · have hlt : (x.beatsHeld ++ [offer.beat]).length < x.req.beats := by simp; omega
    simp only [storeBeat, if_pos hlt]
    exact h.of_same (flights_putTxn stands rfl rfl) rfl rfl rfl

/-! ## The release of held transactions -/

theorem flight_of_held {x : Txn} (h : x.isHeld = true) : x.flight = none := by
  unfold Txn.isHeld at h
  split at h
  · next hp => exact flight_of_not_forward (by simp [hp]) (by simp [hp])
  all_goals cases h

theorem judge_active (s : State) (x : Txn) (between : List DirtyCommand) :
    (judge s x between).1.table.active = s.table.active := by simp

theorem releaseEach_counted (portFree : Bool) {todo : List Txn} (hr : ∀ x ∈ todo, x.req.beatsLegal = true) {s : State}
    (hn : NoOverlap s.table.active) (hl : LifeLegal s) (before : List Flight) (h : Counted (before ++ flights todo) s) :
    Counted (before ++ flights (releaseEach s portFree todo).2) (releaseEach s portFree todo).1 := by
  induction todo generalizing s before with
  | nil => exact h
  | cons x rest ih =>
    rw [List.forall_mem_cons] at hr
    have place : ∀ y : Txn, flights (y :: rest) = y.flight.toList ++ flights rest := fun y => flights_place [] y rest
    cases hx : x.isHeld with
    | true =>
      rw [place, flight_of_held hx] at h
      rw [releaseEach_cons_held s portFree hx]
      set judged := judge s { x with phase := .judging } (if portFree then x.between else []) with hj
      have reached : Reached s judged := judge_reached s (x := { x with phase := .judging }) hr.1 _
      have active : judged.1.table.active = s.table.active := judge_active ..
      have rest_counted := ih hr.2 (s := judged.1) (by rw [active]; exact hn) (lifeLegal_of_kept hl active (judge_living ..))
        (before ++ judged.2.flight.toList) (by simpa using reached.counted hn hl h)
      exact (flights_place [] judged.2 _ ▸ List.append_assoc .. ▸ rest_counted :)
    | false =>
      rw [place] at h
      rw [releaseEach_cons_notHeld s portFree hx]
      have rest_counted := ih hr.2 hn hl (before ++ x.flight.toList) (by simpa using h)
      exact (flights_place [] x _ ▸ List.append_assoc .. ▸ rest_counted :)

theorem releaseHeld_counted {s : State} (hn : NoOverlap s.table.active) (hl : LifeLegal s) (ht : TrackerLegal s.tracker)
    (h : WritesCounted s) (portFree : Bool) : WritesCounted (releaseHeld s portFree) := by
  have released := releaseEach_counted portFree (fun x hx => (ht.entry hx).1) hn hl [] ((writesCounted_iff s).1 h)
  rw [writesCounted_iff, releaseHeld_eq, txns_of_lanes (takeTurns_lanes _)]
  exact released.eased (Calm.of_same (by simp [State.withTxns]) (by simp [State.withTxns])).toEased (by simp [State.withTxns])

/-! ## The switch of entries, and the ends of a drain -/

theorem abandon_calm (s : State) (i : Ix) : Calm s (abandon s i) := by
  unfold abandon
  split
  · exact .of_same rfl rfl
  · exact .refl s

theorem switchJob_calm (s : State) (old : Tab Entry) (changed : IxSet) : Calm s (switchJob s old changed) := by
  unfold switchJob
  split
  · split
    · dsimp only
      split
      · exact (abandon_calm ..).trans (.of_same rfl rfl)
      · exact abandon_calm ..
    · exact .refl s
  · exact .refl s

/-- A switch takes a region whose identity changes out of SIGNING; at every other index the range stays (R37, R38). -/
theorem switchSet_counted {fs : List Flight} {s : State} (h : Counted fs s) (which : IxSet) : Counted fs (switchSet s which) := by
  have calm : ∀ u : State, Calm u (settle (switchJob u s.table.active (identityChanges s.table which))) := fun u =>
    (switchJob_calm ..).trans (settle_calm _)
  unfold switchSet
  dsimp only
  refine Counted.eased ?_ (calm _).toEased (by simp)
  have kept : ∀ i n, (switchLife (switchTable s.table which).active (identityChanges s.table which) s.sig.life).get i =
      some (.signing (.drainingWrites n)) →
      s.Awaits i n ∧ ∀ f : Flight, f.isInto ((switchTable s.table which).active.get i) = f.isInto (s.table.active.get i) := by
    intro i n hi
    simp only [switchLife, identityChanges, Tab.get_ofFn] at hi
    split at hi
    · split at hi <;> cases hi
    · next hsame =>
      refine ⟨hi, fun f => ?_⟩
      rw [switchTable_active, switchedTable_get]
      split
      · next hw =>
        simp only [hw, Bool.true_and, Bool.not_eq_true, identityChange, Bool.or_eq_false_iff, bne_eq_false_iff_eq] at hsame
        obtain ⟨⟨⟨-, -⟩, hbase⟩, hsize⟩ := hsame
        simp only [Flight.isInto, Entry.lo, Entry.hi, hbase, hsize]
      · rfl
  exact
    { inFlight := h.inFlight
      awaited := fun i n hi => by
        obtain ⟨before, into⟩ := kept i n hi
        dsimp only
        simp only [into]
        exact h.awaited i n before
      some_awaited := fun i hi => h.some_awaited i (kept i 0 hi).1 }

theorem switchSet_writesCounted {s : State} (h : WritesCounted s) (which : IxSet) : WritesCounted (switchSet s which) := by
  rw [writesCounted_iff, switchSet_tracker]
  exact switchSet_counted ((writesCounted_iff s).1 h) which

theorem closeDrain_counted {s : State} (h : WritesCounted s) : WritesCounted (closeDrain s) :=
  h.of_same (by simp) (by simp) (by simp) (by simp)

theorem completeDrain_counted {s : State} {d : Drain} (hn : NoOverlap (switchedTable s.table d.quiesce)) (hl : LifeLegal s)
    (ht : TrackerLegal s.tracker) (h : WritesCounted s) (portFree : Bool) : WritesCounted (completeDrain s d portFree) := by
  have closed : LifeLegal (closeDrain s) := lifeLegal_of_kept hl (by simp) (living_of_sig (closeDrain_sig s))
  have switched := switchSet_writesCounted (closeDrain_counted h) d.quiesce
  have ended : WritesCounted
      (endCommit (switchSet (closeDrain s) d.quiesce) .done (unionIx d.immediate d.quiesce) noIx) := switched.of_same rfl rfl rfl rfl
  refine releaseHeld_counted (by simpa using hn) ?_ (by simpa using ht) ended portFree
  exact lifeLegal_of_kept (lifeLegal_switchSet closed d.quiesce) rfl rfl

theorem cutDrain_counted {s : State} (h : WritesCounted s) (d : Drain) (o : LastOutcome) : WritesCounted (cutDrain s d o) :=
  h.of_same (by simp) (by simp) (by simp) (by simp)

theorem cutDrain_released_counted {s : State} (hn : NoOverlap s.table.active) (hl : LifeLegal s) (ht : TrackerLegal s.tracker)
    (h : WritesCounted s) (d : Drain) (o : LastOutcome) (portFree : Bool) : WritesCounted (releaseHeld (cutDrain s d o) portFree) :=
  releaseHeld_counted (by simpa using hn) (lifeLegal_cutDrain hl d o) (by simpa using ht) (cutDrain_counted h d o) portFree

theorem acceptCommit_counted {s : State} (hf : NoOverlap (finalTable s.table)) (hl : LifeLegal s) (ht : TrackerLegal s.tracker)
    (h : WritesCounted s) : WritesCounted (acceptCommit s) := by
  have switched := switchSet_writesCounted h (immediatePart s.table)
  have drains : WritesCounted (enterDraining (switchSet s (immediatePart s.table)) (newDrain s)) :=
    switched.of_same (by simp [enterDraining]) (by simp) (by simp [enterDraining]) (by simp [enterDraining])
  unfold acceptCommit
  dsimp only
  split
  · exact switched.of_same rfl rfl rfl rfl
  · split
    · refine completeDrain_counted ?_ ?_ (by simpa [enterDraining] using ht) drains false
      · rwa [enterDraining_table, switchSet_table, newDrain, switchedTable_immediate_quiesce]
      · exact lifeLegal_of_kept (lifeLegal_switchSet hl (immediatePart s.table)) (by simp) (living_of_sig (withholdClaim_sig _))
    · exact drains

theorem doCommit_counted {s : State} (hl : LifeLegal s) (ht : TrackerLegal s.tracker) (h : WritesCounted s) :
    WritesCounted (doCommit s).1 := by
  unfold doCommit
  split
  · exact h
  · split
    · exact h
    · split
      · exact h
      · exact h
      · next _ hf => exact acceptCommit_counted ((lowestOverlap_eq_none_iff _).1 hf) hl ht h

theorem doAbortCommit_counted {s : State} (hn : NoOverlap s.table.active) (hl : LifeLegal s) (ht : TrackerLegal s.tracker)
    (h : WritesCounted s) : WritesCounted (doAbortCommit s).1 := by
  unfold doAbortCommit
  split
  · exact h
  · exact cutDrain_released_counted hn hl ht h _ _ _

/-! ## Writes that stop being in flight -/

theorem lowerAwaited_awaits {s : State} {x : Txn} {i : Ix} {n : Nat} (h : (lowerAwaited s x).Awaits i n) :
    ∃ m, s.Awaits i m ∧ n = if x.isInto (s.table.active.get i) then m - 1 else m := by
  simp only [State.Awaits, lowerAwaited, Tab.get_ofFn] at h
  split at h
  · next m hm =>
    simp only [Option.some.injEq, Life.signing.injEq, SubPhase.drainingWrites.injEq] at h
    exact ⟨m, hm, h.symm⟩
  · next hnot => exact absurd h (hnot n)

/-- With the end of the write drains no region is left that awaits no write (R116). -/
theorem finishWriteDrains_counted {fs : List Flight} {s : State} (h : Tallied fs s) : Counted fs (finishWriteDrains s) :=
  ⟨h.eased (finishWriteDrains_calm s).toEased (by simp), finishWriteDrains_none s⟩

/-- A forwarded transaction lands: the counts are then those of the other writes in flight (R106, R115). -/
theorem landWrite_counted {s : State} {x : Txn} (hx : x.phase = .forwarded) {before after : List Flight}
    (h : Counted (before ++ (x.flight.toList ++ after)) s) : Counted (before ++ after) (landWrite s x) := by
  unfold landWrite
  split
  · next hd =>
    rw [flight_of_write hd (.inr hx)] at h
    refine finishWriteDrains_counted ⟨?_, fun i n hi => ?_⟩
    · have := h.inFlight
      cases hk : x.tracked <;> simp [List.countP_append, hk] at this ⊢ <;> omega
    · obtain ⟨m, hm, rfl⟩ := lowerAwaited_awaits hi
      have awaited := h.awaited i m hm
      have into : (⟨x.req, x.strobes, x.tracked⟩ : Flight).isInto (s.table.active.get i) = x.isInto (s.table.active.get i) := rfl
      cases hk : x.isInto (s.table.active.get i) <;> simp [List.countP_append, into, hk] at awaited ⊢ <;> omega
  · next hd =>
    have hread : x.req.dir = .read := by
      cases hr : x.req.dir with
      | read => rfl
      | write => exact absurd hr hd
    rw [flight_of_read hread] at h
    exact h

/-! ## Items of the memory, and local answers -/

theorem retire_txns (s : State) (x : Txn) : (retire s x).tracker.txns = freeTxn s.tracker.txns x.tag :=
  congrArg Lanes.txns (retire_lanes s x)

theorem retire_calm (s : State) (x : Txn) : Calm s (retire s x) := .of_same (by simp) (by simp)

theorem passItem_counted {s : State} (h : WritesCounted s) {before after : List Txn} {x : Txn} (stands : Stands s before x after)
    (hx : x.phase = .forwarded) (item : MemItem) : WritesCounted (passItem s x item) := by
  have same : (setHead (putHostItem (countError s x item) (passedItem item)) none).tracker = s.tracker := by simp
  have shown : WritesCounted (setHead (putHostItem (countError s x item) (passedItem item)) none) :=
    h.of_same (by rw [same]) (by simp) (by simp) (by simp)
  have stands' : Stands (setHead (putHostItem (countError s x item) (passedItem item)) none) before x after := by
    rw [Stands, same]; exact stands
  unfold passItem
  dsimp only
  split
  · exact shown.of_same (flights_putTxn stands' (y := { x with
      delivered := x.delivered + 1, errSeen := x.errSeen || itemStatus item == .err }) rfl rfl) rfl rfl rfl
  · have counted := (writesCounted_iff _).1 shown
    rw [stands'.1, flights_place] at counted
    have landed := landWrite_counted hx counted
    rw [writesCounted_iff, retire_txns, landWrite_tracker, flights_freeTxn stands']
    exact landed.eased (retire_calm ..).toEased (by simp)

theorem offerItem_counted {s : State} (ht : TrackerLegal s.tracker) (h : WritesCounted s) (item : MemItem) (ready : Bool) :
    WritesCounted (offerItem s item ready) := by
  unfold offerItem
  split
  · next x hx =>
    split
    · have lanes : (giveChannel (setHead s (some item))).lanes = s.lanes := giveChannel_lanes _
      have given : WritesCounted (giveChannel (setHead s (some item))) :=
        h.of_same (by rw [txns_of_lanes lanes]) (by simp) (by simp) (by simp)
      unfold presentItem
      dsimp only
      split
      · unfold itemOwner at hx
        split at hx
        · cases hx
        · obtain ⟨id, -, hfind⟩ := Option.bind_eq_some_iff.1 hx
          have hphase : x.phase = .forwarded := by
            have := List.find?_some hfind
            simp only [Bool.and_eq_true, beq_iff_eq] at this
            exact this.2
          rw [← txns_of_lanes lanes] at hfind
          obtain ⟨⟨before, after, stands⟩, -⟩ := (trackerLegal_of_lanes ht lanes).find_stands hfind
          exact passItem_counted given stands hphase item
      · exact given
    · exact h
  · split
    · exact h.of_same rfl rfl rfl rfl
    · exact h

theorem sendLocal_counted {s : State} (ht : TrackerLegal s.tracker) (h : WritesCounted s) (dir : Dir) (id : HostId) :
    WritesCounted (sendLocal s dir id) := by
  unfold sendLocal
  split
  · next x hx =>
    obtain ⟨⟨before, after, stands⟩, -⟩ := ht.find_stands hx
    split
    · next verdict status hphase =>
      have grounded : x.flight = none := flight_of_not_forward (by simp [hphase]) (by simp [hphase])
      split
      · refine h.of_same (flights_putTxn stands (y := { x with phase := .returning verdict status }) rfl ?_) rfl rfl rfl
        rw [grounded, flight_of_not_forward (x := { x with phase := .returning verdict status }) nofun nofun]
      · exact h
    all_goals exact h
  · exact h

theorem takeLocalItem_counted {s : State} (ht : TrackerLegal s.tracker) (h : WritesCounted s) {x : Txn} (hx : channelTxn s = some x)
    {verdict : LocalVerdict} {status : RespStatus} (hphase : x.phase = .returning verdict status) :
    WritesCounted (takeLocalItem s x status) := by
  obtain ⟨tag, -, hfind⟩ := Option.bind_eq_some_iff.1 hx
  obtain ⟨⟨before, after, stands⟩, -⟩ := ht.find_stands hfind
  have grounded : x.flight = none := flight_of_not_forward (by simp [hphase]) (by simp [hphase])
  unfold takeLocalItem
  dsimp only
  split
  · exact h.of_same (flights_putTxn stands (y := { x with delivered := x.delivered + 1 }) rfl rfl) rfl rfl rfl
  · refine h.of_same ?_ (by simp) (by simp) (by simp)
    rw [retire_txns]
    exact flights_freeTxn_of_none stands grounded

/-! ## Requests and beats the memory takes -/

/-- The presented host request is that of a transaction that waits to be forwarded (R54, R56). -/
theorem waiting_of_presented {s : State} (ht : TrackerLegal s.tracker) (hf : ForwarderLegal s) {tag : Nat} {x : Txn}
    (hm : s.fwd.memReq = some (.host tag)) (hx : findTxn s.tracker.txns tag = some x) : x.phase = .waitingForward := by
  obtain ⟨-, queued, -, -, -, -, presented, -⟩ := hf
  obtain ⟨-, -, htags, -⟩ := ht
  obtain ⟨rest, hq⟩ := List.head?_eq_some_iff.1 (presented tag hm)
  obtain ⟨y, hy, hytag, hwait⟩ := queued tag (by simp [hq])
  have hxtag : x.tag = tag := by simpa using List.find?_some hx
  rwa [List.inj_on_of_nodup_map htags (List.mem_of_find?_eq_some hx) hy (hxtag.trans hytag.symm)]

/-- A write that is taken by the memory stays in flight (R66). -/
theorem takeHostRequest_counted {s : State} (ht : TrackerLegal s.tracker) (h : WritesCounted s) {tag : Nat} {x : Txn}
    (hx : findTxn s.tracker.txns tag = some x) (hw : x.phase = .waitingForward) : WritesCounted (takeHostRequest s x) := by
  obtain ⟨⟨before, after, stands⟩, -⟩ := ht.find_stands hx
  refine h.of_same (flights_putTxn stands (y := forwardTxn x) rfl ?_) rfl rfl rfl
  simp [Txn.flight, Txn.inFlight, Txn.isForward, forwardTxn, hw]

theorem takeWriteBeat_counted {s : State} (ht : TrackerLegal s.tracker) (h : WritesCounted s) {x : Txn} {beats : List WriteBeat}
    {n : Nat} (hx : sendingTxn s = some (x, beats, n)) : WritesCounted (takeWriteBeat s x beats n) := by
  obtain ⟨⟨tag, hfind⟩, -⟩ := sendingTxn_eq_some hx
  obtain ⟨⟨before, after, stands⟩, -⟩ := ht.find_stands hfind
  unfold takeWriteBeat
  dsimp only
  split
  · exact h.of_same (flights_putTxn stands (y := { x with slot := some { state := .sending (n + 1), beats := beats } }) rfl rfl)
      rfl rfl rfl
  · exact h.of_same (flights_putTxn stands (y := { x with slot := none }) rfl rfl) rfl rfl rfl

/-! ## Write drains begin -/

/-- A region that enters its write drain awaits the writes in flight into its range, and none is left that awaits none (R113). -/
theorem startWriteDrain_counted {s : State} (h : WritesCounted s) (i : Ix) : WritesCounted (startWriteDrain s i) := by
  unfold startWriteDrain
  dsimp only
  split
  · exact h.eased (by simp) (requestSign_eased s i) (by simp)
  · next hsome =>
    have counted := (writesCounted_iff s).1 h
    refine (writesCounted_iff _).2 ⟨⟨counted.inFlight, fun j n hj => ?_⟩, fun j hj => ?_⟩
    all_goals
      simp only [State.Awaits, setLife_life, Tab.get_set] at hj
      split at hj
    · next hji =>
      subst hji
      simp only [Option.some.injEq, Life.signing.injEq, SubPhase.drainingWrites.injEq] at hj
      rw [← hj, writesInto_eq]
      rfl
    · exact counted.awaited j n hj
    · simp only [Option.some.injEq, Life.signing.injEq, SubPhase.drainingWrites.injEq] at hj
      exact hsome hj
    · exact counted.some_awaited j hj

theorem meetSigning_counted {s : State} (h : WritesCounted s) (i : Ix) : WritesCounted (meetSigning s i) :=
  h.of_same (by simp) (by simp) (by simp) (by simp)

theorem dropVerify_calm (s : State) (i : Ix) : Calm s (dropVerify s i) := by
  have dropped : Calm s (abandon (unqueue s i) i) := (Calm.scan s _).trans (abandon_calm ..)
  unfold dropVerify
  dsimp only
  split
  · exact dropped
  · exact dropped.trans (settle_calm _)

theorem resignAt_eased (s : State) (i : Ix) : Eased s (resignAt s i) :=
  (setLife_eased s i (l := .blank) nofun).trans (dropVerify_calm ..).toEased

/-! ## The ports' reset -/

/-- With the ports reset no write is in flight, and the regions that awaited some await none (R106, R124). -/
theorem portResetBlocks_counted (s : State) : Counted [] (portResetBlocks s) := by
  unfold portResetBlocks
  refine finishWriteDrains_counted (Tallied.eased ?_ (settle_calm _).toEased (by simp))
  refine ⟨rfl, fun i n h => ?_⟩
  simp only [State.Awaits, Tab.get_ofFn, portResetLife] at h
  split at h
  · cases h; rfl
  · next hnot => exact absurd h (hnot n)

end Sys2Proof.Machine

/-! Every command keeps the counts of writes in flight exact: those that carry no traffic and begin no write drain leave the counts as
they are, and what the others do to the writes in flight they do to the counts. -/

namespace Sys2Proof.Machine

/-! ## Commands that leave the counts alone -/

/-- The counts are left as they are: no region awaits writes that did not await as many before, and as many tracked writes are in
flight. -/
structure Uncounted (s t : State) : Prop where
  eased : Eased s t
  inFlight : t.dirty.inFlight = s.dirty.inFlight

theorem Uncounted.of_same {s t : State} (ha : t.table.active = s.table.active) (hl : t.sig.life = s.sig.life)
    (hf : t.dirty.inFlight = s.dirty.inFlight) : Uncounted s t :=
  ⟨(Calm.of_same ha hl).toEased, hf⟩

theorem Uncounted.refl (s : State) : Uncounted s s := .of_same rfl rfl rfl

theorem Uncounted.trans {s t u : State} (h : Uncounted s t) (h' : Uncounted t u) : Uncounted s u :=
  ⟨h.eased.trans h'.eased, h'.inFlight.trans h.inFlight⟩

theorem Uncounted.scan (s : State) (e : ScanEngine) : Uncounted s { s with scan := e } := .of_same rfl rfl rfl

theorem settle_uncounted (s : State) : Uncounted s (settle s) := ⟨(settle_calm s).toEased, by simp⟩

theorem setLife_uncounted (s : State) (i : Ix) {l : Life} (hl : ∀ n, l ≠ .signing (.drainingWrites n)) :
    Uncounted s (setLife s i (some l)) :=
  ⟨setLife_eased s i hl, rfl⟩

theorem takeBetween_uncounted (s : State) (c : DirtyCommand) : Uncounted s (takeBetween s c) := ⟨(takeBetween_calm s c).toEased, by simp⟩

theorem openAt_uncounted (s : State) (i : Ix) : Uncounted s (openAt s i) :=
  (setLife_uncounted s i (l := .opened) nofun).trans ((Uncounted.scan _ _).trans
    ((⟨(abandon_calm ..).toEased, by simp⟩ : Uncounted _ _).trans (settle_uncounted _)))

theorem verifyAt_uncounted (s : State) (i : Ix) : Uncounted s (verifyAt s i).1 := by
  have joins : ∀ t, Uncounted t (joinDemand t i) := fun t => (Uncounted.scan t _).trans (settle_uncounted _)
  unfold verifyAt
  split
  · exact .refl s
  · exact joins s
  · exact .refl s
  · exact .refl s
  · exact (Uncounted.of_same (by simp) (by simp) (by simp)).trans (joins (meetRound s))

theorem applySign_uncounted (s : State) (i : Ix) (c : BitVec 32) : Uncounted s (applySign s i c) := by
  unfold applySign
  split
  · exact (setLife_uncounted s i (l := .intact c) nofun).trans (.of_same rfl rfl rfl)
  · exact .refl s

theorem applyVerify_uncounted (s : State) (i : Ix) (demand : Bool) (c : BitVec 32) : Uncounted s (applyVerify s i demand c) := by
  have reported : ∀ u fail l, Uncounted u (reportVerify u i demand c fail l) :=
    fun u fail l => .of_same (by simp) (by simp) (by simp)
  have counted : ∀ r, Uncounted s (setResult (countVerify s i) i r) := fun r => .of_same rfl rfl rfl
  unfold applyVerify
  split
  · next ref _ =>
    split
    · exact (counted _).trans (reported _ _ _)
    · have corrupted : Uncounted s (setLife (countVerify s i) i (some (.corrupt ref))) :=
        (Uncounted.of_same (s := s) (t := countVerify s i) rfl rfl rfl).trans (setLife_uncounted _ i (l := .corrupt ref) nofun)
      refine corrupted.trans (Uncounted.trans ?_ (reported _ _ _))
      exact .of_same rfl rfl rfl
  · split
    · exact (counted _).trans (reported _ _ _)
    · exact (counted _).trans (reported _ _ _)
  all_goals exact .refl s

theorem applyResult_uncounted (s : State) (c : JobContext) : Uncounted s (applyResult s c) := by
  unfold applyResult
  dsimp only
  split
  · exact applySign_uncounted ..
  · exact applyVerify_uncounted ..
  · exact applyVerify_uncounted ..

theorem afterChunk_uncounted (s : State) (off : Bool) : Uncounted s (afterChunk s off) := .of_same (by simp) (by simp) (by simp)

theorem returnOk_uncounted (s : State) (c : JobContext) (beats : List (BitVec 64 × RespStatus)) (off : Bool) :
    Uncounted s (returnOk s c beats off) := by
  unfold returnOk
  dsimp only
  split
  · exact (Uncounted.scan s _).trans ((applyResult_uncounted _ _).trans ((Uncounted.scan _ _).trans (settle_uncounted _)))
  · exact (Uncounted.scan s _).trans (afterChunk_uncounted _ _)

theorem returnErr_uncounted (s : State) (c : JobContext) (a : Addr) (off : Bool) : Uncounted s (returnErr s c a off) := by
  unfold returnErr
  dsimp only
  split
  · refine Uncounted.trans ?_ (afterChunk_uncounted _ _)
    exact .of_same rfl rfl rfl
  · exact .of_same rfl rfl rfl

theorem returnChunk_uncounted (s : State) (r : ChunkRead) (beats : List (BitVec 64 × RespStatus)) :
    Uncounted s (returnChunk s r beats) := by
  unfold returnChunk
  split
  · split
    · exact returnOk_uncounted ..
    · exact returnErr_uncounted ..
  · exact (Uncounted.scan s _).trans (settle_uncounted _)

theorem enableEngine_uncounted (s : State) : Uncounted s (enableEngine s) := by
  unfold enableEngine
  split
  · exact (Uncounted.scan s _).trans (settle_uncounted _)
  · split <;> exact .of_same rfl rfl rfl
  all_goals exact .of_same rfl rfl rfl

/-- An outcome whose next state, if any, has the counts left as they are. -/
def KeepsCounts (s : State) (o : Host.Outcome State Fault Refusal) : Prop := ∀ t, o = .next t → Uncounted s t

theorem keepsCounts_next {s u : State} (h : Uncounted s u) : KeepsCounts s (.next u) := by
  rintro t ⟨⟩; exact h

theorem keepsCounts_stepWhen {s u : State} (ready : Bool) (h : Uncounted s u) : KeepsCounts s (stepWhen ready s u) :=
  fun _ ht => stepWhen_keeps (P := Uncounted s) ht (.refl s) fun _ _ => h

theorem keepsCounts_takeCommand {s : State} (n : Nat) {owner : State → State × Response} (h : Uncounted s (owner s).1) :
    KeepsCounts s (takeCommand n s owner) :=
  fun _ ht => takeCommand_keeps (P := Uncounted s) ht (.refl s) (h.trans (.of_same rfl rfl rfl))

theorem keepsCounts_lifeCommand {s : State} (index : Byte) {allowed : Life → Bool} {effect : State → Ix → State × List Byte}
    (h : ∀ i, Uncounted s (effect s i).1) : KeepsCounts s (takeCommand 1 s fun t => lifeCommand index t allowed (effect t)) :=
  keepsCounts_takeCommand 1 (lifeCommand_keeps (P := Uncounted s) (.refl s) fun i _ _ _ _ _ => h i)

/-- A command between dirty additions, given by itself. -/
theorem keepsCounts_between {s : State} (n : Nat) {owner : State → State × Response} (c : DirtyCommand)
    (h : takeBetween s c = commanded n s owner) : KeepsCounts s (takeCommand n s owner) :=
  fun _ ht => takeCommand_keeps (P := Uncounted s) ht (.refl s) (by
    have := takeBetween_uncounted s c
    rwa [h, commanded_eq] at this)

/-- The commands that begin a write drain. -/
def beginsWriteDrain : Instr → Bool
  | .closeRegion _ | .resign _ => true
  | _ => false

/-- Every command but those that carry traffic or begin a write drain leaves the counts as they are. -/
theorem exec_keepsCounts (c : Instr) (s : State) (hc : carries c = false) (hb : beginsWriteDrain c = false) :
    KeepsCounts s (exec c s) := by
  have status : ∀ n (r : State → Response), KeepsCounts s (takeCommand n s fun t => (t, r t)) := fun n r => keepsCounts_takeCommand n (.refl s)
  cases c with
  | powerOnReset | portResetAssert | hostRequestAccept | hostWriteBeat | hostClaimGrant | scanClaimGrant | forcedClaimGrant
  | memoryRequestTaken | memoryWriteBeatTaken | idleGapMet | memoryResponseItemPass | localAnswerSend | localAnswerItemTaken
  | drainTimerExpiry | drainComplete | commit | abortCommit => cases hc
  | closeRegion | resign => cases hb
  | powerOnResetRelease => exact keepsCounts_next (.of_same rfl rfl rfl)
  | portResetDeassert =>
    simp only [exec, execPortResetDeassert, resumeStarvation]
    split
    · exact keepsCounts_next (.refl s)
    · split
      · exact keepsCounts_next (.of_same rfl rfl rfl)
      · exact keepsCounts_next (by split <;> exact .of_same rfl rfl rfl)
  | memoryResponseDiscard item =>
    simp only [exec, execMemoryResponseDiscard]
    split
    · exact keepsCounts_next (.refl s)
    · exact keepsCounts_stepWhen _ (.of_same rfl rfl rfl)
  | chunkReadReturn data status =>
    simp only [exec, execChunkReadReturn]
    split
    · exact keepsCounts_stepWhen _ (returnChunk_uncounted ..)
    all_goals exact keepsCounts_stepWhen _ (.of_same rfl rfl rfl)
  | chunkReadBeat data status =>
    simp only [exec, execChunkReadBeat]
    split
    all_goals exact keepsCounts_stepWhen _ (.of_same rfl rfl rfl)
  | commandFrameRejected frame partByte =>
    simp only [exec, execCommandFrameRejected]
    split
    · exact keepsCounts_stepWhen _ (.of_same rfl rfl rfl)
    · exact keepsCounts_next (.refl s)
  | roundTimerExpiry => exact keepsCounts_stepWhen _ ⟨(startRound_calm s).toEased, by simp⟩
  | writeDrainDone => exact keepsCounts_stepWhen _ ⟨(finishWriteDrains_calm s).toEased, by simp⟩
  | starvationTimerExpiry | fetch | emptyFrame => exact keepsCounts_stepWhen _ (.of_same rfl rfl rfl)
  | stageEntry index raw =>
    refine keepsCounts_takeCommand 17 ?_
    unfold doStageEntry
    split
    · exact .refl s
    · split
      · exact .refl s
      · split <;> exact .of_same rfl rfl rfl
  | discard mask => exact keepsCounts_takeCommand 2 (by unfold doDiscard; split <;> exact .of_same rfl rfl rfl)
  | readEntry index selector => exact keepsCounts_takeCommand 2 (by rw [doReadEntry_state]; exact .refl s)
  | openRegion index => exact keepsCounts_lifeCommand index (openAt_uncounted s)
  | verify index => exact keepsCounts_lifeCommand index (verifyAt_uncounted s)
  | regionStatus index => exact keepsCounts_takeCommand 1 (by rw [doRegionStatus_state]; exact .refl s)
  | enable => exact keepsCounts_takeCommand 1 (enableEngine_uncounted s)
  | disable => exact keepsCounts_takeCommand 1 (by unfold disableEngine scanAction; split <;> exact .of_same rfl rfl rfl)
  | resume => exact keepsCounts_takeCommand 1 (by unfold doResume; split <;> exact .of_same rfl rfl rfl)
  | readEvent => exact keepsCounts_takeCommand 0 (by unfold doReadEvent; split <;> exact .of_same rfl rfl rfl)
  | clearFlags mask => exact keepsCounts_takeCommand 1 (by unfold doClearFlags; split <;> exact .of_same rfl rfl rfl)
  | setAlertMask mask => exact keepsCounts_takeCommand 1 (by unfold doSetAlertMask; split <;> exact .of_same rfl rfl rfl)
  | setTiming => exact keepsCounts_takeCommand 10 (by unfold doSetTiming; split <;> exact .of_same rfl rfl rfl)
  | takeDirty count => exact keepsCounts_between 1 (.takeDirty count) rfl
  | clearDirty index => exact keepsCounts_between 1 (.clearDirty index) rfl
  | setDirtyThreshold threshold => exact keepsCounts_between 1 (.setDirtyThreshold threshold) rfl
  | softClear => exact keepsCounts_between 0 .softClear rfl
  | roundsOn | roundsOff => exact keepsCounts_takeCommand 1 (.of_same rfl rfl rfl)
  | commitStatus | scanStatus | eventStatus | dirtyStatus | portStatus | identify => exact status 0 _

/-! ## Every command -/

theorem portResetCommit_counted (s : State) : WritesCounted (portResetCommit (portResetBlocks s)) := by
  have reset : WritesCounted (portResetBlocks s) := by
    rw [writesCounted_iff, show (portResetBlocks s).tracker.txns = [] by simp [portResetBlocks, portResetTracker]]
    exact portResetBlocks_counted s
  unfold portResetCommit
  split
  · exact cutDrain_counted reset _ _
  · exact reset

/-- The state of the traffic and of the table that the counts go by. -/
structure WritesSound (s : State) : Prop where
  table : TableLegal s
  life : LifeLegal s
  tracker : TrackerLegal s.tracker
  counted : WritesCounted s

theorem exec_counted_of_beginsWriteDrain {c : Instr} {s t : State} (hb : beginsWriteDrain c = true) (h : exec c s = .next t)
    (hs : WritesCounted s) : WritesCounted t := by
  have answered : ∀ {u : State} (n : Nat) (r : Response), WritesCounted u → WritesCounted (answered u n r) := fun _ _ hu => hu
  cases c with
  | closeRegion index =>
    exact takeCommand_keeps h hs (answered _ _ (lifeCommand_keeps hs fun i _ _ _ _ _ =>
      startWriteDrain_counted (meetSigning_counted hs i) i))
  | resign index =>
    refine takeCommand_keeps h hs (answered _ _ (lifeCommand_keeps hs fun i _ _ _ _ _ => ?_))
    have resigned : WritesCounted (resignAt (meetSigning s i) i) :=
      (meetSigning_counted hs i).eased (by simp [resignAt]) (resignAt_eased ..) (by simp [resignAt])
    exact startWriteDrain_counted (meetSigning_counted resigned i) i
  | _ => cases hb

theorem exec_counted_of_carries {c : Instr} {s t : State} (hc : carries c = true)
    (hf : c = .memoryRequestTaken → ForwarderLegal s) (h : exec c s = .next t) (hs : WritesSound s) : WritesCounted t := by
  obtain ⟨table, life, tracker, counted⟩ := hs
  have stepped : ∀ {ready : Bool} {u : State}, stepWhen ready s u = .next t → WritesCounted u → WritesCounted t :=
    fun h hu => stepWhen_keeps h counted fun _ _ => hu
  have stays : Host.Outcome.next (φ := Fault) (ρ := Refusal) s = .next t → WritesCounted t := by
    rintro ⟨⟩; exact counted
  have unseen : ∀ {u : State}, u.tracker = s.tracker → u.table = s.table → u.sig = s.sig → u.dirty = s.dirty → WritesCounted u :=
    fun htr hta hsi hdi => counted.of_same (by rw [htr]) (by rw [hta]) (by rw [hsi]) (by rw [hdi])
  cases c with
  | powerOnReset =>
    cases h
    exact (writesCounted_iff _).2 ⟨⟨rfl, fun i n hi => by simp [State.Awaits, State.reset, SignatureUnit.reset] at hi⟩,
      fun i hi => by simp [State.Awaits, State.reset, SignatureUnit.reset] at hi⟩
  | portResetAssert =>
    simp only [exec, execPortResetAssert] at h
    split at h
    · exact stays h
    · split at h
      · cases h; exact counted
      · cases h; exact portResetCommit_counted s
  | hostRequestAccept req =>
    simp only [exec, execHostRequestAccept] at h
    split at h
    · next hr => exact stepped h (acceptRequest_counted table.1 life counted hr)
    · cases h
  | hostWriteBeat offer =>
    simp only [exec, execHostWriteBeat] at h
    split at h
    · next hx => exact stepped h (storeBeat_counted table.1 life tracker counted hx offer)
    · exact stays h
  | hostClaimGrant =>
    simp only [exec, execHostClaimGrant] at h
    split at h
    · exact stepped h (unseen rfl rfl rfl rfl)
    · exact stays h
  | scanClaimGrant =>
    simp only [exec, execScanClaimGrant] at h
    split at h
    · exact stepped h (unseen rfl rfl rfl rfl)
    · exact stays h
  | forcedClaimGrant =>
    simp only [exec, execForcedClaimGrant] at h
    split at h
    · exact stepped h (unseen rfl rfl rfl rfl)
    · exact stays h
  | memoryRequestTaken =>
    simp only [exec, execMemoryRequestTaken] at h
    split at h
    · next hm =>
      split at h
      · next hx => exact stepped h (takeHostRequest_counted tracker counted hx (waiting_of_presented tracker (hf rfl) hm hx))
      · exact stays h
    · exact stepped h (unseen rfl rfl rfl rfl)
    · exact stays h
  | memoryWriteBeatTaken =>
    simp only [exec, execMemoryWriteBeatTaken] at h
    split at h
    · next hx => exact stepped h (takeWriteBeat_counted tracker counted hx)
    · exact stays h
  | idleGapMet => exact stepped h (unseen rfl rfl rfl rfl)
  | memoryResponseItemPass offer => exact stepped h (offerItem_counted tracker counted _ _)
  | localAnswerSend dir id head =>
    refine stepped h ?_
    cases head with
    | none => exact sendLocal_counted tracker counted dir id
    | some item =>
      exact sendLocal_counted (offerItem_trackerLegal tracker item false) (offerItem_counted tracker counted item false) dir id
  | localAnswerItemTaken =>
    simp only [exec, execLocalAnswerItemTaken] at h
    split at h
    · next hx =>
      split at h
      · next hphase => exact stepped h (takeLocalItem_counted tracker counted hx hphase)
      all_goals exact stays h
    · exact stays h
  | drainTimerExpiry =>
    simp only [exec, execDrainTimerExpiry] at h
    split at h
    · exact stepped h (cutDrain_released_counted table.1 life tracker counted _ _ _)
    · exact stays h
  | drainComplete =>
    simp only [exec, execDrainComplete] at h
    split at h
    · next d hd => exact stepped h (completeDrain_counted (table.2 d hd) life tracker counted _)
    · exact stays h
  | commit => exact takeCommand_keeps (P := WritesCounted) h counted (doCommit_counted life tracker counted)
  | abortCommit => exact takeCommand_keeps (P := WritesCounted) h counted (doAbortCommit_counted table.1 life tracker counted)
  | _ => cases hc

theorem exec_counted {c : Instr} {s t : State} (hf : c = .memoryRequestTaken → ForwarderLegal s) (h : exec c s = .next t)
    (hs : WritesSound s) : WritesCounted t := by
  cases hc : carries c with
  | true => exact exec_counted_of_carries hc hf h hs
  | false =>
    cases hb : beginsWriteDrain c with
    | true => exact exec_counted_of_beginsWriteDrain hb h hs.counted
    | false =>
      obtain ⟨eased, inFlight⟩ := exec_keepsCounts c s hc hb t h
      exact hs.counted.eased (by rw [txns_of_lanes (exec_keepsLanes c s hc t h)]) eased inFlight

theorem exec_tableLegal {c : Instr} {s t : State} (h : exec c s = .next t) (hs : TableLegal s) : TableLegal t :=
  (tableLegal_iff t).2 ((exec_reconfigured h).configLegal ((tableLegal_iff s).1 hs))

theorem exec_lifeLegal {c : Instr} {s t : State} (h : exec c s = .next t) (hs : LifeLegal s) : LifeLegal t := by
  cases hc : reconfigures c with
  | false =>
    obtain ⟨htable, -⟩ := exec_keepsConfig c s hc t h
    exact lifeLegal_of_kept hs (by rw [htable]) (exec_keepsLiving c s hc t h)
  | true => exact lifeLegal_reconfigures hc h hs

theorem exec_writesSound {c : Instr} {s t : State} (hf : c = .memoryRequestTaken → ForwarderLegal s) (h : exec c s = .next t)
    (hs : WritesSound s) : WritesSound t :=
  ⟨exec_tableLegal h hs.table, exec_lifeLegal h hs.life, exec_trackerLegal h hs.tracker, exec_counted hf h hs⟩

theorem advance_writesSound {s : State} (hs : WritesSound s) : WritesSound (advance s) where
  table := by
    rw [tableLegal_iff, advance_quiesced]
    exact (tableLegal_iff s).1 hs.table
  life := hs.life
  tracker := hs.tracker
  counted := hs.counted

/-! ## One clock cycle -/

/-- The commands that one clock cycle carries out by itself. -/
def clocked : Instr → Bool
  | .writeDrainDone | .drainComplete | .drainTimerExpiry | .starvationTimerExpiry | .roundTimerExpiry | .hostClaimGrant
  | .forcedClaimGrant | .scanClaimGrant => true
  | _ => false

/-- A clock cycle keeps a property that the commands it carries out keep, and the passing of time keeps. -/
theorem cycle_keeps_clocked {P : State → Prop} (hadv : ∀ s, P s → P (advance s))
    (hexec : ∀ c s t, clocked c = true → exec c s = .next t → P s → P t) {s : State} (hs : P s) : P (cycle s) := by
  have key : ∀ c, clocked c = true → ∀ (due : Bool) (u : State), P u → P (taken due (exec c) u) := by
    intro c hc due u hu
    unfold taken stepped
    split
    · split
      · next t ht => exact hexec c u t hc ht hu
      · exact hu
      · exact hu
    · exact hu
  have drains : P (endDrains s) := key .drainComplete rfl _ _ (key .writeDrainDone rfl _ _ hs)
  have timers : P (expireTimers (endDrains s)) :=
    key .roundTimerExpiry rfl _ _ (key .starvationTimerExpiry rfl _ _ (key .drainTimerExpiry rfl _ _ drains))
  unfold cycle
  split
  · exact hs
  · exact key .scanClaimGrant rfl _ _ (key .forcedClaimGrant rfl _ _ (key .hostClaimGrant rfl _ _ (hadv _ timers)))

/-! ## Settled -/

/-- Settles O18: the counts go with the writes in flight, command by command; only the transfer of a host request asks for a presented
request that agrees with the queue, and no cycle carries one out. -/
theorem writesStayCounted : Obligations.WritesStayCounted := by
  intro s t h table life tracker forwarder counted
  have sound : WritesSound s := ⟨table, life, tracker, counted⟩
  unfold step at h
  split at h
  · cases h
    have cycled : WritesSound (cycle s) := cycle_keeps_clocked (P := WritesSound) (fun _ => advance_writesSound)
      (fun c u v hc hx hu => exec_writesSound (fun he => by rw [he] at hc; cases hc) hx hu) sound
    exact cycled.counted
  · next c rest _ =>
    exact exec_counted (s := { s with pending := rest }) (fun _ => forwarder) h ⟨table, life, tracker, counted⟩

end Sys2Proof.Machine

/-! Which writes a step brings to WAITING_FORWARD: those that have their verdict in it, and after the verdict the step leaves the active
copy and the regions that are OPEN as they are. -/

namespace Sys2Proof.Machine

/-- Every entry that waits to be forwarded did so before, or has no shielded byte (R70). -/
def Forwards (s t : State) : Prop :=
  ∀ y ∈ t.tracker.txns, y.phase = .waitingForward → (∃ x ∈ s.tracker.txns, x.tag = y.tag ∧ x.phase = .waitingForward) ∨ y.Clear t

theorem forwards_of_subset {s t : State} (h : ∀ y ∈ t.tracker.txns, y ∈ s.tracker.txns) : Forwards s t :=
  fun y hy hw => .inl ⟨y, h y hy, rfl, hw⟩

theorem forwards_of_same {s t : State} (h : t.tracker.txns = s.tracker.txns) : Forwards s t :=
  forwards_of_subset fun _ hy => h ▸ hy

theorem Forwards.of_txns {s u t : State} (h : Forwards u t) (ht : u.tracker.txns = s.tracker.txns) : Forwards s t := by
  unfold Forwards
  rw [← ht]
  exact h

theorem Forwards.calm {s u t : State} (h : Forwards s u) (ht : t.tracker.txns = u.tracker.txns) (hc : Calm u t) : Forwards s t :=
  fun y hy hw => (h y (ht ▸ hy) hw).imp id fun clear => clear.calm hc

/-- One entry replaced by another that waits to be forwarded only if it did, or has no shielded byte. -/
theorem forwards_putTxn {s t : State} {y : Txn} (ht : t.tracker.txns = putTxn s.tracker.txns y)
    (hy : y.phase = .waitingForward → (∃ x ∈ s.tracker.txns, x.tag = y.tag ∧ x.phase = .waitingForward) ∨ y.Clear t) :
    Forwards s t := by
  intro z hz hw
  rw [ht, putTxn, List.mem_map] at hz
  obtain ⟨x, hx, hxz⟩ := hz
  split at hxz
  · subst hxz; exact hy hw
  · subst hxz; exact .inl ⟨x, hx, rfl, hw⟩

/-! ## Verdicts -/

theorem acceptRequest_forwards {s : State} {r : Request} (hr : r.beatsLegal = true) : Forwards s (acceptRequest s r) := by
  unfold acceptRequest
  dsimp only
  split
  · next hd =>
    intro y hy hw
    rcases List.mem_append.1 hy with hy | hy
    · exact .inl ⟨y, hy, rfl, hw⟩
    · rw [List.mem_singleton.1 hy] at hw
      simp [newTxn, hd] at hw
  · next hd =>
    obtain ⟨judged, -⟩ := verdictTime_judged (bumpTag s) s.tracker.txns (x := newTxn s.tracker.nextTag r)
      (.inl ⟨hd, by simp [newTxn, hd]⟩) []
    have reached := verdictTime_reached (bumpTag s) s.tracker.txns (x := newTxn s.tracker.nextTag r) hr []
    set v := verdictTime (bumpTag s) s.tracker.txns (newTxn s.tracker.nextTag r) [] with hv
    intro y hy hw
    rw [txns_of_lanes (afterVerdict_lanes _ _), appendTxn, judged.txns] at hy
    rcases List.mem_append.1 hy with hy | hy
    · exact .inl ⟨y, hy, rfl, hw⟩
    · rw [List.mem_singleton.1 hy]
      exact .inr ((reached.clear.calm reached.calm).calm (.of_same (by simp) (by simp)))

theorem storeBeat_forwards {s : State} (ht : TrackerLegal s.tracker) {x : Txn} (hx : collectingTxn s.tracker.txns = some x)
    (offer : OfferedBeat) : Forwards s (storeBeat s x offer) := by
  obtain ⟨-, hmem⟩ := ht.find_stands hx
  have hphase : x.phase = .collecting := by simpa using List.find?_some hx
  by_cases hlast : x.req.beats ≤ x.beatsHeld.length + 1
  · have hdir := dir_of_collecting (ht.entry hmem).2 hphase
    obtain ⟨judged, -⟩ := verdictTime_judged s (acceptedBefore s.tracker.txns x) (x := x.filled offer.beat offer.between)
      (.inr ⟨hdir, _, rfl⟩) offer.between
    have reached := verdictTime_reached s (acceptedBefore s.tracker.txns x) (x := x.filled offer.beat offer.between)
      (ht.entry hmem).1 offer.between
    rw [storeBeat_last s hlast]
    set v := verdictTime s (acceptedBefore s.tracker.txns x) (x.filled offer.beat offer.between) offer.between with hv
    refine forwards_putTxn (y := v.2) ?_ fun _ => .inr ((reached.clear.calm reached.calm).calm (.of_same (by simp) (by simp)))
    rw [txns_of_lanes (afterVerdict_lanes _ _), setTxn_txns, judged.txns]
  · have hlt : (x.beatsHeld ++ [offer.beat]).length < x.req.beats := by simp; omega
    simp only [storeBeat, if_pos hlt]
    exact forwards_putTxn (y := { x with slot := some { state := .filling, beats := x.beatsHeld ++ [offer.beat] } }) rfl
      fun hw => by rw [hphase] at hw; cases hw

/-! ## The release of held transactions -/

/-- A released write that is forwarded has no shielded byte, and the releases after it shield none (R32, R70). -/
theorem releaseEach_clear (portFree : Bool) {todo : List Txn} (hr : ∀ x ∈ todo, x.req.beatsLegal = true) (s : State) :
    Calm s (releaseEach s portFree todo).1 ∧
    ∀ y ∈ (releaseEach s portFree todo).2, y ∈ todo ∨ y.Clear (releaseEach s portFree todo).1 := by
  induction todo generalizing s with
  | nil => exact ⟨.refl s, nofun⟩
  | cons x rest ih =>
    rw [List.forall_mem_cons] at hr
    cases hx : x.isHeld with
    | true =>
      rw [releaseEach_cons_held s portFree hx]
      set judged := judge s { x with phase := .judging } (if portFree then x.between else []) with hj
      have reached : Reached s judged := judge_reached s (x := { x with phase := .judging }) hr.1 _
      obtain ⟨calm, clear⟩ := ih hr.2 judged.1
      refine ⟨reached.calm.trans calm, List.forall_mem_cons.2 ⟨.inr ((reached.clear.calm reached.calm).calm calm), fun y hy => ?_⟩⟩
      exact (clear y hy).imp_left (List.mem_cons_of_mem x)
    | false =>
      rw [releaseEach_cons_notHeld s portFree hx]
      obtain ⟨calm, clear⟩ := ih hr.2 s
      exact ⟨calm, List.forall_mem_cons.2 ⟨.inl List.mem_cons_self, fun y hy => (clear y hy).imp_left (List.mem_cons_of_mem x)⟩⟩

theorem releaseHeld_forwards {s : State} (ht : TrackerLegal s.tracker) (portFree : Bool) : Forwards s (releaseHeld s portFree) := by
  obtain ⟨-, clear⟩ := releaseEach_clear portFree (fun x hx => (ht.entry hx).1) s
  intro y hy hw
  rw [releaseHeld_eq, txns_of_lanes (takeTurns_lanes _)] at hy
  rcases clear y hy with hy | hy
  · exact .inl ⟨y, hy, rfl, hw⟩
  · refine .inr (hy.calm ?_)
    rw [releaseHeld_eq]
    exact .of_same (by simp [State.withTxns]) (by simp [State.withTxns])

theorem cutDrain_released_forwards {s : State} (ht : TrackerLegal s.tracker) (d : Drain) (o : LastOutcome) (portFree : Bool) :
    Forwards s (releaseHeld (cutDrain s d o) portFree) :=
  (releaseHeld_forwards (by simpa using ht) portFree).of_txns (by simp)

theorem completeDrain_forwards {s : State} (ht : TrackerLegal s.tracker) (d : Drain) (portFree : Bool) :
    Forwards s (completeDrain s d portFree) :=
  (releaseHeld_forwards (by simpa using ht) portFree).of_txns (by simp)

theorem doCommit_forwards {s : State} (ht : TrackerLegal s.tracker) : Forwards s (doCommit s).1 := by
  have same := forwards_of_same (rfl : s.tracker.txns = s.tracker.txns)
  unfold doCommit
  split
  · exact same
  · split
    · exact same
    · split
      · exact same
      · exact same
      · unfold acceptCommit
        dsimp only
        split
        · exact forwards_of_same (by simp)
        · split
          · exact (completeDrain_forwards (by simpa [enterDraining] using ht) _ _).of_txns (by simp [enterDraining])
          · exact forwards_of_same (by simp [enterDraining])

theorem doAbortCommit_forwards {s : State} (ht : TrackerLegal s.tracker) : Forwards s (doAbortCommit s).1 := by
  unfold doAbortCommit
  split
  · exact forwards_of_same rfl
  · exact cutDrain_released_forwards ht _ _ _

/-! ## Items and requests -/

theorem retire_forwards {s t : State} {x : Txn} (h : t.tracker.txns = s.tracker.txns) : Forwards s (retire t x) :=
  forwards_of_subset fun y hy => by
    rw [retire_txns, h] at hy
    exact List.mem_of_mem_filter hy

theorem passItem_forwards {s t : State} (ht : t.tracker.txns = s.tracker.txns) {x : Txn} (hx : x.phase = .forwarded) (item : MemItem) :
    Forwards s (passItem t x item) := by
  unfold passItem
  dsimp only
  split
  · exact forwards_putTxn (y := { x with delivered := x.delivered + 1, errSeen := x.errSeen || itemStatus item == .err })
      (by simp [ht]) fun hw => by rw [hx] at hw; cases hw
  · exact retire_forwards (by simp [ht])

theorem offerItem_forwards (s : State) (item : MemItem) (ready : Bool) : Forwards s (offerItem s item ready) := by
  unfold offerItem
  split
  · next x hx =>
    split
    · have txns : (giveChannel (setHead s (some item))).tracker.txns = s.tracker.txns := txns_of_lanes (giveChannel_lanes _)
      unfold presentItem
      dsimp only
      split
      · refine passItem_forwards txns ?_ item
        unfold itemOwner at hx
        split at hx
        · cases hx
        · obtain ⟨id, -, hfind⟩ := Option.bind_eq_some_iff.1 hx
          have hforwarded := List.find?_some hfind
          simp only [Bool.and_eq_true, beq_iff_eq] at hforwarded
          exact hforwarded.2
      · exact forwards_of_same txns
    · exact forwards_of_same rfl
  · split <;> exact forwards_of_same rfl

/-- A local answer that begins brings no transaction to WAITING_FORWARD. -/
theorem sendLocal_waiting (s : State) (dir : Dir) (id : HostId) :
    ∀ y ∈ (sendLocal s dir id).tracker.txns, y.phase = .waitingForward → y ∈ s.tracker.txns := by
  intro y hy hw
  unfold sendLocal at hy
  split at hy
  · split at hy
    · split at hy
      · obtain ⟨z, hz, hzy⟩ := List.mem_map.1 hy
        split at hzy
        · subst hzy; cases hw
        · subst hzy; exact hz
      · exact hy
    all_goals exact hy
  · exact hy

theorem sendLocal_forwards {s u : State} (h : Forwards s u) (dir : Dir) (id : HostId) : Forwards s (sendLocal u dir id) :=
  fun y hy hw => (h y (sendLocal_waiting u dir id y hy hw) hw).imp_right fun clear => clear.calm (.of_same (by simp) (by simp))

theorem takeLocalItem_forwards {s : State} {x : Txn} {verdict : LocalVerdict} {status : RespStatus}
    (hx : x.phase = .returning verdict status) : Forwards s (takeLocalItem s x status) := by
  unfold takeLocalItem
  dsimp only
  split
  · exact forwards_putTxn (y := { x with delivered := x.delivered + 1 }) rfl fun hw => by rw [hx] at hw; cases hw
  · exact retire_forwards rfl

theorem takeWriteBeat_forwards {s : State} (ht : TrackerLegal s.tracker) {x : Txn} {beats : List WriteBeat} {n : Nat}
    (hx : sendingTxn s = some (x, beats, n)) : Forwards s (takeWriteBeat s x beats n) := by
  obtain ⟨⟨tag, hfind⟩, hslot⟩ := sendingTxn_eq_some hx
  obtain ⟨-, hmem⟩ := ht.find_stands hfind
  have hphase := forwarded_of_sending (ht.entry hmem).2 (by simp [Txn.isSending, hslot])
  unfold takeWriteBeat
  dsimp only
  split
  · exact forwards_putTxn (y := { x with slot := some { state := .sending (n + 1), beats := beats } }) rfl
      fun hw => by rw [hphase] at hw; cases hw
  · exact forwards_putTxn (y := { x with slot := none }) rfl fun hw => by rw [hphase] at hw; cases hw

/-! ## Every command -/

theorem exec_forwards_of_carries {c : Instr} {s t : State} (hc : carries c = true) (ht : TrackerLegal s.tracker)
    (h : exec c s = .next t) : Forwards s t := by
  have stepped : ∀ {ready : Bool} {u : State}, stepWhen ready s u = .next t → Forwards s u → Forwards s t :=
    fun h hu => stepWhen_keeps (P := Forwards s) h (forwards_of_same rfl) fun _ _ => hu
  have stays : Host.Outcome.next (φ := Fault) (ρ := Refusal) s = .next t → Forwards s t := by
    rintro ⟨⟩; exact forwards_of_same rfl
  cases c with
  | powerOnReset => cases h; exact forwards_of_subset nofun
  | portResetAssert =>
    simp only [exec, execPortResetAssert] at h
    split at h
    · exact stays h
    · split at h
      · cases h; exact forwards_of_same rfl
      · cases h
        have none : (portResetCommit (portResetBlocks s)).tracker.txns = [] := by
          unfold portResetCommit
          split <;> simp [portResetBlocks, portResetTracker]
        exact forwards_of_subset fun y hy => by rw [none] at hy; cases hy
  | hostRequestAccept req =>
    simp only [exec, execHostRequestAccept] at h
    split at h
    · next hr => exact stepped h (acceptRequest_forwards hr)
    · cases h
  | hostWriteBeat offer =>
    simp only [exec, execHostWriteBeat] at h
    split at h
    · next hx => exact stepped h (storeBeat_forwards ht hx offer)
    · exact stays h
  | hostClaimGrant =>
    simp only [exec, execHostClaimGrant] at h
    split at h
    · exact stepped h (forwards_of_same rfl)
    · exact stays h
  | scanClaimGrant =>
    simp only [exec, execScanClaimGrant] at h
    split at h
    · exact stepped h (forwards_of_same rfl)
    · exact stays h
  | forcedClaimGrant =>
    simp only [exec, execForcedClaimGrant] at h
    split at h
    · exact stepped h (forwards_of_same rfl)
    · exact stays h
  | memoryRequestTaken =>
    simp only [exec, execMemoryRequestTaken] at h
    split at h
    · split at h
      · next x _ => exact stepped h (forwards_putTxn (y := forwardTxn x) rfl nofun)
      · exact stays h
    · exact stepped h (forwards_of_same rfl)
    · exact stays h
  | memoryWriteBeatTaken =>
    simp only [exec, execMemoryWriteBeatTaken] at h
    split at h
    · next hx => exact stepped h (takeWriteBeat_forwards ht hx)
    · exact stays h
  | idleGapMet => exact stepped h (forwards_of_same rfl)
  | memoryResponseItemPass offer => exact stepped h (offerItem_forwards s _ _)
  | localAnswerSend dir id head =>
    refine stepped h (sendLocal_forwards ?_ dir id)
    cases head with
    | none => exact forwards_of_same rfl
    | some item => exact offerItem_forwards s item false
  | localAnswerItemTaken =>
    simp only [exec, execLocalAnswerItemTaken] at h
    split at h
    · split at h
      · next hphase => exact stepped h (takeLocalItem_forwards hphase)
      all_goals exact stays h
    · exact stays h
  | drainTimerExpiry =>
    simp only [exec, execDrainTimerExpiry] at h
    split at h
    · exact stepped h (cutDrain_released_forwards ht _ _ _)
    · exact stays h
  | drainComplete =>
    simp only [exec, execDrainComplete] at h
    split at h
    · exact stepped h (completeDrain_forwards ht _ _)
    · exact stays h
  | commit => exact takeCommand_keeps (P := Forwards s) h (forwards_of_same rfl) (doCommit_forwards ht)
  | abortCommit => exact takeCommand_keeps (P := Forwards s) h (forwards_of_same rfl) (doAbortCommit_forwards ht)
  | _ => cases hc

theorem exec_forwards {c : Instr} {s t : State} (ht : TrackerLegal s.tracker) (h : exec c s = .next t) : Forwards s t := by
  cases hc : carries c with
  | true => exact exec_forwards_of_carries hc ht h
  | false => exact forwards_of_same (txns_of_lanes (exec_keepsLanes c s hc t h))

/-! ## One clock cycle -/

/-- The commands of a cycle that end a commit drain. -/
def endsDrain : Instr → Bool
  | .drainComplete | .drainTimerExpiry => true
  | _ => false

/-- The commands of a cycle that end no commit drain change no entry and no region that a verdict looks at. -/
theorem exec_calm_of_clocked {c : Instr} {s t : State} (hc : clocked c = true) (hd : endsDrain c = false) (h : exec c s = .next t) :
    t.tracker.txns = s.tracker.txns ∧ Calm s t := by
  have stepped : ∀ {ready : Bool} {u : State}, stepWhen ready s u = .next t → u.tracker.txns = s.tracker.txns ∧ Calm s u →
      t.tracker.txns = s.tracker.txns ∧ Calm s t :=
    fun h hu => stepWhen_keeps (P := fun t => t.tracker.txns = s.tracker.txns ∧ Calm s t) h ⟨rfl, .refl s⟩ fun _ _ => hu
  have stays : Host.Outcome.next (φ := Fault) (ρ := Refusal) s = .next t → t.tracker.txns = s.tracker.txns ∧ Calm s t := by
    rintro ⟨⟩; exact ⟨rfl, .refl s⟩
  cases c with
  | writeDrainDone => exact stepped h ⟨by simp, finishWriteDrains_calm s⟩
  | starvationTimerExpiry => exact stepped h ⟨rfl, .of_same rfl rfl⟩
  | roundTimerExpiry => exact stepped h ⟨by simp, startRound_calm s⟩
  | hostClaimGrant =>
    simp only [exec, execHostClaimGrant] at h
    split at h
    · exact stepped h ⟨rfl, .of_same rfl rfl⟩
    · exact stays h
  | forcedClaimGrant =>
    simp only [exec, execForcedClaimGrant] at h
    split at h
    · exact stepped h ⟨rfl, .of_same rfl rfl⟩
    · exact stays h
  | scanClaimGrant =>
    simp only [exec, execScanClaimGrant] at h
    split at h
    · exact stepped h ⟨rfl, .of_same rfl rfl⟩
    · exact stays h
  | drainComplete | drainTimerExpiry => cases hd
  | _ => cases hc

/-- After the command that ends a drain no commit drains; without a drain it does nothing. -/
theorem exec_endsDrain {c : Instr} {s t : State} (hd : endsDrain c = true) (h : exec c s = .next t) :
    t = s ∨ s.commit.draining ≠ none ∧ t.commit.draining = none := by
  cases c with
  | drainComplete =>
    simp only [exec, execDrainComplete] at h
    split at h
    · next d hdrain =>
      exact stepWhen_keeps (P := fun t => t = s ∨ s.commit.draining ≠ none ∧ t.commit.draining = none) h (.inl rfl)
        fun _ _ => .inr ⟨by simp [hdrain], by simp⟩
    · cases h; exact .inl rfl
  | drainTimerExpiry =>
    simp only [exec, execDrainTimerExpiry] at h
    split at h
    · next d hdrain =>
      exact stepWhen_keeps (P := fun t => t = s ∨ s.commit.draining ≠ none ∧ t.commit.draining = none) h (.inl rfl)
        fun _ _ => .inr ⟨by simp [hdrain], by simp⟩
    · cases h; exact .inl rfl
  | _ => cases hd

theorem reconfigures_of_clocked {c : Instr} (hc : clocked c = true) (hd : endsDrain c = false) : reconfigures c = false := by
  cases c with
  | drainComplete | drainTimerExpiry => cases hd
  | writeDrainDone | starvationTimerExpiry | roundTimerExpiry | hostClaimGrant | forcedClaimGrant | scanClaimGrant => rfl
  | _ => cases hc

/-- What holds all through a cycle: writes have been forwarded, without shielded bytes, at most by the end of the commit drain. -/
structure CycleForwards (s u : State) : Prop where
  forwards : Forwards s u
  once : u.tracker.txns = s.tracker.txns ∨ u.commit.draining = none

theorem exec_cycleForwards {c : Instr} {s u t : State} (hc : clocked c = true) (ht : TrackerLegal u.tracker)
    (h : exec c u = .next t) (hu : CycleForwards s u) : CycleForwards s t := by
  cases hd : endsDrain c with
  | true =>
    rcases exec_endsDrain hd h with rfl | ⟨drains, ended⟩
    · exact hu
    · have txns : u.tracker.txns = s.tracker.txns := hu.once.resolve_right drains
      exact ⟨(exec_forwards ht h).of_txns txns, .inr ended⟩
  | false =>
    obtain ⟨txns, calm⟩ := exec_calm_of_clocked hc hd h
    have commit : t.commit = u.commit := (exec_keepsConfig c u (reconfigures_of_clocked hc hd) t h).2
    exact ⟨hu.forwards.calm txns calm, by rw [txns, commit]; exact hu.once⟩

theorem cycle_forwards {s : State} (ht : TrackerLegal s.tracker) : Forwards s (cycle s) := by
  have start : TrackerLegal s.tracker ∧ CycleForwards s s := ⟨ht, forwards_of_same rfl, .inl rfl⟩
  have ended : TrackerLegal (cycle s).tracker ∧ CycleForwards s (cycle s) := by
    refine cycle_keeps_clocked (P := fun u => TrackerLegal u.tracker ∧ CycleForwards s u) (fun u hu => ?_) (fun c u t hc hx hu => ?_) start
    · exact ⟨hu.1, hu.2.forwards.calm rfl (.of_same rfl rfl), hu.2.once.imp id fun none => by simp [advance, none]⟩
    · exact ⟨exec_trackerLegal hx hu.1, exec_cycleForwards hc hu.1 hx hu.2⟩
  exact ended.2.forwards

/-! ## Settled -/

/-- Settles O28: a write that comes to wait for the memory in a step was judged in it, with no cause of refusal, and the step leaves the
regions as its verdict found them. -/
theorem shieldedBytesAreNeverForwarded : Obligations.ShieldedBytesAreNeverForwarded := by
  intro s t h tracker y hy hdir hwait new a hstrobed
  have forwards : Forwards s t := by
    unfold step at h
    split at h
    · cases h; exact cycle_forwards tracker
    · next c rest _ => exact exec_forwards (s := { s with pending := rest }) tracker h
  rcases forwards y hy hwait with ⟨x, hx, htag, hxw⟩ | clear
  · exact absurd hxw (new x hx htag)
  · exact clear _ (flight_of_write hdir (.inl hwait)) a hstrobed

end Sys2Proof.Machine

/-! Dirty blocks: what adding one does, which blocks a write adds and in which order, and the hand-off of a forwarded write. A piece is
shorter than the smallest granule and so lies in at most two blocks; where a burst has two pieces each lies within 256 bytes, in one. -/

namespace Sys2Proof.Machine

/-! ## Adding a block -/

section

variable (s : State) (host : HostId) (i : Ix) (e : Entry) (g : Granule) (block : Nat)

theorem addBlock_merges (h : { region := i, block := block } ∈ s.dirty.list) : addBlock s host i e g block = s := by
  simp [addBlock, h]

theorem addBlock_appends (h : { region := i, block := block } ∉ s.dirty.list) (hroom : s.dirty.list.length < 64) :
    addBlock s host i e g block =
      let added : State := { s with dirty := { s.dirty with list := s.dirty.list ++ [{ region := i, block := block }] } }
      if s.dirty.list.length + 1 = s.dirty.threshold then
        { added with events := s.events.take (dirtyThresholdEvent host i e g block s.dirty.threshold) }
      else added := by
  simp only [addBlock, List.contains_iff_mem, h, if_false, Config.dirtyEntries, hroom, if_true, List.length_append,
    List.length_singleton]
  rfl

theorem addBlock_overflows (h : { region := i, block := block } ∉ s.dirty.list) (hfull : 64 ≤ s.dirty.list.length) :
    addBlock s host i e g block =
      if s.dirty.overflow.get i then s
      else { s with dirty := { s.dirty with overflow := s.dirty.overflow.set i true }
                    events := s.events.take (dirtyOverflowEvent host i e g block) } := by
  simp only [addBlock, List.contains_iff_mem, h, if_false, Config.dirtyEntries, Nat.not_lt.2 hfull]
  rfl

end

/-! ## Blocks of a region -/

theorem granule_le_bytes (g : Granule) : 256 ≤ g.bytes := by
  cases g <;> decide

/-- The block of a byte is the one whose range holds it (R94). -/
theorem blockOf_eq_iff {e : Entry} (g : Granule) {a : Nat} (h : e.lo ≤ a) (n : Nat) :
    blockOf e g a = n ↔ blockFirst e g n ≤ a ∧ a < blockFirst e g (n + 1) := by
  have positive : 0 < g.bytes := Nat.lt_of_lt_of_le (by omega) (granule_le_bytes g)
  rw [blockOf, Nat.div_eq_iff positive, blockFirst, blockFirst, Nat.add_mul]
  omega

theorem blockOf_mono (e : Entry) (g : Granule) {a b : Nat} (h : a ≤ b) : blockOf e g a ≤ blockOf e g b :=
  Nat.div_le_div_right (Nat.sub_le_sub_right h _)

/-- Bytes less than 256 apart are in one block or in neighbouring ones. -/
theorem blockOf_le_succ {e : Entry} (g : Granule) {a b : Nat} (ha : e.lo ≤ a) (hab : a ≤ b) (hshort : b - a < 256) :
    blockOf e g b ≤ blockOf e g a + 1 := by
  have granule := granule_le_bytes g
  calc blockOf e g b
    _ ≤ (a - e.lo + g.bytes) / g.bytes := Nat.div_le_div_right (by omega)
    _ = blockOf e g a + 1 := Nat.add_div_right _ (by omega)

/-- All bytes of 256 that start at a multiple of 256 are in one block. -/
theorem blockOf_granule {e : Entry} (g : Granule) {a b : Nat} (h : a / 256 = b / 256) : blockOf e g a = blockOf e g b := by
  have coarse : ∀ c, blockOf e g c = (c / 256 - e.base.toNat) / g.granules := fun c => by
    have aligned : (c - e.lo) / 256 = c / 256 - e.base.toNat := by rw [Entry.lo]; omega
    rw [blockOf, Granule.bytes_eq, Nat.mul_comm, ← Nat.div_div_eq_div_mul, aligned]
  rw [coarse, coarse, h]

/-- The dirty blocks of a piece are those of its strobed bytes (R95). -/
theorem mem_dirtyBlocks_iff {e : Entry} (g : Granule) (r : Request) (beats : List WriteBeat) {p : Piece} (hlo : e.lo ≤ p.first)
    (hle : p.first ≤ p.last) (hshort : p.last - p.first < 256) (n : Nat) :
    n ∈ dirtyBlocks e g r beats p ↔ ∃ a, StrobedByte r (strobesOf beats) a ∧ (p.first ≤ a ∧ a ≤ p.last) ∧ blockOf e g a = n := by
  have ends : ∀ m, m ∈ (if blockOf e g p.first = blockOf e g p.last then [blockOf e g p.first]
      else [blockOf e g p.first, blockOf e g p.last]) ↔ m = blockOf e g p.first ∨ m = blockOf e g p.last := by
    intro m
    split
    · next heq => simp [← heq]
    · simp
  simp only [dirtyBlocks, List.mem_filter, ends, strobedWithin_iff, Nat.max_le, Nat.lt_min]
  constructor
  · rintro ⟨-, a, hstrobed, ⟨hfirst, hblo⟩, hlast, hbhi⟩
    exact ⟨a, hstrobed, ⟨hfirst, by omega⟩, (blockOf_eq_iff g (hlo.trans hfirst) n).2 ⟨hblo, hbhi⟩⟩
  · rintro ⟨a, hstrobed, ⟨hfirst, hlast⟩, hn⟩
    obtain ⟨hblo, hbhi⟩ := (blockOf_eq_iff g (hlo.trans hfirst) n).1 hn
    refine ⟨?_, a, hstrobed, ⟨hfirst, hblo⟩, by omega, hbhi⟩
    have above := blockOf_mono e g hfirst
    have below := blockOf_mono e g hlast
    have near := blockOf_le_succ g hlo hle hshort
    omega

theorem dirtyBlocks_sorted (e : Entry) (g : Granule) (r : Request) (beats : List WriteBeat) {p : Piece} (hle : p.first ≤ p.last) :
    (dirtyBlocks e g r beats p).Pairwise (· < ·) := by
  refine List.Pairwise.filter _ ?_
  split
  · exact List.pairwise_singleton _ _
  · next hne => exact List.pairwise_pair.2 (Nat.lt_of_le_of_ne (blockOf_mono e g hle) hne)

theorem dirtyBlocks_length_le_two (e : Entry) (g : Granule) (r : Request) (beats : List WriteBeat) (p : Piece) :
    (dirtyBlocks e g r beats p).length ≤ 2 := by
  refine (List.length_filter_le _ _).trans ?_
  split <;> simp

theorem dirtyBlocks_length_le_one (e : Entry) (g : Granule) (r : Request) (beats : List WriteBeat) {p : Piece}
    (h : p.first / 256 = p.last / 256) : (dirtyBlocks e g r beats p).length ≤ 1 := by
  refine (List.length_filter_le _ _).trans ?_
  rw [if_pos (blockOf_granule g h)]
  exact Nat.le_refl 1

/-! ## Blocks of a write -/

/-- The dirty blocks of one piece of a write, with the region they belong to (R95). -/
def pieceBlocks (s : State) (r : Request) (beats : List WriteBeat) (p : Piece) : List (Ix × Entry × Granule × Nat) :=
  match p.region with
  | none => []
  | some i =>
    match (s.table.active.get i).part with
    | .track g => (dirtyBlocks (s.table.active.get i) g r beats p).map fun n => (i, s.table.active.get i, g, n)
    | .guard | .checked _ | .watch _ => []

theorem trackedBlocks_eq (s : State) (r : Request) (beats : List WriteBeat) :
    trackedBlocks s r beats = (requestPieces s r).flatMap (pieceBlocks s r beats) := rfl

theorem mem_pieceBlocks_iff (s : State) (r : Request) (beats : List WriteBeat) (p : Piece) (i : Ix) (e : Entry) (g : Granule) (n : Nat) :
    (i, e, g, n) ∈ pieceBlocks s r beats p ↔
      p.region = some i ∧ e = s.table.active.get i ∧ e.part = .track g ∧ n ∈ dirtyBlocks e g r beats p := by
  unfold pieceBlocks
  cases p.region with
  | none => simp
  | some j =>
    dsimp only
    constructor
    · intro h
      split at h
      · next g' hpart =>
        obtain ⟨m, hm, heq⟩ := List.mem_map.1 h
        cases heq
        exact ⟨rfl, rfl, hpart, hm⟩
      · cases h
      · cases h
      · cases h
    · rintro ⟨⟨⟩, rfl, hpart, hn⟩
      simp [hpart, hn]

/-- Blocks of one piece come in ascending order and belong to one region. -/
theorem pieceBlocks_sorted (s : State) (r : Request) (beats : List WriteBeat) {p : Piece} (hle : p.first ≤ p.last) :
    (pieceBlocks s r beats p).Pairwise fun b c => blockFirst b.2.1 b.2.2.1 b.2.2.2 < blockFirst c.2.1 c.2.2.1 c.2.2.2 := by
  unfold pieceBlocks
  split
  · exact .nil
  · split
    · next g _ =>
      refine List.pairwise_map.2 ((dirtyBlocks_sorted _ g r beats hle).imp fun {m n} hmn => ?_)
      have positive : 0 < g.bytes := Nat.lt_of_lt_of_le (by omega) (granule_le_bytes g)
      exact Nat.add_lt_add_left (Nat.mul_lt_mul_of_pos_right hmn positive) _
    all_goals exact .nil

theorem pieceBlocks_length_le_two (s : State) (r : Request) (beats : List WriteBeat) (p : Piece) :
    (pieceBlocks s r beats p).length ≤ 2 := by
  unfold pieceBlocks
  split
  · simp
  · split
    · rw [List.length_map]; exact dirtyBlocks_length_le_two ..
    all_goals simp

theorem pieceBlocks_length_le_one (s : State) (r : Request) (beats : List WriteBeat) {p : Piece}
    (h : p.first / 256 = p.last / 256) : (pieceBlocks s r beats p).length ≤ 1 := by
  unfold pieceBlocks
  split
  · simp
  · split
    · rw [List.length_map]; exact dirtyBlocks_length_le_one _ _ _ _ h
    all_goals simp

theorem covers_of_regionAt {table : Tab Entry} {a : Nat} {i : Ix} (h : regionAt table a = some i) : (table.get i).covers a = true :=
  List.find?_some (p := fun i => (table.get i).covers a) h

theorem lo_le_of_covers {e : Entry} {a : Nat} (h : e.covers a = true) : e.lo ≤ a := by
  obtain ⟨-, hlo, -⟩ := (Entry.covers_iff ..).1 h
  rw [Entry.lo]
  omega

/-- Two pieces of a run meet at a multiple of 256, and have different mappings (R21). -/
theorem piecesOf_pairwise (table : Tab Entry) {f l : Nat} (h : f ≤ l) :
    (piecesOf table f l).Pairwise fun p q => q.first = p.last + 1 ∧ q.first % 256 = 0 ∧ p.region ≠ q.region := by
  unfold piecesOf
  split
  · exact List.pairwise_singleton _ _
  · next hc =>
    rw [not_or] at hc
    exact List.pairwise_pair.2 ⟨by dsimp only; omega, by dsimp only; omega, hc.2⟩

section

variable {s : State} {r : Request} (hr : r.beatsLegal = true)
include hr

/-- A byte of a piece lies in a region exactly if the piece does, and the piece is short and begins in the region. -/
theorem requestPieces_sound {p : Piece} (hp : p ∈ requestPieces s r) : p.first ≤ p.last ∧ p.last - p.first < 256 ∧
    (∀ a, p.first ≤ a → a ≤ p.last → regionAt s.table.active a = p.region) ∧
    ∀ i, p.region = some i → (s.table.active.get i).lo ≤ p.first := by
  obtain ⟨hle, hshort, -⟩ := burst_bounds r hr
  obtain ⟨hf, hfl, hl, hmap⟩ := piecesOf_sound _ _ _ hle hshort p hp
  exact ⟨hfl, by omega, hmap, fun i hi => lo_le_of_covers (covers_of_regionAt ((hmap _ (Nat.le_refl _) hfl).trans hi))⟩

/-- The blocks of a write are those of its strobed bytes in TRACK regions (R94, R95). -/
theorem mem_trackedBlocks_iff (beats : List WriteBeat) (i : Ix) (e : Entry) (g : Granule) (n : Nat) :
    (i, e, g, n) ∈ trackedBlocks s r beats ↔ e = s.table.active.get i ∧ e.part = .track g ∧
      ∃ a, StrobedByte r (strobesOf beats) a ∧ regionAt s.table.active a = some i ∧ blockOf e g a = n := by
  simp only [trackedBlocks_eq, List.mem_flatMap, mem_pieceBlocks_iff]
  constructor
  · rintro ⟨p, hp, hregion, rfl, hpart, hn⟩
    obtain ⟨hle, hshort, hmap, hlo⟩ := requestPieces_sound hr hp
    obtain ⟨a, hstrobed, ⟨hfirst, hlast⟩, hblock⟩ := (mem_dirtyBlocks_iff g r beats (hlo i hregion) hle hshort n).1 hn
    exact ⟨rfl, hpart, a, hstrobed, (hmap a hfirst hlast).trans hregion, hblock⟩
  · rintro ⟨rfl, hpart, a, hstrobed, hregion, hblock⟩
    obtain ⟨-, -, hend⟩ := burst_bounds r hr
    obtain ⟨hblo, hbhi, -⟩ := id hstrobed
    obtain ⟨p, hp, hfirst, hlast⟩ := piecesOf_complete s.table.active _ _ a hblo (by omega : a ≤ burstLast r)
    obtain ⟨hle, hshort, hmap, hlo⟩ := requestPieces_sound (s := s) hr hp
    have region : p.region = some i := (hmap a hfirst hlast).symm.trans hregion
    exact ⟨p, hp, region, rfl, hpart,
      (mem_dirtyBlocks_iff g r beats (hlo i region) hle hshort n).2 ⟨a, hstrobed, ⟨hfirst, hlast⟩, hblock⟩⟩

/-- The blocks of a write come in ascending address order: a block of the second piece begins in its own region, which begins where
that piece does (R22, R95). -/
theorem trackedBlocks_sorted (hn : NoOverlap s.table.active) (beats : List WriteBeat) :
    (trackedBlocks s r beats).Pairwise fun b c => blockFirst b.2.1 b.2.2.1 b.2.2.2 < blockFirst c.2.1 c.2.2.1 c.2.2.2 := by
  obtain ⟨hle, -, -⟩ := burst_bounds r hr
  rw [trackedBlocks_eq, List.pairwise_flatMap]
  refine ⟨fun p hp => pieceBlocks_sorted s r beats (requestPieces_sound hr hp).1, ?_⟩
  refine List.Pairwise.imp_of_mem (fun {p q} hp hq ⟨hmeet, haligned, hne⟩ => ?_) (piecesOf_pairwise s.table.active hle)
  rintro ⟨i, e, g, n⟩ hb ⟨j, e', g', m⟩ hc
  obtain ⟨hpi, rfl, -, hblock⟩ := (mem_pieceBlocks_iff ..).1 hb
  obtain ⟨hqj, rfl, -, -⟩ := (mem_pieceBlocks_iff ..).1 hc
  obtain ⟨hple, hpshort, hpmap, hplo⟩ := requestPieces_sound (s := s) hr hp
  obtain ⟨hqle, -, hqmap, hqlo⟩ := requestPieces_sound (s := s) hr hq
  have before : blockFirst (s.table.active.get i) g n ≤ p.last := by
    obtain ⟨a, -, ⟨hfirst, hlast⟩, ha⟩ := (mem_dirtyBlocks_iff g r beats (hplo i hpi) hple hpshort n).1 hblock
    exact (((blockOf_eq_iff g ((hplo i hpi).trans hfirst) n).1 ha).1).trans hlast
  have begins : q.first ≤ (s.table.active.get j).lo := by
    by_contra hlt
    obtain ⟨henabled, hblo, hbhi⟩ := (Entry.covers_iff ..).1 (covers_of_regionAt ((hqmap q.first (Nat.le_refl _) hqle).trans hqj))
    have reaches : (s.table.active.get j).covers p.last = true := by
      rw [Entry.lo] at hlt
      exact (Entry.covers_iff ..).2 ⟨henabled, by omega, by omega⟩
    have mapped := (hpmap p.last hple (Nat.le_refl _)).symm.trans (regionAt_of_covers hn reaches)
    exact hne (mapped.trans hqj.symm)
  calc blockFirst (s.table.active.get i) g n
    _ < q.first := by omega
    _ ≤ blockFirst (s.table.active.get j) g' m := begins.trans (Nat.le_add_right _ _)

/-- A write has at most two dirty blocks (R95). -/
theorem trackedBlocks_length_le_two (beats : List WriteBeat) : (trackedBlocks s r beats).length ≤ 2 := by
  obtain ⟨hle, hshort, -⟩ := burst_bounds r hr
  rw [trackedBlocks_eq, requestPieces, piecesOf]
  split
  · rw [List.flatMap_singleton]
    exact pieceBlocks_length_le_two ..
  · next hc =>
    rw [not_or] at hc
    rw [List.flatMap_cons, List.flatMap_singleton, List.length_append]
    exact Nat.add_le_add (pieceBlocks_length_le_one s r beats (by dsimp only; omega))
      (pieceBlocks_length_le_one s r beats (by dsimp only; omega))

end

/-! ## The hand-off -/

/-- A WINDOW_REPORT for each finding of a REPORT region, in their order (R76, R88). -/
theorem reportWindows_eq (s : State) (r : Request) (fs : List (Ix × WatchPart × Finding)) :
    reportWindows s r fs = { s with
      events := (fs.filter fun f => f.2.1.action = .report).foldl (fun u f => u.take (windowReportEvent r f.1 f.2.2)) s.events } := by
  unfold reportWindows
  induction fs generalizing s with
  | nil => rfl
  | cons f fs ih =>
    rw [List.foldl_cons, ih, List.filter_cons]
    cases hf : f.2.1.action <;> simp [raise]

/-- A command between dirty additions is carried out as that command given by itself (R103). -/
theorem takeCommand_eq_commanded {s : State} (h : s.pins.por = false) (n : Nat) (owner : State → State × Response) :
    takeCommand n s owner = .next (commanded n s owner) := by
  rw [takeCommand_taken n s owner h, commanded_eq]

/-- Settles O56: the addition case by case, the blocks of a write by its pieces, the hand-off by the number of blocks, and the commands
between as what the port makes of them. -/
theorem dirtyBlocksAndHandOff : Obligations.DirtyBlocksAndHandOff := by
  refine ⟨fun s host i e g block => ⟨addBlock_merges s host i e g block, addBlock_appends s host i e g block, ?_, ?_⟩, ?_, ?_⟩
  · intro hnew hfull hclear
    rw [addBlock_overflows s host i e g block hnew hfull, hclear]
    rfl
  · intro hnew hfull hset
    rw [addBlock_overflows s host i e g block hnew hfull, if_pos hset]
  · intro s r beats between hr _ hn blocks first add reported
    have starts : ∀ b : Ix × Entry × Granule × Nat, blockFirst b.2.1 b.2.2.1 b.2.2.2 = first b := fun b => by
      rw [blockFirst, Entry.lo, Nat.mul_comm]
    have handed : ∀ bs, blocks = bs → handOff s r beats between = addTrackedBlocks reported r.id between bs := by
      rintro _ rfl
      rw [handOff, reportWindows_eq]
    refine ⟨fun i e g n => ?_, (trackedBlocks_sorted hr hn beats).imp fun {b c} hbc => by rwa [starts, starts] at hbc,
      trackedBlocks_length_le_two hr beats, handed [], fun b => handed [b], fun b c => handed [b, c]⟩
    rw [mem_trackedBlocks_iff hr]
    simp only [blockOf, Entry.lo, Nat.mul_comm, strobesOf, eq_comm]
  · intro s hp
    exact ⟨fun n => takeCommand_eq_commanded hp 1 (doTakeDirty n), fun n => takeCommand_eq_commanded hp 1 (doClearDirty n),
      fun n => takeCommand_eq_commanded hp 1 (doSetDirtyThreshold n), takeCommand_eq_commanded hp 0 _,
      takeCommand_eq_commanded hp 0 doSoftClear⟩

end Sys2Proof.Machine

/-! The findings of a write: the elements of a piece, which of them violates first, the findings of a write's pieces with the counts
they raise, and the events that tell them. -/

namespace Sys2Proof.Machine

/-! ## The elements of a piece -/

/-- A run of a region's element width in a piece, at a multiple of that width (R82). -/
def IsElement (w : WatchPart) (p : Piece) (a : Nat) : Prop :=
  p.first ≤ a ∧ a + w.width.bytes ≤ p.last + 1 ∧ a % w.width.bytes = 0

/-- The strobe of the byte at an address of a write (R83). -/
def byteStrobe (r : Request) (beats : List WriteBeat) (a : Nat) : Bool := strobeAt (strobesOf beats) (a - burstFirst r)

/-- The value of the bytes at an address of a write, unstrobed ones taken as zero (R84, R86). -/
def valueAt (r : Request) (beats : List WriteBeat) (n a : Nat) : Nat :=
  ((List.range n).map fun k =>
    if byteStrobe r beats (a + k) then dataAt beats (a + k - burstFirst r) * 256 ^ k else 0).sum

/-- Every byte of the element at an address is strobed (R83). -/
def IsFull (w : WatchPart) (r : Request) (beats : List WriteBeat) (a : Nat) : Prop :=
  ∀ k < w.width.bytes, byteStrobe r beats (a + k) = true

/-- The element at an address violates, for the reason given (R85). -/
def Violates (w : WatchPart) (r : Request) (beats : List WriteBeat) (a : Nat) : Reason → Prop
  | .below => IsFull w r beats a ∧ valueAt r beats w.width.bytes a < w.low.toNat
  | .above => IsFull w r beats a ∧ w.low.toNat ≤ valueAt r beats w.width.bytes a ∧
      w.high.toNat < valueAt r beats w.width.bytes a
  | .someStrobes => ¬IsFull w r beats a ∧ (∃ k < w.width.bytes, byteStrobe r beats (a + k) = true) ∧ w.policy = .violate

/-- What is told of the element at an address that violates for the reason given (R86). -/
def findingAt (w : WatchPart) (r : Request) (beats : List WriteBeat) (a : Nat) (why : Reason) : Finding :=
  { addr := a, value := valueAt r beats w.width.bytes a, width := w.width, reason := why
    pattern := (List.range w.width.bytes).map fun k => byteStrobe r beats (a + k) }

theorem Width.bytes_pos (w : Width) : 0 < w.bytes := by cases w <;> decide

theorem Width.bytes_dvd_eight (w : Width) : w.bytes ∣ 8 := by cases w <;> decide

/-- The elements of a piece that starts at an element are counted from its start (R82). -/
theorem isElement_iff (w : WatchPart) {p : Piece} (h : w.width.bytes ∣ p.first) (a : Nat) :
    IsElement w p a ↔ ∃ k < (p.last + 1 - p.first) / w.width.bytes, a = p.first + w.width.bytes * k := by
  have positive := w.width.bytes_pos
  rw [IsElement, ← Nat.dvd_iff_mod_eq_zero]
  constructor
  · rintro ⟨hfirst, hlast, hdvd⟩
    obtain ⟨k, hk⟩ := Nat.dvd_sub hdvd h
    refine ⟨k, ?_, by omega⟩
    rw [← Nat.succ_le_iff, Nat.le_div_iff_mul_le positive, Nat.succ_mul, Nat.mul_comm k]
    omega
  · rintro ⟨k, hk, rfl⟩
    rw [← Nat.succ_le_iff, Nat.le_div_iff_mul_le positive, Nat.succ_mul, Nat.mul_comm k] at hk
    exact ⟨Nat.le_add_right _ _, by omega, Nat.dvd_add h (Nat.dvd_mul_right _ _)⟩

/-! ## The first element that violates -/

theorem elementStrobes_eq (w : Width) {r : Request} (beats : List WriteBeat) {a : Nat} (h : burstFirst r ≤ a) :
    elementStrobes w beats (a - burstFirst r) = (List.range w.bytes).map fun k => byteStrobe r beats (a + k) := by
  simp only [elementStrobes, byteStrobe, Nat.sub_add_comm h]

theorem elementValue_eq (w : Width) {r : Request} (beats : List WriteBeat) {a : Nat} (h : burstFirst r ≤ a) :
    elementValue w beats (a - burstFirst r) = valueAt r beats w.bytes a := by
  simp only [elementValue, valueAt, byteStrobe, Nat.sub_add_comm h]

theorem elementReason_eq_some_iff (w : WatchPart) (r : Request) (beats : List WriteBeat) (a : Nat) (why : Reason) :
    elementReason w ((List.range w.width.bytes).map fun k => byteStrobe r beats (a + k)) (valueAt r beats w.width.bytes a) = some why ↔
      Violates w r beats a why := by
  have all : ((List.range w.width.bytes).map fun k => byteStrobe r beats (a + k)).all id = true ↔ IsFull w r beats a := by
    simp [IsFull]
  have any : ((List.range w.width.bytes).map fun k => byteStrobe r beats (a + k)).any id = true ↔
      ∃ k < w.width.bytes, byteStrobe r beats (a + k) = true := by
    simp
  by_cases full : IsFull w r beats a
  · rw [elementReason, if_pos (all.2 full)]
    rcases lt_or_ge (valueAt r beats w.width.bytes a) w.low.toNat with below | inside
    · rw [if_pos below]
      cases why <;> simp [Violates, full, below]
    · rw [if_neg (Nat.not_lt.2 inside)]
      cases why <;> simp [Violates, full, inside]
  · rw [elementReason, if_neg (mt all.1 full)]
    simp only [Option.ite_none_right_eq_some, Option.some.injEq, Bool.and_eq_true, beq_iff_eq, any]
    cases why <;> simp only [Violates, full, reduceCtorEq, not_false_eq_true, true_and, and_true, false_and, and_false]

theorem elementFinding_eq_some_iff (w : WatchPart) {r : Request} (beats : List WriteBeat) {a : Nat} (h : burstFirst r ≤ a) (f : Finding) :
    elementFinding w r beats a = some f ↔ ∃ why, Violates w r beats a why ∧ f = findingAt w r beats a why := by
  simp only [elementFinding, elementStrobes_eq _ _ h, elementValue_eq _ _ h, Option.map_eq_some_iff, elementReason_eq_some_iff]
  exact exists_congr fun why => and_congr_right fun _ => eq_comm

theorem elementFinding_eq_none_iff (w : WatchPart) {r : Request} (beats : List WriteBeat) {a : Nat} (h : burstFirst r ≤ a) :
    elementFinding w r beats a = none ↔ ∀ why, ¬Violates w r beats a why := by
  simp only [Option.eq_none_iff_forall_ne_some, ne_eq, elementFinding_eq_some_iff w beats h, not_exists, not_and]
  exact ⟨fun none why violates => none _ why violates rfl, fun none f why violates _ => none why violates⟩

/-- A search along the first numbers finds what the lowest number that gives anything gives. -/
theorem findSome?_range_eq_some_iff {α : Type} (g : Nat → Option α) (n : Nat) (b : α) :
    (List.range n).findSome? g = some b ↔ ∃ k < n, g k = some b ∧ ∀ j < k, g j = none := by
  induction n with
  | zero => simp
  | succ n ih =>
    rw [List.range_succ, List.findSome?_append, Option.or_eq_some_iff, ih, List.findSome?_eq_none_iff]
    simp only [List.mem_range, List.findSome?_singleton, Nat.lt_succ_iff_lt_or_eq, or_and_right, exists_or, exists_eq_left]
    exact or_congr_right and_comm

/-- The finding of a piece that starts at an element is its lowest violating element (R86). -/
theorem firstViolation_eq_some_iff (w : WatchPart) {r : Request} (beats : List WriteBeat) {p : Piece} (hfirst : burstFirst r ≤ p.first)
    (haligned : w.width.bytes ∣ p.first) (f : Finding) :
    firstViolation w r beats p = some f ↔ ∃ a why, IsElement w p a ∧ Violates w r beats a why ∧
      (∀ b other, IsElement w p b → b < a → ¬Violates w r beats b other) ∧ f = findingAt w r beats a why := by
  have begins : ∀ k, burstFirst r ≤ p.first + w.width.bytes * k := fun k => hfirst.trans (Nat.le_add_right _ _)
  have ordered : ∀ j k, p.first + w.width.bytes * j < p.first + w.width.bytes * k ↔ j < k := fun j k => by
    rw [Nat.add_lt_add_iff_left, Nat.mul_lt_mul_left w.width.bytes_pos]
  simp only [firstViolation, findSome?_range_eq_some_iff, elementFinding_eq_some_iff w beats (begins _),
    elementFinding_eq_none_iff w beats (begins _), isElement_iff w haligned]
  constructor
  · rintro ⟨k, hk, ⟨why, violates, rfl⟩, lowest⟩
    refine ⟨_, why, ⟨k, hk, rfl⟩, violates, ?_, rfl⟩
    rintro _ other ⟨j, -, rfl⟩ hlt
    exact lowest j ((ordered j k).1 hlt) other
  · rintro ⟨_, why, ⟨k, hk, rfl⟩, violates, lowest, rfl⟩
    exact ⟨k, hk, ⟨why, violates, rfl⟩, fun j hj other => lowest _ other ⟨j, hj.trans hk, rfl⟩ ((ordered j k).2 hj)⟩

/-! ## The pieces of a burst -/

/-- A piece begins in the burst at a multiple of 8: at the burst's first byte or at a multiple of 256 (R21, R48). -/
theorem requestPieces_aligned {s : State} {r : Request} (hr : r.beatsLegal = true) (hw : requestWellFormed r = true) {p : Piece}
    (hp : p ∈ requestPieces s r) : burstFirst r ≤ p.first ∧ 8 ∣ p.first := by
  obtain ⟨hle, hshort, -⟩ := burst_bounds r hr
  have aligned : 8 ∣ burstFirst r := by
    simp only [requestWellFormed, requestAligned, Bool.and_eq_true, decide_eq_true_eq] at hw
    exact Nat.dvd_of_mod_eq_zero hw.1
  refine ⟨(piecesOf_sound _ _ _ hle hshort p hp).1, ?_⟩
  rw [requestPieces, piecesOf] at hp
  split at hp
  · rw [List.mem_singleton.1 hp]
    exact aligned
  · rcases List.mem_pair.1 hp with rfl | rfl
    · exact aligned
    · dsimp only; omega

theorem requestPieces_length_le_two (s : State) (r : Request) : (requestPieces s r).length ≤ 2 := by
  unfold requestPieces piecesOf
  split <;> simp

theorem causeSet_length_le_two (s : State) (r : Request) (beats : List WriteBeat) : (causeSet s r beats).length ≤ 2 := by
  have ordered : ∀ cs, (byIndex cs).length = cs.length := fun cs => by
    unfold byIndex
    split
    · split <;> rfl
    · rfl
  rw [causeSet, ordered]
  exact (List.length_filterMap_le _ _).trans (requestPieces_length_le_two s r)

/-! ## The findings of a write -/

theorem pieceFinding_eq_some_iff (s : State) (r : Request) (beats : List WriteBeat) (p : Piece) (i : Ix) (w : WatchPart) (f : Finding) :
    pieceFinding s r beats p = some (i, w, f) ↔
      p.region = some i ∧ (s.table.active.get i).part = .watch w ∧ firstViolation w r beats p = some f := by
  unfold pieceFinding
  cases p.region with
  | none => simp
  | some j =>
    dsimp only
    constructor
    · intro h
      split at h
      · next v hpart =>
        obtain ⟨g, hg, heq⟩ := Option.map_eq_some_iff.1 h
        cases heq
        exact ⟨rfl, hpart, hg⟩
      · cases h
      · cases h
      · cases h
    · rintro ⟨⟨⟩, hpart, hviolates⟩
      simp [hpart, hviolates]

theorem mem_findings_iff (s : State) (r : Request) (beats : List WriteBeat) (i : Ix) (w : WatchPart) (f : Finding) :
    (i, w, f) ∈ findings s r beats ↔ ∃ p ∈ requestPieces s r,
      p.region = some i ∧ (s.table.active.get i).part = .watch w ∧ firstViolation w r beats p = some f := by
  simp only [findings, List.mem_filterMap, pieceFinding_eq_some_iff]

/-- The findings of a write come in ascending address order, each for a region of its own (R21, R68). -/
theorem findings_pairwise {s : State} {r : Request} (hr : r.beatsLegal = true) (hw : requestWellFormed r = true)
    (beats : List WriteBeat) : (findings s r beats).Pairwise fun f g => f.2.2.addr < g.2.2.addr ∧ f.1 ≠ g.1 := by
  obtain ⟨hle, -, -⟩ := burst_bounds r hr
  have within : ∀ p ∈ requestPieces s r, ∀ w f, firstViolation w r beats p = some f → p.first ≤ f.addr ∧ f.addr ≤ p.last := by
    intro p hp w f hf
    obtain ⟨hfirst, haligned⟩ := requestPieces_aligned hr hw hp
    obtain ⟨a, why, ⟨hlo, hhi, -⟩, -, -, rfl⟩ :=
      (firstViolation_eq_some_iff w beats hfirst (w.width.bytes_dvd_eight.trans haligned) f).1 hf
    have positive := w.width.bytes_pos
    exact ⟨hlo, by dsimp only [findingAt]; omega⟩
  rw [findings, List.pairwise_filterMap]
  refine List.Pairwise.imp_of_mem (fun {p q} hp hq ⟨hmeet, _, hne⟩ => ?_) (piecesOf_pairwise s.table.active hle)
  rintro ⟨i, w, f⟩ hf ⟨j, v, g⟩ hg
  obtain ⟨hpi, -, hpf⟩ := (pieceFinding_eq_some_iff ..).1 hf
  obtain ⟨hqj, -, hqg⟩ := (pieceFinding_eq_some_iff ..).1 hg
  obtain ⟨-, hlast⟩ := within p hp w f hpf
  obtain ⟨hfirst, -⟩ := within q hq v g hqg
  refine ⟨by dsimp only; omega, fun same : i = j => hne ?_⟩
  rw [hpi, hqj, same]

/-! ## The window counts -/

/-- The window count of a region without a finding stays (R92). -/
theorem countWindows_get_of_forall_ne {s : State} {fs : List (Ix × WatchPart × Finding)} {i : Ix} (h : ∀ f ∈ fs, f.1 ≠ i) :
    (countWindows s fs).policy.windows.get i = s.policy.windows.get i := by
  unfold countWindows
  induction fs generalizing s with
  | nil => rfl
  | cons f fs ih =>
    rw [List.forall_mem_cons] at h
    rw [List.foldl_cons, ih h.2]
    exact Tab.get_set_of_ne _ _ h.1.symm

/-- The window count of a region with one finding goes up by one, saturating (R92). -/
theorem countWindows_get_of_exists {s : State} {fs : List (Ix × WatchPart × Finding)} (hne : fs.Pairwise fun f g => f.1 ≠ g.1) {i : Ix}
    (h : ∃ f ∈ fs, f.1 = i) : (countWindows s fs).policy.windows.get i = satInc (s.policy.windows.get i) := by
  induction fs generalizing s with
  | nil => simp at h
  | cons f fs ih =>
    obtain ⟨others, rest⟩ := List.pairwise_cons.1 hne
    have counted : countWindows s (f :: fs) = countWindows (countWindow s f.1) fs := rfl
    rw [counted]
    obtain ⟨g, hg, rfl⟩ := h
    rcases List.mem_cons.1 hg with rfl | later
    · rw [countWindows_get_of_forall_ne fun f hf => (others f hf).symm]
      exact Tab.get_set_self ..
    · rw [ih rest ⟨g, later, rfl⟩]
      exact congrArg satInc (Tab.get_set_of_ne _ _ (others g later).symm)

theorem satInc_eq_ite (c : BitVec 16) : satInc c = if c = 65535 then 65535 else c + 1 := by
  by_cases top : c = 65535
  · rw [top]; rfl
  · rw [if_neg top]; exact if_neg top

/-! ## The event of a refused write -/

theorem answerCode_answerStatus (s : State) (causes : List (Ix × Cause)) :
    answerCode (answerStatus s causes) = if ∀ c ∈ causes, (s.table.active.get c.1).refusal = .silent then 0 else 1 := by
  rw [answerStatus_eq, apply_ite answerCode]
  rfl

/-- Where every cause is a window, the refusal is told as the finding of its lowest region (R90, R91). -/
theorem refusalEvent_windows {s : State} {r : Request} {beats : List WriteBeat} {causes : List (Ix × Cause)} {i : Ix} {cause : Cause}
    (hall : ∀ c ∈ causes, c.2 = .window) (hi : (i, .window) ∈ causeSet s r beats) :
    ∃ w f, (i, w, f) ∈ findings s r beats ∧
      refusalEvent s r beats causes i cause = windowRefusedEvent s r causes i f := by
  obtain ⟨p, hp, hcause⟩ := (mem_causeSet_iff ..).1 hi
  obtain ⟨hregion, w, hpart, -, hviolates⟩ := (pieceCause_window_iff ..).1 hcause
  obtain ⟨f, hf⟩ := Option.isSome_iff_exists.1 hviolates
  have found : ((findings s r beats).find? fun f => f.1 == i).isSome = true :=
    List.find?_isSome.2 ⟨(i, w, f), (mem_findings_iff ..).2 ⟨p, hp, hregion, hpart, hf⟩, by simp⟩
  obtain ⟨⟨j, v, g⟩, hg⟩ := Option.isSome_iff_exists.1 found
  obtain rfl : j = i := by simpa using List.find?_some hg
  refine ⟨v, g, List.mem_of_find?_eq_some hg, ?_⟩
  rw [refusalEvent, if_pos (by simpa using hall), hg]

/-- Where a cause is no window, the refusal is told as WRITE_REFUSED (R75, R91). -/
theorem refusalEvent_of_other (s : State) (r : Request) (beats : List WriteBeat) {causes : List (Ix × Cause)} (i : Ix) (cause : Cause)
    (h : ∃ c ∈ causes, c.2 ≠ .window) : refusalEvent s r beats causes i cause = writeRefusedEvent s r causes i cause := by
  rw [refusalEvent, if_neg (by simpa using h)]

/-- Settles O26: the finding of a piece by the elements in it, the findings of a write by its pieces, and the events by the findings.
A cause set has at most two members, which is all that a window event's and a WRITE_REFUSED's detail have room for. -/
theorem windowFindings : Obligations.WindowFindings := by
  intro s r beats hr hw strobe data value full element violates fs counted shown
  have violates_iff : ∀ w a why, violates w a why ↔ Violates w r beats a why := by
    rintro w a (_ | _ | _) <;> rfl
  have shown_eq : ∀ f, shown f = findingBytes f := by
    rintro ⟨_, _, _, _ | _ | _, _⟩ <;> rfl
  have sorted := findings_pairwise (s := s) hr hw beats
  refine ⟨fun p hp w f => ?_, mem_findings_iff s r beats, sorted.imp And.left, countWindows_only s fs, fun i => ⟨?_, ?_⟩, ?_, ?_⟩
  · obtain ⟨hfirst, haligned⟩ := requestPieces_aligned hr hw hp
    simp only [violates_iff]
    exact firstViolation_eq_some_iff w beats hfirst (w.width.bytes_dvd_eight.trans haligned) f
  · exact fun found => (countWindows_get_of_exists (sorted.imp And.right) found).trans (satInc_eq_ite _)
  · exact countWindows_get_of_forall_ne
  · intro i f
    rw [shown_eq]
    rfl
  · intro i cause rest hc causes status
    have status_eq : answerCode (answerStatus s causes) = status := answerCode_answerStatus s causes
    have short : rest.length ≤ 1 := by
      have two := causeSet_length_le_two s r beats
      rw [hc, List.length_cons] at two
      omega
    refine ⟨fun hall => ?_, fun hother => ?_⟩
    · obtain rfl : cause = .window := hall (i, cause) List.mem_cons_self
      obtain ⟨w, f, hf, event⟩ := refusalEvent_windows (cause := .window) hall (hc ▸ List.mem_cons_self)
      refine ⟨w, f, hf, event.trans ?_⟩
      rw [windowRefusedEvent, shown_eq, status_eq]
      rcases rest with _ | ⟨second, _ | ⟨third, rest⟩⟩
      · rfl
      · rfl
      · simp at short
    · rw [refusalEvent_of_other s r beats i cause hother, writeRefusedEvent, status_eq]
      rcases rest with _ | ⟨second, _ | ⟨third, rest⟩⟩
      · rfl
      · rfl
      · simp at short

end Sys2Proof.Machine

/-! The Dirty List stays legal (R93). Only what adds a block (R96), the commands of the Dirty Tracker, SOFT_CLEAR, a switch (R39) and
power-on reset change the list or the threshold; each is shown to keep `DirtyLegal` once, and the operations and commands that use them
follow by composition. Tracked writes in flight, which many more operations count, is no part of `DirtyLegal`. -/

namespace Sys2Proof.Machine

/-! ## What changes the Dirty List or the threshold -/

/-- Taking entries out keeps the list legal. -/
theorem DirtyLegal.sublist {d d' : DirtyTracker} (hd : DirtyLegal d) (hl : d'.list.Sublist d.list) (ht : d'.threshold = d.threshold) :
    DirtyLegal d' := by
  obtain ⟨nodup, room, lower, upper⟩ := hd
  exact ⟨nodup.sublist hl, hl.length_le.trans room, ht ▸ lower, ht ▸ upper⟩

/-- A block that is not in the list yet, appended while there is room, keeps the list legal (R96). -/
theorem DirtyLegal.append {d d' : DirtyTracker} {entry : DirtyEntry} (hd : DirtyLegal d) (hnew : entry ∉ d.list)
    (hroom : d.list.length < 64) (hl : d'.list = d.list ++ [entry]) (ht : d'.threshold = d.threshold) : DirtyLegal d' := by
  obtain ⟨nodup, -, lower, upper⟩ := hd
  refine ⟨?_, ?_, ht ▸ lower, ht ▸ upper⟩
  · rw [hl]
    exact List.nodup_append_comm.1 (List.nodup_cons.2 ⟨hnew, nodup⟩)
  · rw [hl, List.length_append]
    exact hroom

theorem addTracked_dirtyLegal {s : State} (hs : DirtyLegal s.dirty) (host : HostId) (b : Ix × Entry × Granule × Nat) :
    DirtyLegal (addTracked s host b).dirty := by
  unfold addTracked
  by_cases hold : { region := b.1, block := b.2.2.2 } ∈ s.dirty.list
  · rwa [addBlock_merges _ _ _ _ _ _ hold]
  · by_cases hroom : s.dirty.list.length < 64
    · rw [addBlock_appends _ _ _ _ _ _ hold hroom]
      dsimp only
      split <;> exact hs.append hold hroom rfl rfl
    · rw [addBlock_overflows _ _ _ _ _ _ hold (Nat.not_lt.1 hroom)]
      split <;> exact hs

theorem doTakeDirty_dirtyLegal {s : State} (hs : DirtyLegal s.dirty) (count : Byte) : DirtyLegal (doTakeDirty count s).1.dirty := by
  unfold doTakeDirty
  split
  · exact hs
  · exact hs.sublist (List.drop_sublist _ _) rfl

theorem doClearDirty_dirtyLegal {s : State} (hs : DirtyLegal s.dirty) (index : Byte) : DirtyLegal (doClearDirty index s).1.dirty := by
  unfold doClearDirty
  split
  · exact hs
  · exact hs.sublist List.filter_sublist rfl

/-- A threshold outside 1 to 64 is refused (R102). -/
theorem doSetDirtyThreshold_dirtyLegal {s : State} (hs : DirtyLegal s.dirty) (threshold : Byte) :
    DirtyLegal (doSetDirtyThreshold threshold s).1.dirty := by
  unfold doSetDirtyThreshold
  split
  · exact hs
  · next inRange =>
    simp only [Bool.or_eq_true, decide_eq_true_eq, not_or, Nat.not_lt] at inRange
    obtain ⟨nodup, room, -, -⟩ := hs
    exact ⟨nodup, room, inRange⟩

theorem doSoftClear_dirtyLegal {s : State} (hs : DirtyLegal s.dirty) : DirtyLegal (doSoftClear s).1.dirty := by
  unfold doSoftClear
  split
  · exact hs
  · exact hs.sublist (List.nil_sublist _) rfl

theorem takeBetween_dirtyLegal {s : State} (hs : DirtyLegal s.dirty) (c : DirtyCommand) : DirtyLegal (takeBetween s c).dirty := by
  cases c with
  | takeDirty count => exact doTakeDirty_dirtyLegal hs count
  | clearDirty index => exact doClearDirty_dirtyLegal hs index
  | dirtyStatus => exact hs
  | setDirtyThreshold threshold => exact doSetDirtyThreshold_dirtyLegal hs threshold
  | softClear => exact doSoftClear_dirtyLegal hs

/-- A switch takes the entries of the regions that are no longer tracked out of the list (R39). -/
theorem switchSet_dirtyLegal {s : State} (hs : DirtyLegal s.dirty) (which : IxSet) : DirtyLegal (switchSet s which).dirty := by
  rw [switchSet, settle_dirty, switchJob_dirty]
  exact hs.sublist List.filter_sublist rfl

/-! ## Verdicts and the release of held transactions -/

theorem handOff_dirtyLegal {s : State} (hs : DirtyLegal s.dirty) (r : Request) (beats : List WriteBeat) (between : List DirtyCommand) :
    DirtyLegal (handOff s r beats between).dirty := by
  have reported : DirtyLegal (reportWindows s r (findings s r beats)).dirty := by rwa [reportWindows_dirty]
  unfold handOff addTrackedBlocks
  split
  · exact reported
  · exact addTracked_dirtyLegal reported _ _
  · exact foldl_keeps_prop (P := fun t => DirtyLegal t.dirty) (fun t b ht => addTracked_dirtyLegal ht r.id b) _
      (foldl_keeps_prop (P := fun t => DirtyLegal t.dirty) (fun t c ht => takeBetween_dirtyLegal ht c) _
        (addTracked_dirtyLegal reported _ _))

theorem countTracked_dirtyLegal {s : State} (hs : DirtyLegal s.dirty) (tracked : Bool) : DirtyLegal (countTracked s tracked).dirty := by
  unfold countTracked
  split <;> exact hs

theorem judgeWrite_dirtyLegal {s : State} (hs : DirtyLegal s.dirty) (x : Txn) (beats : List WriteBeat) (between : List DirtyCommand) :
    DirtyLegal (judgeWrite s x beats between).1.dirty := by
  have counted : DirtyLegal (countWindows s (findings s x.req beats)).dirty := by rwa [countWindows_dirty]
  unfold judgeWrite
  dsimp only
  split
  · exact handOff_dirtyLegal (countTracked_dirtyLegal counted _) _ _ _
  · rwa [raise_dirty, countRefusals_dirty]

theorem judge_dirtyLegal {s : State} (hs : DirtyLegal s.dirty) (x : Txn) (between : List DirtyCommand) :
    DirtyLegal (judge s x between).1.dirty := by
  unfold judge
  split
  · rwa [judgeMalformed_dirty]
  · split
    · rwa [judgeRead_dirty]
    · exact judgeWrite_dirtyLegal hs _ _ _

theorem verdictTime_dirtyLegal {s : State} (hs : DirtyLegal s.dirty) (earlier : List Txn) (x : Txn) (between : List DirtyCommand) :
    DirtyLegal (verdictTime s earlier x between).1.dirty := by
  unfold verdictTime
  split
  · exact judge_dirtyLegal hs _ _
  · split
    · exact hs
    · split
      · exact hs
      · exact judge_dirtyLegal hs _ _

theorem acceptRequest_dirtyLegal {s : State} (hs : DirtyLegal s.dirty) (r : Request) : DirtyLegal (acceptRequest s r).dirty := by
  unfold acceptRequest
  dsimp only
  split
  · exact hs
  · rw [afterVerdict_dirty, appendTxn_dirty]
    exact verdictTime_dirtyLegal (s := bumpTag s) hs _ _ _

theorem storeBeat_dirtyLegal {s : State} (hs : DirtyLegal s.dirty) (x : Txn) (offer : OfferedBeat) :
    DirtyLegal (storeBeat s x offer).dirty := by
  unfold storeBeat
  dsimp only
  split
  · exact hs
  · rw [afterVerdict_dirty, setTxn_dirty]
    exact verdictTime_dirtyLegal hs _ _ _

theorem releaseEach_dirtyLegal {s : State} (hs : DirtyLegal s.dirty) (portFree : Bool) (txns : List Txn) :
    DirtyLegal (releaseEach s portFree txns).1.dirty := by
  induction txns generalizing s with
  | nil => exact hs
  | cons x rest ih =>
    unfold releaseEach
    split
    · exact ih (judge_dirtyLegal hs _ _)
    · exact ih hs

theorem releaseHeld_dirtyLegal {s : State} (hs : DirtyLegal s.dirty) (portFree : Bool) : DirtyLegal (releaseHeld s portFree).dirty := by
  rw [releaseHeld, takeTurns_dirty]
  exact releaseEach_dirtyLegal hs _ _

/-! ## Drains and commits -/

theorem cutDrain_released_dirtyLegal {s : State} (hs : DirtyLegal s.dirty) (d : Drain) (o : LastOutcome) (portFree : Bool) :
    DirtyLegal (releaseHeld (cutDrain s d o) portFree).dirty :=
  releaseHeld_dirtyLegal (by rwa [cutDrain_dirty]) _

theorem completeDrain_dirtyLegal {s : State} (hs : DirtyLegal s.dirty) (d : Drain) (portFree : Bool) :
    DirtyLegal (completeDrain s d portFree).dirty := by
  unfold completeDrain
  refine releaseHeld_dirtyLegal ?_ _
  rw [endCommit_dirty]
  exact switchSet_dirtyLegal (by rwa [closeDrain_dirty]) _

theorem enterDraining_dirtyLegal {s : State} (hs : DirtyLegal s.dirty) (d : Drain) : DirtyLegal (enterDraining s d).dirty := by
  rwa [enterDraining, withholdClaim_dirty]

theorem acceptCommit_dirtyLegal {s : State} (hs : DirtyLegal s.dirty) : DirtyLegal (acceptCommit s).dirty := by
  have switched : DirtyLegal (switchSet s (immediatePart s.table)).dirty := switchSet_dirtyLegal hs _
  have drained := enterDraining_dirtyLegal switched (newDrain s)
  unfold acceptCommit
  dsimp only
  split
  · rwa [endCommit_dirty]
  · split
    · exact completeDrain_dirtyLegal drained _ _
    · exact drained

theorem doCommit_dirtyLegal {s : State} (hs : DirtyLegal s.dirty) : DirtyLegal (doCommit s).1.dirty := by
  unfold doCommit
  split
  · exact hs
  · split
    · exact hs
    · split
      · exact hs
      · exact hs
      · exact acceptCommit_dirtyLegal hs

theorem doAbortCommit_dirtyLegal {s : State} (hs : DirtyLegal s.dirty) : DirtyLegal (doAbortCommit s).1.dirty := by
  unfold doAbortCommit
  split
  · exact hs
  · exact cutDrain_released_dirtyLegal hs _ _ _

/-! ## Items of the memory, and the port reset -/

theorem landWrite_dirtyLegal {s : State} (hs : DirtyLegal s.dirty) (x : Txn) : DirtyLegal (landWrite s x).dirty := by
  unfold landWrite
  split
  · rw [finishWriteDrains_dirty, lowerAwaited_dirty]; exact hs
  · exact hs

theorem passItem_dirtyLegal {s : State} (hs : DirtyLegal s.dirty) (x : Txn) (item : MemItem) : DirtyLegal (passItem s x item).dirty := by
  have passed : DirtyLegal (setHead (putHostItem (countError s x item) (passedItem item)) none).dirty := by simpa using hs
  unfold passItem
  dsimp only
  split
  · exact passed
  · rw [retire_dirty]; exact landWrite_dirtyLegal passed x

theorem offerItem_dirtyLegal {s : State} (hs : DirtyLegal s.dirty) (item : MemItem) (hostReady : Bool) :
    DirtyLegal (offerItem s item hostReady).dirty := by
  have presented : DirtyLegal (giveChannel (setHead s (some item))).dirty := by simpa using hs
  unfold offerItem presentItem
  split
  · split
    · dsimp only
      split
      · exact passItem_dirtyLegal presented _ _
      · exact presented
    · exact hs
  · split <;> exact hs

theorem portResetCommit_dirtyLegal {s : State} (hs : DirtyLegal s.dirty) : DirtyLegal (portResetCommit (portResetBlocks s)).dirty := by
  have blocks : DirtyLegal (portResetBlocks s).dirty := by
    rw [portResetBlocks, finishWriteDrains_dirty, settle_dirty]; exact hs
  unfold portResetCommit
  split
  · rwa [cutDrain_dirty]
  · exact blocks

/-! ## Commands that leave the Dirty Tracker alone -/

/-- The commands that can change the Dirty Tracker. -/
def reachesDirty : Instr → Bool
  | .powerOnReset | .portResetAssert | .hostRequestAccept _ | .hostWriteBeat _ | .memoryResponseItemPass _ | .localAnswerSend _ _ _
  | .drainTimerExpiry | .drainComplete | .commit | .abortCommit | .takeDirty _ | .clearDirty _ | .setDirtyThreshold _ | .softClear => true
  | _ => false

/-- An outcome whose next state, if any, has the Dirty Tracker of the state before. -/
def KeepsDirty (s : State) (o : Host.Outcome State Fault Refusal) : Prop := ∀ t, o = .next t → t.dirty = s.dirty

theorem keepsDirty_next {s u : State} (h : u.dirty = s.dirty) : KeepsDirty s (.next u) := by
  rintro t ⟨⟩; exact h

theorem keepsDirty_stepWhen {s u : State} (ready : Bool) (h : u.dirty = s.dirty) : KeepsDirty s (stepWhen ready s u) :=
  fun _ ht => stepWhen_keeps (P := fun t => t.dirty = s.dirty) ht rfl fun _ _ => h

theorem keepsDirty_takeCommand {s : State} (n : Nat) {owner : State → State × Response} (h : (owner s).1.dirty = s.dirty) :
    KeepsDirty s (takeCommand n s owner) :=
  fun _ ht => takeCommand_keeps (P := fun t => t.dirty = s.dirty) ht rfl h

theorem keepsDirty_lifeCommand {s : State} (index : Byte) {allowed : Life → Bool} {effect : State → Ix → State × List Byte}
    (h : ∀ i, (effect s i).1.dirty = s.dirty) : KeepsDirty s (takeCommand 1 s fun t => lifeCommand index t allowed (effect t)) :=
  keepsDirty_takeCommand 1 (lifeCommand_keeps (P := fun t => t.dirty = s.dirty) rfl fun i _ _ _ _ _ => h i)

theorem verifyAt_dirty (s : State) (i : Ix) : (verifyAt s i).1.dirty = s.dirty := by
  unfold verifyAt joinDemand
  split <;> simp

theorem takeWriteBeat_dirty (s : State) (x : Txn) (beats : List WriteBeat) (sent : Nat) :
    (takeWriteBeat s x beats sent).dirty = s.dirty := by
  unfold takeWriteBeat
  split <;> rfl

theorem enableEngine_dirty (s : State) : (enableEngine s).dirty = s.dirty := by
  unfold enableEngine
  split
  · simp
  · split <;> simp
  all_goals rfl

theorem doStageEntry_dirty (index : Byte) (raw : RawEntry) (s : State) : (doStageEntry index raw s).1.dirty = s.dirty := by
  unfold doStageEntry
  split
  · rfl
  · split
    · rfl
    · split <;> rfl

/-- Every command but those listed leaves the Dirty Tracker as it was. -/
theorem exec_keepsDirty (c : Instr) (s : State) (hc : reachesDirty c = false) : KeepsDirty s (exec c s) := by
  cases c with
  | powerOnReset | portResetAssert | hostRequestAccept | hostWriteBeat | memoryResponseItemPass | localAnswerSend
  | drainTimerExpiry | drainComplete | commit | abortCommit | takeDirty | clearDirty | setDirtyThreshold | softClear => cases hc
  | powerOnResetRelease => exact keepsDirty_next rfl
  | portResetDeassert =>
    simp only [exec, execPortResetDeassert, resumeStarvation]
    split
    · exact keepsDirty_next rfl
    · split
      · exact keepsDirty_next rfl
      · exact keepsDirty_next (by split <;> rfl)
  | hostClaimGrant | scanClaimGrant | forcedClaimGrant =>
    simp only [exec, execHostClaimGrant, execScanClaimGrant, execForcedClaimGrant]
    split
    · exact keepsDirty_stepWhen _ rfl
    · exact keepsDirty_next rfl
  | memoryRequestTaken =>
    simp only [exec, execMemoryRequestTaken]
    split
    · split
      · exact keepsDirty_stepWhen _ rfl
      · exact keepsDirty_next rfl
    · exact keepsDirty_stepWhen _ rfl
    · exact keepsDirty_next rfl
  | memoryWriteBeatTaken =>
    simp only [exec, execMemoryWriteBeatTaken]
    split
    · exact keepsDirty_stepWhen _ (takeWriteBeat_dirty ..)
    · exact keepsDirty_next rfl
  | memoryResponseDiscard item =>
    simp only [exec, execMemoryResponseDiscard]
    split
    · exact keepsDirty_next rfl
    · exact keepsDirty_stepWhen _ rfl
  | localAnswerItemTaken =>
    simp only [exec, execLocalAnswerItemTaken]
    split
    · split
      · exact keepsDirty_stepWhen _ (takeLocalItem_dirty ..)
      all_goals exact keepsDirty_next rfl
    · exact keepsDirty_next rfl
  | chunkReadReturn data status =>
    simp only [exec, execChunkReadReturn]
    split
    · exact keepsDirty_stepWhen _ (returnChunk_dirty ..)
    all_goals exact keepsDirty_stepWhen _ rfl
  | chunkReadBeat data status =>
    simp only [exec, execChunkReadBeat]
    split
    all_goals exact keepsDirty_stepWhen _ rfl
  | commandFrameRejected frame partByte =>
    simp only [exec, execCommandFrameRejected]
    split
    · exact keepsDirty_stepWhen _ rfl
    · exact keepsDirty_next rfl
  | roundTimerExpiry => exact keepsDirty_stepWhen _ (startRound_dirty s)
  | writeDrainDone => exact keepsDirty_stepWhen _ (finishWriteDrains_dirty s)
  | idleGapMet | starvationTimerExpiry | fetch | emptyFrame => exact keepsDirty_stepWhen _ rfl
  | stageEntry index raw => exact keepsDirty_takeCommand 17 (doStageEntry_dirty index raw s)
  | discard mask => exact keepsDirty_takeCommand 2 (by unfold doDiscard; split <;> rfl)
  | readEntry index selector => exact keepsDirty_takeCommand 2 (by rw [doReadEntry_state])
  | openRegion index => exact keepsDirty_lifeCommand index (by simp)
  | closeRegion index => exact keepsDirty_lifeCommand index (by simp)
  | resign index => exact keepsDirty_lifeCommand index (by simp [resignAt])
  | verify index => exact keepsDirty_lifeCommand index (verifyAt_dirty s)
  | regionStatus index => exact keepsDirty_takeCommand 1 (by rw [doRegionStatus_state])
  | enable => exact keepsDirty_takeCommand 1 (enableEngine_dirty s)
  | disable => exact keepsDirty_takeCommand 1 (by unfold disableEngine scanAction; split <;> rfl)
  | resume => exact keepsDirty_takeCommand 1 (by unfold doResume; split <;> rfl)
  | readEvent => exact keepsDirty_takeCommand 0 (by unfold doReadEvent; split <;> rfl)
  | clearFlags mask => exact keepsDirty_takeCommand 1 (by unfold doClearFlags; split <;> rfl)
  | setAlertMask mask => exact keepsDirty_takeCommand 1 (by unfold doSetAlertMask; split <;> rfl)
  | setTiming => exact keepsDirty_takeCommand 10 (by unfold doSetTiming; split <;> rfl)
  | roundsOn | roundsOff => exact keepsDirty_takeCommand 1 rfl
  | commitStatus | scanStatus | eventStatus | dirtyStatus | portStatus | identify => exact keepsDirty_takeCommand 0 rfl

/-! ## Every command -/

theorem exec_dirtyLegal_of_reachesDirty {c : Instr} {s t : State} (hc : reachesDirty c = true) (h : exec c s = .next t)
    (hs : DirtyLegal s.dirty) : DirtyLegal t.dirty := by
  have stepped : ∀ {ready : Bool} {u : State}, stepWhen ready s u = .next t → DirtyLegal u.dirty → DirtyLegal t.dirty :=
    fun h hu => stepWhen_keeps (P := fun t => DirtyLegal t.dirty) h hs fun _ _ => hu
  have taken : ∀ {n : Nat} {owner : State → State × Response}, takeCommand n s owner = .next t → DirtyLegal (owner s).1.dirty →
      DirtyLegal t.dirty := fun h hu => takeCommand_keeps (P := fun t => DirtyLegal t.dirty) h hs hu
  have stays : Host.Outcome.next (φ := Fault) (ρ := Refusal) s = .next t → DirtyLegal t.dirty := by
    rintro ⟨⟩; exact hs
  cases c with
  | powerOnReset => cases h; exact dirtyLegal_reset
  | portResetAssert =>
    simp only [exec, execPortResetAssert] at h
    split at h
    · exact stays h
    · split at h
      · cases h; exact hs
      · cases h; exact portResetCommit_dirtyLegal hs
  | hostRequestAccept req =>
    simp only [exec, execHostRequestAccept] at h
    split at h
    · exact stepped h (acceptRequest_dirtyLegal hs req)
    · cases h
  | hostWriteBeat offer =>
    simp only [exec, execHostWriteBeat] at h
    split at h
    · exact stepped h (storeBeat_dirtyLegal hs _ offer)
    · exact stays h
  | memoryResponseItemPass offer => exact stepped h (offerItem_dirtyLegal hs _ _)
  | localAnswerSend dir id head =>
    refine stepped h ?_
    rw [sendLocal_dirty]
    cases head with
    | none => exact hs
    | some item => exact offerItem_dirtyLegal hs item false
  | drainTimerExpiry =>
    simp only [exec, execDrainTimerExpiry] at h
    split at h
    · exact stepped h (cutDrain_released_dirtyLegal hs _ _ _)
    · exact stays h
  | drainComplete =>
    simp only [exec, execDrainComplete] at h
    split at h
    · exact stepped h (completeDrain_dirtyLegal hs _ _)
    · exact stays h
  | commit => exact taken h (doCommit_dirtyLegal hs)
  | abortCommit => exact taken h (doAbortCommit_dirtyLegal hs)
  | takeDirty count => exact taken h (doTakeDirty_dirtyLegal hs count)
  | clearDirty index => exact taken h (doClearDirty_dirtyLegal hs index)
  | setDirtyThreshold threshold => exact taken h (doSetDirtyThreshold_dirtyLegal hs threshold)
  | softClear => exact taken h (doSoftClear_dirtyLegal hs)
  | _ => cases hc

theorem exec_dirtyLegal {c : Instr} {s t : State} (h : exec c s = .next t) (hs : DirtyLegal s.dirty) : DirtyLegal t.dirty := by
  cases hc : reachesDirty c with
  | true => exact exec_dirtyLegal_of_reachesDirty hc h hs
  | false => exact (exec_keepsDirty c s hc t h).symm ▸ hs

/-! ## Settled -/

/-- Settles O10: an addition appends a new block while there is room, every other change takes entries out, and the threshold is only
replaced by one from 1 to 64. -/
theorem dirtyListStaysLegal : Obligations.DirtyListStaysLegal := fun _ _ h =>
  step_keeps (P := fun s => DirtyLegal s.dirty) (fun _ _ hs => hs) (fun _ hs => hs) (fun _ _ _ hx hs => exec_dirtyLegal hx hs) h

end Sys2Proof.Machine

/-! The commands of the Dirty Tracker, SOFT_CLEAR, and the reports of IDENTIFY, DIRTY_STATUS and EVENT_STATUS, each as the answer and
the state that its operand or the state gives. -/

namespace Sys2Proof.Machine

/-! ## Layouts -/

/-- A list of bytes no longer than a result keeps all its bytes there, with zeros after them (R173). -/
theorem padTo_of_length_le {n : Nat} {bytes : List Byte} (h : bytes.length ≤ n) :
    padTo n bytes = bytes ++ List.replicate (n - bytes.length) 0 := by
  rw [padTo, List.take_append, List.take_of_length_le h, List.take_replicate, Nat.min_eq_left (Nat.sub_le ..)]

/-- A 16-bit value in a result: its low byte, then its high byte (section 10.6). -/
theorem leBytes_two (x : BitVec 16) : leBytes 2 x.toNat = [x.extractLsb' 0 8, x.extractLsb' 8 8] := by
  have low : BitVec.ofNat 8 x.toNat = x.extractLsb' 0 8 := by
    apply BitVec.eq_of_toNat_eq
    simp [BitVec.extractLsb'_toNat]
  have high : BitVec.ofNat 8 (x.toNat / 256) = x.extractLsb' 8 8 := by
    apply BitVec.eq_of_toNat_eq
    simp [BitVec.extractLsb'_toNat, Nat.shiftRight_eq_div_pow]
  simp [leBytes, List.range_succ, low, high]

/-- An entry of the Dirty List takes four bytes of a result (section 10.6). -/
theorem dirtyEntries_bytes_length (entries : List DirtyEntry) : (entries.flatMap DirtyEntry.bytes).length = 4 * entries.length := by
  induction entries with
  | nil => rfl
  | cons e rest ih =>
    have four : e.bytes.length = 4 := rfl
    rw [List.flatMap_cons, List.length_append, ih, four, List.length_cons, Nat.mul_succ, Nat.add_comm]

/-! ## TAKE_DIRTY, CLEAR_DIRTY and SET_DIRTY_THRESHOLD -/

theorem doTakeDirty_badCount {count : Byte} (s : State) (h : count.toNat = 0 ∨ 8 < count.toNat) :
    doTakeDirty count s = (s, { status := .range, result := List.replicate 36 0 }) := by
  unfold doTakeDirty
  rw [if_pos (by simp; omega)]
  rfl

/-- The oldest entries are taken, at most eight of them, so that their bytes fit the 32 of the result (R99). -/
theorem doTakeDirty_taken {count : Byte} (s : State) (hlo : 1 ≤ count.toNat) (hhi : count.toNat ≤ 8) :
    doTakeDirty count s =
      ({ s with dirty := { s.dirty with list := s.dirty.list.drop count.toNat } },
        okResponse ([BitVec.ofNat 8 (s.dirty.list.take count.toNat).length] ++
          ((s.dirty.list.take count.toNat).flatMap DirtyEntry.bytes ++
            List.replicate (32 - ((s.dirty.list.take count.toNat).flatMap DirtyEntry.bytes).length) 0) ++
          [BitVec.ofNat 8 (s.dirty.list.length - (s.dirty.list.take count.toNat).length)] ++ maskBytes s.dirty.overflow)) := by
  have fits : ((s.dirty.list.take count.toNat).flatMap DirtyEntry.bytes).length ≤ 32 := by
    rw [dirtyEntries_bytes_length, List.length_take]
    omega
  have left : (s.dirty.list.drop count.toNat).length = s.dirty.list.length - (s.dirty.list.take count.toNat).length := by
    rw [List.length_drop, List.length_take]
    omega
  unfold doTakeDirty
  rw [if_neg (by simp; omega)]
  dsimp only
  rw [padTo_of_length_le fits, left]

theorem doClearDirty_badIndex {index : Byte} (s : State) (h : 15 < index.toNat) :
    doClearDirty index s = (s, { status := .range, result := [0, 0] }) := by
  simp [doClearDirty, indexOf_above index h, refusedResponse, padTo]

theorem doClearDirty_cleared (i : Ix) (s : State) :
    doClearDirty (BitVec.ofNat 8 i.val) s =
      ({ s with dirty := { s.dirty with
          list := s.dirty.list.filter fun e => e.region ≠ i, overflow := s.dirty.overflow.set i false } },
        okResponse [BitVec.ofNat 8 (s.dirty.list.length - (s.dirty.list.filter fun e => e.region ≠ i).length),
          BitVec.ofNat 8 (s.dirty.list.filter fun e => e.region ≠ i).length]) := by
  simp [doClearDirty, indexOf_ofNat, bne, beq_eq_decide]

theorem doSetDirtyThreshold_badThreshold {threshold : Byte} (s : State) (h : threshold.toNat = 0 ∨ 64 < threshold.toNat) :
    doSetDirtyThreshold threshold s = (s, { status := .range, result := [0, 0] }) := by
  unfold doSetDirtyThreshold
  rw [if_pos (by simp; omega)]
  rfl

theorem doSetDirtyThreshold_replaced {threshold : Byte} (s : State) (hlo : 1 ≤ threshold.toNat) (hhi : threshold.toNat ≤ 64) :
    doSetDirtyThreshold threshold s =
      ({ s with dirty := { s.dirty with threshold := threshold.toNat } },
        okResponse [threshold, BitVec.ofNat 8 s.dirty.list.length]) := by
  unfold doSetDirtyThreshold
  rw [if_neg (by simp; omega)]

/-- Settles O57: the cases are those of each command's test of its operand. -/
theorem dirtyCommands : Obligations.DirtyCommands := by
  intro s n hp list
  refine ⟨fun h => ?_, fun hlo hhi => ?_, fun h => ?_, fun i hi => ?_, fun h => ?_, fun hlo hhi => ?_⟩
  · exact (takeCommand_taken _ _ _ hp).trans (by rw [doTakeDirty_badCount s h])
  · refine (takeCommand_taken _ _ _ hp).trans ?_
    rw [doTakeDirty_taken s hlo hhi]
    simp only [okResponse, List.append_assoc]
    rfl
  · exact (takeCommand_taken _ _ _ hp).trans (by rw [doClearDirty_badIndex s h])
  · subst hi
    exact (takeCommand_taken _ _ _ hp).trans (by rw [doClearDirty_cleared]; rfl)
  · exact (takeCommand_taken _ _ _ hp).trans (by rw [doSetDirtyThreshold_badThreshold s h])
  · exact (takeCommand_taken _ _ _ hp).trans (by rw [doSetDirtyThreshold_replaced s hlo hhi]; rfl)

/-! ## IDENTIFY, DIRTY_STATUS and EVENT_STATUS -/

/-- Settles O51: each report is its layout, with the 16-bit values as two bytes; the two after power-on reset are read off. -/
theorem identityAndUnitStatus : Obligations.IdentityAndUnitStatus := by
  refine ⟨?_, rfl, rfl⟩
  intro s hp two timing alert
  refine ⟨?_, takeCommand_report _ _ _ hp, ?_⟩
  · refine (takeCommand_report _ _ _ hp).trans ?_
    have config : leBytes 2 Config.partCode = [0x40, 0x03] := by decide
    simp [identifyResult, Timing.bytes, config, leBytes_two, Config.revision, Config.regions, Config.txnEntries, Config.writeSlots,
      Config.scanJobs, Config.dirtyEntries, Config.logRecords, two, timing]
  · refine (takeCommand_report _ _ _ hp).trans ?_
    have alerted : alertLow s = alert := by simp [alertLow, hp, alert]
    rw [eventStatusResult, alerted, leBytes_two]
    rfl

/-! ## SOFT_CLEAR -/

theorem doSoftClear_busy {s : State} (h : s.commit.draining ≠ none) :
    doSoftClear s = (s, { status := .busy, result := [] }) := by
  unfold doSoftClear
  rw [if_pos (Option.isSome_iff_ne_none.2 h)]
  rfl

theorem doSoftClear_cleared {s : State} (h : s.commit.draining = none) : doSoftClear s = (softClearState s, okResponse []) := by
  unfold doSoftClear
  rw [if_neg (by simp [h])]

/-- What becomes of the engine (R149): an outstanding read is discarded at its return, and any other engine is OFF at once. -/
theorem softClearEngine_eq (e : EngineState) :
    softClearEngine e = match e with
      | .reading r => .reading { r with disposition := .discard, offPending := true }
      | _ => .off := by
  cases e <;> rfl

/-- Settles O58: refused while a commit drains; otherwise block by block, where only the engine and the life states go by cases. -/
theorem softClear : Obligations.SoftClear := by
  refine fun s hp => ⟨fun hd => ?_, fun hd => ?_⟩
  · exact (takeCommand_taken _ _ _ hp).trans (by rw [doSoftClear_busy hd])
  · refine (takeCommand_taken _ _ _ hp).trans ?_
    rw [doSoftClear_cleared hd, softClearState, softClearScan, softClearEngine_eq]
    rfl

end Sys2Proof.Machine

/-! Jobs and life states. Of a life state only how it binds its region's job matters (`Standing`), and of the engine only whether it
must be without a context (`Stance`). What the queue, the context and the standings make together is the job side of a state; each way
in which jobs come, are taken, end or are withdrawn keeps it legal, said once here on job sides alone. -/

namespace Sys2Proof.Machine

/-! ## The job side of a state -/

/-- How a life state binds its region's jobs (R110, R129): not at all, to a queued or to the active SIGN job, or open to VERIFY jobs. -/
inductive Standing where
  | free
  | queued
  | active
  | signed

/-- The standing a life state gives. -/
def standing : Option Life → Standing
  | some (.signing .queued) => .queued
  | some (.signing .active) => .active
  | some (.intact _) | some (.corrupt _) => .signed
  | some .blank | some .opened | some (.signing (.drainingWrites _)) | none => .free

@[simp] theorem standing_blank : standing (some .blank) = .free := rfl
@[simp] theorem standing_opened : standing (some .opened) = .free := rfl
@[simp] theorem standing_none : standing none = .free := rfl
@[simp] theorem standing_drainingWrites (n : Nat) : standing (some (.signing (.drainingWrites n))) = .free := rfl
@[simp] theorem standing_queued : standing (some (.signing .queued)) = .queued := rfl
@[simp] theorem standing_active : standing (some (.signing .active)) = .active := rfl
@[simp] theorem standing_intact (ref : BitVec 32) : standing (some (.intact ref)) = .signed := rfl
@[simp] theorem standing_corrupt (ref : BitVec 32) : standing (some (.corrupt ref)) = .signed := rfl

theorem standing_eq_queued_iff (l : Option Life) : standing l = .queued ↔ l = some (.signing .queued) := by
  unfold standing; split <;> simp_all

theorem standing_eq_active_iff (l : Option Life) : standing l = .active ↔ l = some (.signing .active) := by
  unfold standing; split <;> simp_all

theorem standing_eq_signed_iff (l : Option Life) : standing l = .signed ↔ signed l = true := by
  unfold standing; split <;> simp_all [signed, referenceOf]

/-- Where an engine is without a context whatever it does next: IDLE, or discarding its outstanding read (R128). -/
inductive Stance where
  | idle
  | discarding
  | other

/-- The stance of an engine state. -/
def EngineState.stance : EngineState → Stance
  | .idle => .idle
  | .reading r => if r.disposition = .discard then .discarding else .other
  | .off | .waitingGap | .halted => .other

theorem stance_eq_idle_iff (e : EngineState) : e.stance = .idle ↔ e = .idle := by
  cases e with
  | reading r => simp only [EngineState.stance]; split <;> simp
  | off | idle | waitingGap | halted => simp [EngineState.stance]

/-- The standing that an active job's region has. -/
def JobKind.standing : JobKind → Standing
  | .sign => .active
  | .verifyRound | .verifyDemand => .signed

/-- The parts of the state that jobs are in; of the active job its region and kind, of the round timer whether it runs. -/
structure JobSide where
  standing : Ix → Standing
  stance : Stance
  job : Option (Ix × JobKind)
  queue : ScanQueue
  timed : Bool

/-- The region and kind of a job's context. -/
def JobContext.job (c : JobContext) : Ix × JobKind := (c.region, c.kind)

/-- The job side of a state. -/
def State.jobSide (s : State) : JobSide :=
  { standing := fun i => Machine.standing (s.sig.life.get i), stance := s.scan.engine.stance, job := s.scan.context.map JobContext.job,
    queue := s.scan.queue, timed := s.scan.roundTimer.isSome }

theorem jobSide_of_same {s t : State} (hsig : t.sig.life = s.sig.life) (hscan : t.scan = s.scan) : t.jobSide = s.jobSide := by
  unfold State.jobSide
  rw [hsig, hscan]

/-- Of the engine's state only its stance is looked at. -/
theorem jobSide_of_stance {s t : State} (hstance : t.scan.engine.stance = s.scan.engine.stance) (hsig : t.sig.life = s.sig.life)
    (hcontext : t.scan.context = s.scan.context) (hqueue : t.scan.queue = s.scan.queue)
    (htimer : t.scan.roundTimer = s.scan.roundTimer) : t.jobSide = s.jobSide := by
  unfold State.jobSide
  rw [hstance, hsig, hcontext, hqueue, htimer]

namespace JobSide

/-- `JobsLegal`, told of the job side, and no active job where the engine has none (R110, R128, R129). -/
structure Legal (w : JobSide) : Prop where
  nodup : (w.queue.sign ++ w.queue.demand ++ w.queue.round).Nodup
  sign : ∀ i, i ∈ w.queue.sign ↔ w.standing i = .queued
  verify : ∀ i ∈ w.queue.demand ++ w.queue.round, w.standing i = .signed
  job : ∀ i k, w.job = some (i, k) → w.standing i = k.standing ∧ i ∉ w.queue.demand ++ w.queue.round
  active : ∀ i, w.standing i = .active → w.job = some (i, .sign)
  vacant : w.stance ≠ .other → w.job = none

/-- Legal, and the round timer runs in IDLE only (R132). -/
structure Sound (w : JobSide) : Prop extends Legal w where
  timed : w.timed = true → w.stance = .idle

theorem Sound.of_stance {s t : State} (h : s.jobSide.Sound) (hstance : t.scan.engine.stance = s.scan.engine.stance)
    (hsig : t.sig.life = s.sig.life) (hcontext : t.scan.context = s.scan.context) (hqueue : t.scan.queue = s.scan.queue)
    (htimer : t.scan.roundTimer = s.scan.roundTimer) : t.jobSide.Sound := by
  rw [jobSide_of_stance hstance hsig hcontext hqueue htimer]
  exact h

/-! ## How jobs come and go -/

variable {w : JobSide}

/-- The region of a job is bound by it. -/
theorem Legal.job_standing_ne_free (h : w.Legal) {i : Ix} {k : JobKind} (hj : w.job = some (i, k)) : w.standing i ≠ .free := by
  rw [(h.job i k hj).1]
  cases k <;> nofun

/-- An engine without a job may be in any state, and any other only where it may have one. -/
theorem Legal.stance (h : w.Legal) {stance : Stance} {timed : Bool} (hs : stance ≠ .other → w.job = none) :
    Legal { w with stance := stance, timed := timed } :=
  { h with vacant := hs }

/-- A region that no job is bound to has none queued. -/
theorem Legal.not_queued_of_free (h : w.Legal) {i : Ix} (hi : w.standing i = .free) :
    i ∉ w.queue.sign ∧ i ∉ w.queue.demand ++ w.queue.round :=
  ⟨fun hm => by simp [(h.sign i).1 hm] at hi, fun hm => by simp [h.verify i hm] at hi⟩

/-- A SIGN job joins for a region that no job is bound to (R116, R130). -/
theorem Legal.queueSign (h : w.Legal) {i : Ix} (hi : w.standing i = .free) :
    Legal { w with
      standing := Function.update w.standing i .queued
      queue := { w.queue with sign := w.queue.sign ++ [i] } } := by
  obtain ⟨notSign, notVerify⟩ := h.not_queued_of_free hi
  have other : ∀ {k : JobKind} {j : Ix}, w.job = some (j, k) → j ≠ i := fun hj => by
    rintro rfl; exact h.job_standing_ne_free hj hi
  obtain ⟨nodup, sign, verify, job, active, vacant⟩ := h
  refine ⟨?_, fun j => ?_, fun j hj => ?_, fun j k hj => ?_, fun j hj => ?_, vacant⟩
  · simp only [List.append_assoc] at nodup notVerify ⊢
    grind
  · by_cases hj : j = i
    · subst hj; simp
    · simp [hj, sign]
  · have hne : j ≠ i := by rintro rfl; exact notVerify hj
    simpa [hne] using verify j hj
  · simpa [other hj] using job j k hj
  · by_cases hji : j = i
    · subst hji; simp at hj
    · exact active j (by simpa [hji] using hj)

/-- With no active job no standing is that of one. -/
theorem Legal.standing_ne_active (h : w.Legal) (hj : w.job = none) (i : Ix) : w.standing i ≠ .active := fun hi =>
  nomatch (h.active i hi).symm.trans hj

/-- An engine without a job takes a SIGN job, whose region is then ACTIVE (R110, R134). -/
theorem Legal.takeSign (h : w.Legal) (hj : w.job = none) {i : Ix} {rest : List Ix} (hq : w.queue.sign = i :: rest) (timed : Bool) :
    Legal { w with
      standing := Function.update w.standing i .active, stance := .other, job := some (i, .sign)
      queue := { w.queue with sign := rest }, timed := timed } := by
  have noneActive := h.standing_ne_active hj
  have queued : w.standing i = .queued := (h.sign i).1 (by simp [hq])
  obtain ⟨nodup, sign, verify, -, -, -⟩ := h
  rw [hq] at nodup sign
  have notVerify : i ∉ w.queue.demand ++ w.queue.round := fun hm => nomatch queued.symm.trans (verify i hm)
  have notRest : i ∉ rest := by grind
  refine ⟨by grind, fun j => ?_, fun j hm => ?_, ?_, fun j ha => ?_, nofun⟩
  · by_cases hji : j = i
    · subst hji; simp [notRest]
    · simpa [hji] using sign j
  · have hne : j ≠ i := by rintro rfl; exact notVerify hm
    simpa [hne] using verify j hm
  · rintro j k ⟨⟩
    exact ⟨by simp [JobKind.standing], notVerify⟩
  · by_cases hji : j = i
    · rw [hji]
    · exact absurd (by simpa [hji] using ha) (noneActive j)

/-- An engine without a job takes a VERIFY job that a class of the queue gives up (R134). -/
theorem Legal.takeVerify (h : w.Legal) (hj : w.job = none) {i : Ix} {k : JobKind} {demand round : List Ix} (hk : k.standing = .signed)
    (hq : (w.queue.demand ++ w.queue.round).Perm (i :: (demand ++ round))) (timed : Bool) :
    Legal { w with
      stance := .other, job := some (i, k)
      queue := { w.queue with demand := demand, round := round }, timed := timed } := by
  have noneActive := h.standing_ne_active hj
  obtain ⟨nodup, sign, verify, -, -, -⟩ := h
  rw [List.append_assoc] at nodup
  have nodup' : (w.queue.sign ++ i :: (demand ++ round)).Nodup := (hq.append_left _).nodup_iff.1 nodup
  refine ⟨by grind, sign, fun j hm => verify j (hq.mem_iff.2 (List.mem_cons_of_mem _ hm)), ?_,
    fun j ha => absurd ha (noneActive j), nofun⟩
  rintro j k ⟨⟩
  exact ⟨(verify i (hq.mem_iff.2 (List.mem_cons_self ..))).trans hk.symm, by grind⟩

/-- A round's jobs join for regions that are open to VERIFY jobs and have none (R133). -/
theorem Legal.enqueueRound (h : w.Legal) (hj : w.job = none) {jobs : List Ix} (hnodup : jobs.Nodup)
    (hjobs : ∀ i ∈ jobs, w.standing i = .signed ∧ i ∉ w.queue.demand ++ w.queue.round) (timed : Bool) :
    Legal { w with queue := { w.queue with round := w.queue.round ++ jobs }, timed := timed } := by
  obtain ⟨nodup, sign, verify, -, active, vacant⟩ := h
  have notSign : ∀ i ∈ jobs, i ∉ w.queue.sign := fun i hi hs => nomatch ((sign i).1 hs).symm.trans (hjobs i hi).1
  refine ⟨by grind, sign, fun i hi => ?_, fun i k hik => by simp [hj] at hik, active, vacant⟩
  rw [← List.append_assoc, List.mem_append] at hi
  exact hi.elim (verify i) fun hi => (hjobs i hi).1

/-- A DEMAND job joins in place of the region's ROUND job, if it has one (R130). -/
theorem Legal.joinDemand (h : w.Legal) {i : Ix} (hi : w.standing i = .signed) (hd : i ∉ w.queue.demand)
    (hj : ∀ k, w.job ≠ some (i, k)) :
    Legal { w with queue := { w.queue with round := w.queue.round.filter (· != i), demand := w.queue.demand ++ [i] } } := by
  obtain ⟨nodup, sign, verify, job, active, vacant⟩ := h
  have notSign : i ∉ w.queue.sign := by simp [sign, hi]
  refine ⟨by grind, sign, fun j hm => ?_, fun j k hjk => ⟨(job j k hjk).1, ?_⟩, active, vacant⟩
  · by_cases hji : j = i
    · rw [hji]; exact hi
    · exact verify j (by grind)
  · have := (job j k hjk).2
    have : j ≠ i := by rintro rfl; exact hj k hjk
    grind

/-- The active job ends, and leaves its region open to VERIFY jobs (R119, R120). -/
theorem Legal.finish (h : w.Legal) {i : Ix} {k : JobKind} (hj : w.job = some (i, k)) (stance : Stance) (timed : Bool) :
    Legal { w with standing := Function.update w.standing i .signed, stance := stance, job := none, timed := timed } := by
  obtain ⟨nodup, sign, verify, job, active, vacant⟩ := h
  have ended : w.standing i = .active ∨ w.standing i = .signed := by
    rw [(job i k hj).1]
    cases k <;> simp [JobKind.standing]
  refine ⟨nodup, fun j => ?_, fun j hm => ?_, nofun, fun j ha => ?_, fun _ => rfl⟩
  · by_cases hji : j = i
    · subst hji
      simpa [sign] using fun hq => by simp [hq] at ended
    · simpa [hji] using sign j
  · by_cases hji : j = i
    · simp [hji]
    · simpa [hji] using verify j hm
  · have hji : j ≠ i := by rintro rfl; simp at ha
    have := active j (by simpa [hji] using ha)
    rw [hj] at this
    cases this
    exact absurd rfl hji

/-- The job side with some regions withdrawn: no job is bound to them any more, and their queued jobs are gone (R38, R112, R114). -/
def withdrawn (w : JobSide) (gone : Ix → Bool) : JobSide :=
  { w with
    standing := fun i => if gone i then .free else w.standing i
    queue :=
      { sign := w.queue.sign.filter fun i => !gone i, demand := w.queue.demand.filter fun i => !gone i
        round := w.queue.round.filter fun i => !gone i } }

/-- Regions are withdrawn, and with them the active job if it is one of theirs (R121, R131, R146). -/
theorem Legal.withdraw (h : w.Legal) (gone : Ix → Bool) {stance : Stance} {job : Option (Ix × JobKind)}
    (hjob : ∀ j, job = some j ↔ w.job = some j ∧ gone j.1 = false) (hstance : stance ≠ .other → job = none) :
    Legal { w.withdrawn gone with stance := stance, job := job } := by
  have verifying : ∀ i, i ∈ (w.withdrawn gone).queue.demand ++ (w.withdrawn gone).queue.round →
      i ∈ w.queue.demand ++ w.queue.round ∧ gone i = false := by
    intro i hi
    simpa [withdrawn, ← or_and_right] using hi
  obtain ⟨nodup, sign, verify, active_job, active, -⟩ := h
  refine ⟨?_, fun i => ?_, fun i hi => ?_, fun i k hj => ?_, fun i ha => ?_, hstance⟩
  · simp only [withdrawn, ← List.filter_append]
    exact nodup.filter _
  · simp only [withdrawn, List.mem_filter, sign]
    cases gone i <;> simp
  · obtain ⟨hm, hg⟩ := verifying i hi
    simpa [withdrawn, hg] using verify i hm
  · obtain ⟨hj, hg⟩ := (hjob (i, k)).1 hj
    obtain ⟨hs, hnot⟩ := active_job i k hj
    exact ⟨by simpa [withdrawn, hg] using hs, fun hm => hnot (verifying i hm).1⟩
  · simp only [withdrawn] at ha
    split at ha
    · cases ha
    · next hg => exact (hjob (i, .sign)).2 ⟨active i ha, by simpa using hg⟩

end JobSide

end Sys2Proof.Machine

/-! What the engine's operations and those on life states make of the job side: taking a head, rounds, a SIGN job that is requested, the
end of the write drains, abandonment and the withdrawal of regions, and the end of a job. -/

namespace Sys2Proof.Machine

/-! ## The job side and the statement -/

/-- A state whose jobs and engine are legal has a sound job side. -/
theorem jobsSound_of_legal {s : State} (he : EngineLegal s.scan) (h : JobsLegal s) : s.jobSide.Sound := by
  obtain ⟨fits, -, -, -, timer⟩ := he
  obtain ⟨nodup, sign, verify, context, active⟩ := h
  refine ⟨⟨nodup, fun i => ?_, fun i hi => ?_, fun i k hj => ?_, fun i ha => ?_, fun hs => ?_⟩, fun ht => ?_⟩
  · exact (sign i).trans (standing_eq_queued_iff _).symm
  · exact (standing_eq_signed_iff _).2 (verify i hi)
  · obtain ⟨c, hc, hik⟩ := Option.map_eq_some_iff.1 hj
    cases hik
    obtain ⟨hfits, hnot⟩ := context c hc
    refine ⟨?_, hnot⟩
    unfold JobContext.fits at hfits
    cases hk : c.kind <;> rw [hk] at hfits
    · exact (standing_eq_active_iff _).2 (by simpa using hfits)
    all_goals exact (standing_eq_signed_iff _).2 hfits
  · obtain ⟨c, hc, rfl, hk⟩ := active i ((standing_eq_active_iff _).1 ha)
    simp [State.jobSide, hc, JobContext.job, hk]
  · have none : s.scan.context = none := by
      simp only [State.jobSide] at hs
      cases hengine : s.scan.engine with
      | reading r =>
        rw [hengine] at fits hs
        have hd : r.disposition = .discard := by
          by_contra hne; simp [EngineState.stance, hne] at hs
        simp only [EngineState.fits, hd, reduceCtorEq, if_false, Bool.and_eq_true, Bool.not_eq_true'] at fits
        simpa using fits.1.1
      | idle =>
        simp only [hengine, EngineState.fits, Bool.and_eq_true, Bool.not_eq_true'] at fits
        simpa using fits.1
      | off | waitingGap | halted => rw [hengine] at hs; exact absurd rfl hs
    simp [State.jobSide, none]
  · have due : roundsDue s.scan = true := timer ▸ ht
    simp only [roundsDue, Bool.and_eq_true, beq_iff_eq] at due
    exact (stance_eq_idle_iff _).2 due.1.2

theorem JobSide.Legal.jobsLegal {s : State} (h : s.jobSide.Legal) : JobsLegal s := by
  obtain ⟨nodup, sign, verify, job, active, -⟩ := h
  refine ⟨nodup, fun i => ?_, fun i hi => ?_, fun c hc => ?_, fun i hl => ?_⟩
  · exact (sign i).trans (standing_eq_queued_iff _)
  · exact (standing_eq_signed_iff _).1 (verify i hi)
  · obtain ⟨hs, hnot⟩ := job c.region c.kind (by simp [State.jobSide, hc, JobContext.job])
    refine ⟨?_, hnot⟩
    unfold JobContext.fits
    cases hk : c.kind <;> rw [hk] at hs
    · simpa using (standing_eq_active_iff _).1 hs
    all_goals exact (standing_eq_signed_iff _).1 hs
  · obtain ⟨c, hc, hik⟩ := Option.map_eq_some_iff.1 (active i ((standing_eq_active_iff _).2 hl))
    obtain ⟨hregion, hkind⟩ := Prod.mk.inj hik
    exact ⟨c, hc, hregion, hkind⟩

/-! ## Taking a head, and the round timer -/

theorem setLife_jobSide (s : State) (i : Ix) (l : Option Life) : (setLife s i l).jobSide =
    { s.jobSide with standing := Function.update s.jobSide.standing i (standing l) } := by
  simp only [State.jobSide, setLife_scan, setLife_life, JobSide.mk.injEq, and_self, and_true]
  funext j
  by_cases hj : j = i
  · subst hj; simp
  · simp [hj, Tab.get_set_of_ne _ _ hj]

/-- A life state that binds jobs as the old one did changes nothing. -/
theorem setLife_jobSide_same {s : State} {i : Ix} {l : Option Life} (h : standing l = s.jobSide.standing i) :
    (setLife s i l).jobSide = s.jobSide := by
  rw [setLife_jobSide, h, Function.update_eq_self]

theorem tellActive_verify (s : State) (i : Ix) {k : JobKind} (hk : k ≠ .sign) : tellActive s i k = s := by
  unfold tellActive
  split
  · exact absurd rfl hk
  · rfl

theorem tellActive_sign {s : State} {i : Ix} (h : s.jobSide.standing i = .queued) :
    tellActive s i .sign = setLife s i (some (.signing .active)) := by
  have : s.sig.life.get i = some (.signing .queued) := (standing_eq_queued_iff _).1 h
  simp [tellActive, this]

theorem enterWaiting_jobSide (s : State) : (enterWaiting s).jobSide = { s.jobSide with stance := .other } := rfl

theorem refreshRound_jobSide (s : State) : (refreshRound s).jobSide = { s.jobSide with timed := roundsDue s.scan } := by
  simp only [State.jobSide, refreshRound]
  cases roundsDue s.scan <;> rfl

/-- All that taking a head can do: nothing, or a job of one of the three classes is taken. -/
theorem takeHead_cases (s : State) : takeHead s = s ∨ s.scan.engine = .idle ∧ ∃ i k q,
    takeHead s = enterWaiting (tellActive
      { s with scan := { s.scan with queue := q, context := some (newContext i k), streak := 0 } } i k) ∧
    ((∃ rest, s.scan.queue.sign = i :: rest ∧ k = .sign ∧ q = { s.scan.queue with sign := rest }) ∨
      (∃ rest, s.scan.queue.demand = i :: rest ∧ k = .verifyDemand ∧ q = { s.scan.queue with demand := rest }) ∨
      ∃ rest, s.scan.queue.round = i :: rest ∧ k = .verifyRound ∧ q = { s.scan.queue with round := rest }) := by
  unfold takeHead
  split
  · next i k q he hp =>
    refine .inr ⟨he, i, k, q, rfl, ?_⟩
    unfold ScanQueue.pop at hp
    split at hp
    · next i' rest hs => cases hp; exact .inl ⟨rest, hs, rfl, rfl⟩
    · next i' rest _ hd => cases hp; exact .inr (.inl ⟨rest, hd, rfl, rfl⟩)
    · next i' rest _ _ hr => cases hp; exact .inr (.inr ⟨rest, hr, rfl, rfl⟩)
    · cases hp
  · exact .inl rfl

/-- Taking a head keeps jobs legal, and changes the standing of no region but a queued one. -/
theorem takeHead_legal {s : State} (h : s.jobSide.Legal) : (takeHead s).jobSide.Legal ∧
    ∀ j, s.jobSide.standing j ≠ .queued → (takeHead s).jobSide.standing j = s.jobSide.standing j := by
  rcases takeHead_cases s with heq | ⟨he, i, k, q, heq, hclass⟩
  · rw [heq]; exact ⟨h, fun _ _ => rfl⟩
  rw [heq, enterWaiting_jobSide]
  have vacant : s.jobSide.job = none := h.vacant (by simp [State.jobSide, he, EngineState.stance])
  rcases hclass with ⟨rest, hq, rfl, rfl⟩ | ⟨rest, hq, rfl, rfl⟩ | ⟨rest, hq, rfl, rfl⟩
  · have queued : s.jobSide.standing i = .queued := (h.sign i).1 (by simp [State.jobSide, hq])
    rw [tellActive_sign (by exact queued), setLife_jobSide]
    refine ⟨h.takeSign vacant hq _, fun j hj => Function.update_of_ne ?_ _ _⟩
    rintro rfl
    exact hj queued
  · rw [tellActive_verify _ _ (k := .verifyDemand) nofun]
    exact ⟨h.takeVerify vacant (i := i) (demand := rest) (round := s.scan.queue.round) rfl
      (by simp [State.jobSide, hq]) _, fun _ _ => rfl⟩
  · rw [tellActive_verify _ _ (k := .verifyRound) nofun]
    exact ⟨h.takeVerify vacant (i := i) (demand := s.scan.queue.demand) (round := rest) rfl
      (by simp [State.jobSide, hq, List.perm_middle]) _, fun _ _ => rfl⟩

/-- The round timer refreshed runs in IDLE only (R132). -/
theorem refreshRound_jobsSound {s : State} (h : s.jobSide.Legal) : (refreshRound s).jobSide.Sound := by
  rw [refreshRound_jobSide]
  refine ⟨h.stance h.vacant, fun ht => (stance_eq_idle_iff _).2 ?_⟩
  simp only [roundsDue, Bool.and_eq_true, beq_iff_eq] at ht
  exact ht.1.2

/-- What follows every change of the engine and its queue makes legal jobs sound: the round timer is stopped outside IDLE. -/
theorem settle_jobsSound {s : State} (h : s.jobSide.Legal) : (settle s).jobSide.Sound :=
  refreshRound_jobsSound (takeHead_legal h).1

theorem settle_standing {s : State} (h : s.jobSide.Legal) {i : Ix} (hi : s.jobSide.standing i ≠ .queued) :
    (settle s).jobSide.standing i = s.jobSide.standing i := by
  rw [settle, refreshRound_jobSide]
  exact (takeHead_legal h).2 i hi

theorem jobOf_none_iff (q : ScanQueue) (i : Ix) : q.jobOf i = none ↔ i ∉ q.sign ∧ i ∉ q.demand ++ q.round := by
  simp only [ScanQueue.jobOf, List.mem_append]
  grind

/-- The regions that join a round are open to VERIFY jobs and have none (R133). -/
theorem joinsRound_standing {s : State} {i : Ix} (h : joinsRound s i = true) :
    s.jobSide.standing i = .signed ∧ i ∉ s.jobSide.queue.demand ++ s.jobSide.queue.round := by
  unfold joinsRound at h
  split at h
  · next ref hl =>
    exact ⟨by simp [State.jobSide, hl], ((jobOf_none_iff s.scan.queue i).1 (by simpa using h)).2⟩
  all_goals cases h

theorem allIx_nodup : allIx.Nodup := by decide

/-- A round enqueued while the engine is IDLE keeps jobs sound (R133). -/
theorem enqueueRound_jobsSound {s : State} (h : s.jobSide.Sound) (hidle : s.jobSide.stance = .idle) : (enqueueRound s).jobSide.Sound := by
  have vacant : s.jobSide.job = none := h.vacant (by rw [hidle]; nofun)
  refine ⟨?_, fun _ => ?_⟩
  · by_cases hjobs : allIx.filter (joinsRound s) = []
    · rw [enqueueRound_none hjobs]
      exact h.toLegal.stance h.vacant
    · rw [enqueueRound_jobs hjobs]
      exact h.toLegal.enqueueRound vacant (allIx_nodup.filter _) (fun i hi => joinsRound_standing (List.mem_filter.1 hi).2) _
  · by_cases hjobs : allIx.filter (joinsRound s) = []
    · rw [enqueueRound_none hjobs]; exact hidle
    · rw [enqueueRound_jobs hjobs]; exact hidle

theorem meetRound_jobsSound {s : State} (h : s.jobSide.Sound) : (meetRound s).jobSide.Sound := by
  unfold meetRound
  split
  · next hdue =>
    simp only [Bool.and_eq_true, beq_iff_eq] at hdue
    dsimp only
    split
    · exact enqueueRound_jobsSound (s := { s with scan := { s.scan with ties := s.scan.ties + 1 } }) h ((stance_eq_idle_iff _).2 hdue.1)
    · exact h
  · exact h

@[simp] theorem meetRound_standing (s : State) : (meetRound s).jobSide.standing = s.jobSide.standing := by simp [State.jobSide]

/-! ## SIGN jobs, and the end of the write drains -/

theorem queueSign_jobSide (s : State) (i : Ix) : (queueSign s i).jobSide =
    { s.jobSide with
      standing := Function.update s.jobSide.standing i .queued
      queue := { s.jobSide.queue with sign := s.jobSide.queue.sign ++ [i] } } := by
  have side := setLife_jobSide s i (some (.signing .queued))
  exact congrArg (fun w : JobSide => { w with queue := { s.jobSide.queue with sign := s.jobSide.queue.sign ++ [i] } }) side

/-- A SIGN job requested for a region that no job is bound to keeps jobs sound (R116), and no other free region's standing changes. -/
theorem requestSign_jobsSound {s : State} (h : s.jobSide.Legal) {i : Ix} (hi : s.jobSide.standing i = .free) :
    (requestSign s i).jobSide.Sound ∧
      ∀ j, j ≠ i → s.jobSide.standing j = .free → (requestSign s i).jobSide.standing j = .free := by
  have queued : (queueSign s i).jobSide.Legal := by
    rw [queueSign_jobSide]; exact h.queueSign hi
  refine ⟨settle_jobsSound queued, fun j hji hj => ?_⟩
  have same : (queueSign s i).jobSide.standing j = .free := by
    rw [queueSign_jobSide]; simpa [hji] using hj
  rw [requestSign, settle_standing queued (by simp [same]), same]

theorem foldl_requestSign_jobsSound {regions : List Ix} (hnodup : regions.Nodup) {s : State} (h : s.jobSide.Sound)
    (hfree : ∀ i ∈ regions, s.jobSide.standing i = .free) : (regions.foldl requestSign s).jobSide.Sound := by
  induction regions generalizing s with
  | nil => exact h
  | cons i rest ih =>
    rw [List.nodup_cons] at hnodup
    rw [List.forall_mem_cons] at hfree
    obtain ⟨sound, others⟩ := requestSign_jobsSound h.toLegal hfree.1
    exact ih hnodup.2 sound fun j hj => others j (fun hji => hnodup.1 (hji ▸ hj)) (hfree.2 j hj)

theorem finishWriteDrains_jobsSound {s : State} (h : s.jobSide.Sound) : (finishWriteDrains s).jobSide.Sound := by
  unfold finishWriteDrains
  split
  · exact h
  · refine foldl_requestSign_jobsSound (allIx_nodup.filter _) (meetRound_jobsSound h) fun i hi => ?_
    have drained : s.sig.life.get i = some (.signing (.drainingWrites 0)) := (drainedRegion_iff s i).1 hi
    simp [State.jobSide, drained]

/-- How many writes a region awaits is no matter of its jobs (R115). -/
theorem lowerAwaited_jobSide (s : State) (x : Txn) : (lowerAwaited s x).jobSide = s.jobSide := by
  simp only [State.jobSide, lowerAwaited, Tab.get_ofFn, JobSide.mk.injEq, and_self, and_true]
  funext i
  split <;> simp [*]

theorem landWrite_jobsSound {s : State} (h : s.jobSide.Sound) (x : Txn) : (landWrite s x).jobSide.Sound := by
  unfold landWrite
  split
  · exact finishWriteDrains_jobsSound (by rw [lowerAwaited_jobSide]; exact h)
  · exact h

/-- CLOSE and RESIGN of a region that no job is bound to keep jobs sound (R113, R114, R116). -/
theorem startWriteDrain_jobsSound {s : State} (h : s.jobSide.Sound) {i : Ix} (hi : s.jobSide.standing i = .free) :
    (startWriteDrain s i).jobSide.Sound := by
  unfold startWriteDrain
  dsimp only
  split
  · exact (requestSign_jobsSound h.toLegal hi).1
  · rw [setLife_jobSide_same (by rw [hi]; rfl)]
    exact h

theorem meetSigning_jobsSound {s : State} (h : s.jobSide.Sound) (i : Ix) : (meetSigning s i).jobSide.Sound := by
  unfold meetSigning
  split
  · exact meetRound_jobsSound h
  · exact h

@[simp] theorem meetSigning_standing (s : State) (i : Ix) : (meetSigning s i).jobSide.standing = s.jobSide.standing := by
  simp [State.jobSide]

/-! ## Regions that are withdrawn -/

/-- A region whose job is not the active one is left alone (R146). -/
theorem abandon_other {s : State} {i : Ix} (h : ∀ c, s.scan.context = some c → c.region ≠ i) : abandon s i = s := by
  unfold abandon activeKind
  cases hc : s.scan.context with
  | none => rfl
  | some c => simp [h c hc]

/-- The active job of a region is dropped, and its result is ABANDONED (R121, R146). -/
theorem abandon_active {s : State} {c : JobContext} (hc : s.scan.context = some c) :
    abandon s c.region = setResult { s with scan := dropJob s.scan } c.region .abandoned := by
  simp [abandon, activeKind, hc]

/-- An engine without a job that is legal to be so is not the one that has the active job. -/
theorem JobSide.Legal.not_idle {s : State} (h : s.jobSide.Legal) {c : JobContext} (hc : s.scan.context = some c) :
    s.scan.engine ≠ .idle := fun he => by
  have vacant : s.jobSide.job = none := h.vacant (by simp [State.jobSide, he, EngineState.stance])
  simp [State.jobSide, hc] at vacant

/-- Of the job side, dropping the active job changes the stance and the job. -/
theorem dropJob_jobSide {t u : State} (he : t.scan.engine ≠ .idle) (hlife : u.sig.life = t.sig.life) (hscan : u.scan = dropJob t.scan) :
    u.jobSide = { t.jobSide with stance := u.scan.engine.stance, job := none } := by
  unfold State.jobSide
  rw [hlife, hscan, dropJob_eq he]
  rfl

/-- Regions withdrawn, none of them with the active job. -/
theorem withdraw_others {s t : State} (h : s.jobSide.Legal) {gone : Ix → Bool} (ht : t.jobSide = s.jobSide.withdrawn gone)
    (hgone : ∀ c, s.scan.context = some c → gone c.region = false) : t.jobSide.Legal := by
  rw [ht]
  refine h.withdraw gone (fun j => ⟨fun hj => ⟨hj, ?_⟩, And.left⟩) h.vacant
  obtain ⟨c, hc, rfl⟩ := Option.map_eq_some_iff.1 hj
  exact hgone c hc

/-- Regions withdrawn, and the active job, which is one of theirs, dropped. -/
theorem withdraw_active {s t u : State} (h : s.jobSide.Legal) {gone : Ix → Bool} (ht : t.jobSide = s.jobSide.withdrawn gone)
    (hengine : t.scan.engine = s.scan.engine) {c : JobContext} (hc : s.scan.context = some c) (hgone : gone c.region = true)
    (hlife : u.sig.life = t.sig.life) (hscan : u.scan = dropJob t.scan) : u.jobSide.Legal := by
  rw [dropJob_jobSide (hengine ▸ h.not_idle hc) hlife hscan, ht]
  refine h.withdraw gone (fun j => ⟨nofun, ?_⟩) fun _ => rfl
  rintro ⟨hj, hnot⟩
  simp only [State.jobSide, hc, Option.map_some, Option.some.injEq] at hj
  subst hj
  exact absurd hnot (by simp [JobContext.job, hgone])

/-- A region that is given a life state that binds no job, its queued job removed. -/
theorem unqueue_setLife_jobSide (s : State) (i : Ix) {l : Option Life} (hl : standing l = .free) :
    (unqueue (setLife s i l) i).jobSide = s.jobSide.withdrawn (· == i) := by
  have side : (unqueue (setLife s i l) i).jobSide = { (setLife s i l).jobSide with queue := s.scan.queue.remove i } := rfl
  rw [side, setLife_jobSide, hl]
  simp only [JobSide.withdrawn, JobSide.mk.injEq, and_true, true_and]
  refine ⟨?_, rfl⟩
  funext j
  by_cases hj : j = i
  · subst hj; simp
  · simp [hj]

/-- With a region withdrawn, its active job is abandoned (R112, R114). -/
theorem abandon_legal {s t : State} (h : s.jobSide.Legal) {i : Ix} (ht : t.jobSide = s.jobSide.withdrawn (· == i))
    (hcontext : t.scan.context = s.scan.context) (hengine : t.scan.engine = s.scan.engine) : (abandon t i).jobSide.Legal := by
  by_cases hother : ∀ c, t.scan.context = some c → c.region ≠ i
  · rw [abandon_other hother]
    exact withdraw_others h ht fun c hc => by simpa using hother c (hcontext.trans hc)
  · simp only [not_forall, not_not] at hother
    obtain ⟨c, hc, rfl⟩ := hother
    rw [abandon_active hc]
    exact withdraw_active h ht hengine (hcontext ▸ hc) (by simp) rfl rfl

@[simp] theorem abandon_life (s : State) (i : Ix) : (abandon s i).sig.life = s.sig.life := by
  unfold abandon
  split <;> rfl

theorem openAt_jobsSound {s : State} (h : s.jobSide.Legal) (i : Ix) : (openAt s i).jobSide.Sound :=
  settle_jobsSound (abandon_legal h (unqueue_setLife_jobSide s i rfl) rfl rfl)

/-- RESIGN takes the region's VERIFY job before its SIGN job can join (R114). -/
theorem resignAt_jobsSound {s : State} (h : s.jobSide.Legal) (i : Ix) :
    (resignAt s i).jobSide.Sound ∧ (resignAt s i).jobSide.standing i = .free := by
  have legal : (abandon (unqueue (setLife s i (some .blank)) i) i).jobSide.Legal :=
    abandon_legal h (unqueue_setLife_jobSide s i rfl) rfl rfl
  have free : (abandon (unqueue (setLife s i (some .blank)) i) i).jobSide.standing i = .free := by simp [State.jobSide]
  unfold resignAt dropVerify
  dsimp only
  split
  · next he =>
    have others : abandon (unqueue (setLife s i (some .blank)) i) i = unqueue (setLife s i (some .blank)) i :=
      abandon_other fun c hc => absurd he (h.not_idle hc)
    refine ⟨⟨legal, fun _ => ?_⟩, free⟩
    rw [others]
    exact (stance_eq_idle_iff _).2 he
  · exact ⟨settle_jobsSound legal, by rw [settle_standing legal (by rw [free]; nofun), free]⟩

/-- With regions withdrawn, the active job is abandoned if it is one of theirs (R38). -/
theorem switchJob_legal {s t : State} (h : s.jobSide.Legal) {changed : IxSet} (ht : t.jobSide = s.jobSide.withdrawn changed.get)
    (hcontext : t.scan.context = s.scan.context) (hengine : t.scan.engine = s.scan.engine) (old : Tab Entry) :
    (switchJob t old changed).jobSide.Legal := by
  by_cases hother : ∀ c, t.scan.context = some c → changed.get c.region = false
  · rw [switchJob_other old hother]
    exact withdraw_others h ht fun c hc => hother c (hcontext.trans hc)
  · simp only [not_forall, Bool.not_eq_false] at hother
    obtain ⟨c, hc, hch⟩ := hother
    rw [switchJob_abandons old hc hch]
    exact withdraw_active h ht hengine (hcontext ▸ hc) hch rfl rfl

/-- A switch withdraws the regions whose identity changes (R38). -/
theorem switchSet_jobsSound {s : State} (h : s.jobSide.Legal) (which : IxSet) : (switchSet s which).jobSide.Sound := by
  refine settle_jobsSound (switchJob_legal h ?_ ?_ ?_ _) <;> try rfl
  simp only [State.jobSide, JobSide.withdrawn, JobSide.mk.injEq, and_true, true_and]
  refine ⟨?_, rfl⟩
  funext i
  simp only [switchLife, Tab.get_ofFn]
  split
  · split <;> rfl
  · rfl

/-! ## The end of a job -/

@[simp] theorem reportVerify_jobSide (s : State) (i : Ix) (demand : Bool) (computed : BitVec 32) (fail : Bool) (after : Life) :
    (reportVerify s i demand computed fail after).jobSide = s.jobSide := jobSide_of_same (by simp) (by simp)

/-- A VERIFY job's result leaves its region open to VERIFY jobs (R120). -/
theorem applyVerify_jobSide {s : State} {i : Ix} (h : s.jobSide.standing i = .signed) (demand : Bool) (computed : BitVec 32) :
    (applyVerify s i demand computed).jobSide = s.jobSide := by
  unfold applyVerify
  split
  · split
    · simp; rfl
    · rw [reportVerify_jobSide]
      exact setLife_jobSide_same (s := countVerify s i) h.symm
  · split <;> (rw [reportVerify_jobSide]; rfl)
  all_goals rfl

/-- A SIGN job's result opens its region to VERIFY jobs (R119). -/
theorem applySign_jobSide {s : State} {i : Ix} (h : s.jobSide.standing i = .active) (computed : BitVec 32) :
    (applySign s i computed).jobSide = { s.jobSide with standing := Function.update s.jobSide.standing i .signed } := by
  have signing : s.sig.life.get i = some (.signing .active) := (standing_eq_active_iff _).1 h
  simp only [applySign, signing]
  exact setLife_jobSide s i (some (.intact computed))

theorem applyResult_jobSide {s : State} {c : JobContext} (h : s.jobSide.standing c.region = c.kind.standing) :
    (applyResult s c).jobSide = { s.jobSide with standing := Function.update s.jobSide.standing c.region .signed } := by
  unfold applyResult
  dsimp only
  cases hk : c.kind <;> rw [hk] at h
  case sign => exact applySign_jobSide h _
  all_goals
    refine (applyVerify_jobSide h _ _).trans ?_
    rw [show Standing.signed = s.jobSide.standing c.region from h.symm, Function.update_eq_self]

/-- An engine whose job has ended goes on without it (R137). -/
theorem afterJob_jobsSound {s : State} (h : s.jobSide.Legal) {c : JobContext} (hc : s.scan.context = some c) (off : Bool) :
    (afterJob (applyResult s c) off).jobSide.Sound := by
  have job : s.jobSide.job = some (c.region, c.kind) := by simp [State.jobSide, hc, JobContext.job]
  have result := applyResult_jobSide (h.job c.region c.kind job).1
  have ended : ∀ t : State, t.sig.life = (applyResult s c).sig.life → t.scan.context = none →
      t.scan.queue = (applyResult s c).scan.queue → t.jobSide.Legal := by
    intro t hlife hcontext hqueue
    have side : t.jobSide = { (applyResult s c).jobSide with
        stance := t.scan.engine.stance, job := none, timed := t.scan.roundTimer.isSome } := by
      simp only [State.jobSide, hlife, hcontext, hqueue, Option.map_none]
    rw [side, result]
    exact h.finish job _ _
  exact settle_jobsSound (ended _ rfl rfl rfl)

theorem afterChunk_jobSide (s : State) (off : Bool) : (afterChunk s off).jobSide = { s.jobSide with stance := .other } := by
  unfold afterChunk
  split <;> rfl

/-- An engine state that may go with a job takes the place of one that is not IDLE. -/
theorem JobSide.Sound.other {w : JobSide} (h : w.Sound) (hidle : w.stance ≠ .idle) : JobSide.Sound { w with stance := .other } :=
  ⟨h.toLegal.stance fun hne => absurd rfl hne, fun ht => absurd (h.timed ht) hidle⟩

theorem returnOk_jobsSound {s : State} (h : s.jobSide.Sound) {c : JobContext} (hc : s.scan.context = some c)
    (hidle : s.jobSide.stance ≠ .idle) (beats : List (BitVec 64 × RespStatus)) (off : Bool) : (returnOk s c beats off).jobSide.Sound := by
  have side : ({ s with scan := { s.scan with context := some (applyChunk c beats), streak := 0 } } : State).jobSide = s.jobSide := by
    simp [State.jobSide, hc, applyChunk, JobContext.job]
  unfold returnOk
  dsimp only
  split
  · exact afterJob_jobsSound (side ▸ h.toLegal) rfl _
  · rw [afterChunk_jobSide, side]
    exact h.other hidle

theorem returnErr_jobsSound {s : State} (h : s.jobSide.Sound) {c : JobContext} (hc : s.scan.context = some c)
    (hidle : s.jobSide.stance ≠ .idle) (a : Addr) (off : Bool) : (returnErr s c a off).jobSide.Sound := by
  have kept : ∀ t : State, t.sig.life = s.sig.life → t.scan.context = some { c with chunksDone := satInc c.chunksDone } →
      t.scan.queue = s.scan.queue → t.scan.roundTimer = s.scan.roundTimer → t.scan.engine.stance = .other → t.jobSide.Sound := by
    intro t hlife hcontext hqueue htimer hstance
    have side : t.jobSide = { s.jobSide with stance := .other } := by
      simp [State.jobSide, hlife, hcontext, hqueue, htimer, hstance, hc, JobContext.job]
    rw [side]
    exact h.other hidle
  unfold returnErr
  dsimp only
  split <;> cases off <;> exact kept _ rfl rfl rfl rfl rfl

/-- The return of a chunk read keeps jobs sound, whether its job goes on, ends, or was abandoned (R136, R137, R140, R147). -/
theorem returnChunk_jobsSound {s : State} (h : s.jobSide.Sound) {r : ChunkRead} (hr : s.scan.engine = .reading r)
    (beats : List (BitVec 64 × RespStatus)) : (returnChunk s r beats).jobSide.Sound := by
  have hidle : s.jobSide.stance ≠ .idle := fun hi => by
    have := (stance_eq_idle_iff _).1 hi
    rw [hr] at this; cases this
  unfold returnChunk
  split
  · next c _ hc =>
    split
    · exact returnOk_jobsSound h hc hidle _ _
    · exact returnErr_jobsSound h hc hidle _ _
  · next hnot =>
    have none : s.jobSide.job = none := by
      cases hc : s.scan.context with
      | none => simp [State.jobSide, hc]
      | some c =>
        have hd : r.disposition = .discard := by
          cases hd : r.disposition with
          | apply => exact absurd hc (hnot c hd)
          | discard => rfl
        exact h.vacant (by simp [State.jobSide, hr, EngineState.stance, hd])
    exact settle_jobsSound (h.toLegal.stance (timed := s.jobSide.timed) fun _ => none)

end Sys2Proof.Machine

/-! Every step keeps jobs sound: the commands that reach neither the engine's jobs nor a life state leave the job side as it is, and each
of the others is made of operations that keep it sound. -/

namespace Sys2Proof.Machine

/-! ## SOFT_CLEAR, verdicts and the release of held transactions -/

/-- SOFT_CLEAR leaves no job, and no region in SIGNING (R123, R149). -/
theorem softClearState_jobsSound (s : State) : (softClearState s).jobSide.Sound := by
  have standings : ∀ l, standing (softClearLife l) = .free ∨ standing (softClearLife l) = .signed := by
    intro l
    unfold softClearLife
    split
    · exact .inl rfl
    · next hnot =>
      unfold standing
      split <;> simp_all
  have unbound : ∀ i, (softClearState s).jobSide.standing i = .free ∨ (softClearState s).jobSide.standing i = .signed := fun i => by
    simpa [State.jobSide, softClearState] using standings (s.sig.life.get i)
  refine ⟨⟨List.nodup_nil, fun i => ⟨nofun, fun hq => ?_⟩, nofun, nofun, fun i ha => ?_, fun _ => rfl⟩, nofun⟩
  · rcases unbound i with hu | hu <;> rw [hu] at hq <;> cases hq
  · rcases unbound i with hu | hu <;> rw [hu] at ha <;> cases ha

theorem doSoftClear_jobsSound {s : State} (h : s.jobSide.Sound) : (doSoftClear s).1.jobSide.Sound := by
  unfold doSoftClear
  split
  · exact h
  · exact softClearState_jobsSound s

theorem takeBetween_jobsSound {s : State} (h : s.jobSide.Sound) (c : DirtyCommand) : (takeBetween s c).jobSide.Sound := by
  cases c with
  | takeDirty count => exact (by unfold doTakeDirty; split <;> exact h : (doTakeDirty count s).1.jobSide.Sound)
  | clearDirty index => exact (by unfold doClearDirty; split <;> exact h : (doClearDirty index s).1.jobSide.Sound)
  | dirtyStatus => exact h
  | setDirtyThreshold threshold =>
    exact (by unfold doSetDirtyThreshold; split <;> exact h : (doSetDirtyThreshold threshold s).1.jobSide.Sound)
  | softClear => exact doSoftClear_jobsSound h

/-- A property of the job side passes to a state with the same life states and the same engine. -/
theorem jobsSound_of_same {s t : State} (h : s.jobSide.Sound) (hsig : t.sig = s.sig) (hscan : t.scan = s.scan) : t.jobSide.Sound := by
  rw [jobSide_of_same (by rw [hsig]) hscan]
  exact h

theorem addTracked_jobsSound {s : State} (h : s.jobSide.Sound) (host : HostId) (b : Ix × Entry × Granule × Nat) :
    (addTracked s host b).jobSide.Sound := jobsSound_of_same h (by simp) (by simp)

theorem handOff_jobsSound {s : State} (h : s.jobSide.Sound) (r : Request) (beats : List WriteBeat) (between : List DirtyCommand) :
    (handOff s r beats between).jobSide.Sound := by
  have reported : (reportWindows s r (findings s r beats)).jobSide.Sound := jobsSound_of_same h (by simp) (by simp)
  unfold handOff addTrackedBlocks
  split
  · exact reported
  · exact addTracked_jobsSound reported _ _
  · exact foldl_keeps_prop (P := fun t => t.jobSide.Sound) (fun t b ht => addTracked_jobsSound ht r.id b) _
      (foldl_keeps_prop (P := fun t => t.jobSide.Sound) (fun t c ht => takeBetween_jobsSound ht c) _ (addTracked_jobsSound reported _ _))

theorem judge_jobsSound {s : State} (h : s.jobSide.Sound) (x : Txn) (between : List DirtyCommand) :
    (judge s x between).1.jobSide.Sound := by
  unfold judge
  split
  · exact jobsSound_of_same h (by simp) (by simp)
  · split
    · exact jobsSound_of_same h (by simp) (by simp)
    · unfold judgeWrite
      dsimp only
      split
      · have counted : (countTracked (countWindows s (findings s x.req x.beatsHeld))
            (!(trackedBlocks s x.req x.beatsHeld).isEmpty)).jobSide.Sound := jobsSound_of_same h (by simp) (by simp)
        exact jobsSound_of_same (handOff_jobsSound counted x.req x.beatsHeld between) (by simp) (by simp)
      · exact jobsSound_of_same h (by simp) (by simp)

theorem verdictTime_jobsSound {s : State} (h : s.jobSide.Sound) (earlier : List Txn) (x : Txn) (between : List DirtyCommand) :
    (verdictTime s earlier x between).1.jobSide.Sound := by
  unfold verdictTime
  split
  · exact judge_jobsSound h _ _
  · split
    · exact h
    · split
      · exact h
      · exact judge_jobsSound h _ _

theorem storeBeat_jobsSound {s : State} (h : s.jobSide.Sound) (x : Txn) (offer : OfferedBeat) : (storeBeat s x offer).jobSide.Sound := by
  unfold storeBeat
  dsimp only
  split
  · exact h
  · exact jobsSound_of_same (verdictTime_jobsSound h _ _ _) (afterVerdict_sig ..) (afterVerdict_scan ..)

theorem releaseEach_jobsSound {s : State} (h : s.jobSide.Sound) (portFree : Bool) (txns : List Txn) :
    (releaseEach s portFree txns).1.jobSide.Sound := by
  induction txns generalizing s with
  | nil => exact h
  | cons x rest ih =>
    unfold releaseEach
    split
    · exact ih (judge_jobsSound h _ _)
    · exact ih h

theorem releaseHeld_jobsSound {s : State} (h : s.jobSide.Sound) (portFree : Bool) : (releaseHeld s portFree).jobSide.Sound :=
  jobsSound_of_same (releaseEach_jobsSound h portFree s.tracker.txns) (by simp [releaseHeld]) (by simp [releaseHeld])

/-! ## Drains and commits -/

@[simp] theorem closeDrain_jobSide (s : State) : (closeDrain s).jobSide = s.jobSide := by
  unfold closeDrain
  dsimp only
  split <;> rfl

theorem cutDrain_jobSide (s : State) (d : Drain) (outcome : LastOutcome) :
    (cutDrain s d outcome).jobSide = s.jobSide :=
  closeDrain_jobSide s

theorem enterDraining_jobSide (s : State) (d : Drain) : (enterDraining s d).jobSide = s.jobSide := by
  unfold enterDraining withholdClaim
  split <;> rfl

theorem cutDrain_jobsSound {s : State} (h : s.jobSide.Sound) (d : Drain) (outcome : LastOutcome) :
    (cutDrain s d outcome).jobSide.Sound := by
  rw [cutDrain_jobSide]
  exact h

theorem completeDrain_jobsSound {s : State} (h : s.jobSide.Sound) (d : Drain) (portFree : Bool) :
    (completeDrain s d portFree).jobSide.Sound := by
  have closed : (closeDrain s).jobSide.Sound := by
    rw [closeDrain_jobSide]; exact h
  exact releaseHeld_jobsSound (jobsSound_of_same (switchSet_jobsSound closed.toLegal d.quiesce) (by simp) (by simp)) _

theorem acceptCommit_jobsSound {s : State} (h : s.jobSide.Sound) : (acceptCommit s).jobSide.Sound := by
  have switched := switchSet_jobsSound h.toLegal (immediatePart s.table)
  have drained : (enterDraining (switchSet s (immediatePart s.table)) (newDrain s)).jobSide.Sound := by
    rw [enterDraining_jobSide]; exact switched
  unfold acceptCommit
  dsimp only
  split
  · exact jobsSound_of_same switched (by simp) (by simp)
  · split
    · exact completeDrain_jobsSound drained _ _
    · exact drained

theorem doCommit_jobsSound {s : State} (h : s.jobSide.Sound) : (doCommit s).1.jobSide.Sound := by
  unfold doCommit
  split
  · exact h
  · split
    · exact h
    · split
      · exact h
      · exact h
      · exact acceptCommit_jobsSound h

theorem doAbortCommit_jobsSound {s : State} (h : s.jobSide.Sound) : (doAbortCommit s).1.jobSide.Sound := by
  unfold doAbortCommit
  split
  · exact h
  · exact releaseHeld_jobsSound (cutDrain_jobsSound h _ _) _

/-! ## Items of the memory, and the port reset -/

theorem passItem_jobsSound {s : State} (h : s.jobSide.Sound) (x : Txn) (item : MemItem) : (passItem s x item).jobSide.Sound := by
  have passed : (setHead (putHostItem (countError s x item) (passedItem item)) none).jobSide.Sound :=
    jobsSound_of_same h (by simp) (by simp)
  unfold passItem
  dsimp only
  split
  · exact passed
  · exact jobsSound_of_same (landWrite_jobsSound passed x) (by simp) (by simp)

theorem offerItem_jobsSound {s : State} (h : s.jobSide.Sound) (item : MemItem) (hostReady : Bool) :
    (offerItem s item hostReady).jobSide.Sound := by
  have presented : (giveChannel (setHead s (some item))).jobSide.Sound := jobsSound_of_same h (by simp) (by simp)
  unfold offerItem presentItem
  split
  · split
    · dsimp only
      split
      · exact passItem_jobsSound presented _ _
      · exact presented
    · exact h
  · split <;> exact h

/-- The assertion of PRST_N ends no job, and leaves an engine without one only where it had none (R148). -/
theorem portResetEngine_stance (e : ScanEngine) : (portResetEngine e).context = e.context ∧ (portResetEngine e).queue = e.queue ∧
    ((portResetEngine e).engine.stance ≠ .other → e.engine.stance ≠ .other) := by
  obtain ⟨engine, context, roundMode, queue, streak, starvation, forced, roundTimer, roundCount, forcedCount, ties⟩ := e
  cases engine with
  | reading r =>
    obtain ⟨addr, disposition, offPending, beats⟩ := r
    cases disposition <;> cases offPending <;> simp [portResetEngine, EngineState.stance]
  | off | idle | waitingGap | halted => simp [portResetEngine]

theorem portResetLife_standing (l : Option Life) : standing (portResetLife l) = standing l := by
  unfold portResetLife
  split <;> rfl

theorem portResetBlocks_jobsSound {s : State} (h : s.jobSide.Legal) : (portResetBlocks s).jobSide.Sound := by
  obtain ⟨context, queue, stance⟩ := portResetEngine_stance s.scan
  have cleared : ∀ t : State, t.sig.life = Tab.ofFn (fun i => portResetLife (s.sig.life.get i)) → t.scan = portResetEngine s.scan →
      t.jobSide.Legal := by
    intro t hlife hscan
    have side : t.jobSide = { s.jobSide with
        stance := (portResetEngine s.scan).engine.stance, timed := (portResetEngine s.scan).roundTimer.isSome } := by
      simp [State.jobSide, hlife, hscan, context, queue, portResetLife_standing]
    rw [side]
    exact h.stance fun hne => h.vacant (stance hne)
  exact finishWriteDrains_jobsSound (settle_jobsSound (cleared _ rfl rfl))

theorem portResetCommit_jobsSound {s : State} (h : s.jobSide.Sound) : (portResetCommit s).jobSide.Sound := by
  unfold portResetCommit
  split
  · exact cutDrain_jobsSound h _ _
  · exact h

/-! ## The life-cycle commands and SCAN_CONTROL -/

/-- CLOSE and RESIGN after what RESIGN drops: the region has no job, and its SIGN job joins or waits for its writes (R113, R114). -/
theorem beginDrain_jobsSound {s : State} (h : s.jobSide.Sound) {i : Ix} (hi : s.jobSide.standing i = .free) :
    (startWriteDrain (meetSigning s i) i).jobSide.Sound :=
  startWriteDrain_jobsSound (meetSigning_jobsSound h i) (by rw [meetSigning_standing, hi])

theorem resign_jobsSound {s : State} (h : s.jobSide.Sound) (i : Ix) :
    (startWriteDrain (meetSigning (resignAt (meetSigning s i) i) i) i).jobSide.Sound := by
  obtain ⟨sound, free⟩ := resignAt_jobsSound (meetSigning_jobsSound h i).toLegal i
  exact beginDrain_jobsSound sound free

theorem joinDemand_jobsSound {s : State} (h : s.jobSide.Legal) {i : Ix} (hi : s.jobSide.standing i = .signed)
    (hd : i ∉ s.jobSide.queue.demand) (hj : ∀ c, s.scan.context = some c → c.region ≠ i) : (joinDemand s i).jobSide.Sound := by
  refine settle_jobsSound (h.joinDemand hi hd fun k hk => ?_)
  obtain ⟨c, hc, hik⟩ := Option.map_eq_some_iff.1 hk
  exact hj c hc (Prod.mk.inj hik).1

theorem activeKind_eq_none_iff (s : State) (i : Ix) : activeKind s i = none ↔ ∀ c, s.scan.context = some c → c.region ≠ i := by
  unfold activeKind
  cases s.scan.context <;> simp

/-- A round that meets a joining job adds to the ROUND class alone (R133). -/
theorem meetRound_sign_demand_context (s : State) : (meetRound s).scan.queue.sign = s.scan.queue.sign ∧
    (meetRound s).scan.queue.demand = s.scan.queue.demand ∧ (meetRound s).scan.context = s.scan.context := by
  have enqueued : ∀ t : State, (enqueueRound t).scan.queue.sign = t.scan.queue.sign ∧
      (enqueueRound t).scan.queue.demand = t.scan.queue.demand ∧ (enqueueRound t).scan.context = t.scan.context := by
    intro t
    unfold enqueueRound
    split <;> exact ⟨rfl, rfl, rfl⟩
  rcases meetRound_cases s with heq | ⟨-, -, ⟨-, heq⟩ | ⟨-, heq⟩⟩ <;> rw [heq]
  · exact ⟨rfl, rfl, rfl⟩
  · exact enqueued _
  · exact ⟨rfl, rfl, rfl⟩

/-- A VERIFY job joins a region that has none queued in the DEMAND class (R117, R130). -/
theorem verifyAt_jobsSound {s : State} (h : s.jobSide.Sound) {i : Ix} (hi : s.jobSide.standing i = .signed) :
    (verifyAt s i).1.jobSide.Sound := by
  have notDemand : s.scan.queue.jobOf i = some .verifyRound ∨ s.scan.queue.jobOf i = none → i ∉ s.scan.queue.demand := by
    simp only [ScanQueue.jobOf]
    grind
  unfold verifyAt
  split
  · exact h
  · next hactive hjob => exact joinDemand_jobsSound h.toLegal hi (notDemand (.inl hjob)) ((activeKind_eq_none_iff s i).1 hactive)
  · exact h
  · exact h
  · next hactive hjob =>
    obtain ⟨-, demand, context⟩ := meetRound_sign_demand_context s
    refine joinDemand_jobsSound (meetRound_jobsSound h).toLegal (by rw [meetRound_standing, hi]) ?_ ?_
    · exact demand ▸ notDemand (.inr hjob)
    · exact context ▸ (activeKind_eq_none_iff s i).1 hactive

theorem enableEngine_jobsSound {s : State} (h : s.jobSide.Sound) : (enableEngine s).jobSide.Sound := by
  unfold enableEngine
  split
  · next hc =>
    have none : s.jobSide.job = none := by simp [State.jobSide, hc]
    exact settle_jobsSound (h.toLegal.stance (timed := s.jobSide.timed) fun _ => none)
  · next he _ =>
    have hidle : s.jobSide.stance ≠ .idle := by simp [State.jobSide, he, EngineState.stance]
    split <;> exact h.other hidle
  · next r he => exact h.of_stance (by rw [he]; rfl) rfl rfl rfl rfl
  all_goals exact h

theorem disableEngine_jobsSound {s : State} (h : s.jobSide.Sound) : (disableEngine s).jobSide.Sound := by
  unfold disableEngine
  split
  · exact h
  · exact refreshRound_jobsSound (h.toLegal.stance (stance := .other) (timed := s.jobSide.timed) fun hne => absurd rfl hne)
  all_goals next he => exact h.of_stance (by rw [he]; rfl) rfl rfl rfl rfl

theorem setRoundMode_jobsSound {s : State} (h : s.jobSide.Legal) (on : Bool) : (setRoundMode s on).jobSide.Sound :=
  refreshRound_jobsSound (s := { s with scan := { s.scan with roundMode := on } }) h

theorem startRound_jobsSound {s : State} (h : s.jobSide.Sound) (ht : s.scan.roundTimer.isSome = true) : (startRound s).jobSide.Sound := by
  have enqueued := enqueueRound_jobsSound h (h.timed ht)
  unfold startRound
  split
  · exact enqueued
  · exact settle_jobsSound enqueued.toLegal

/-! ## Commands that leave the job side alone -/

/-- The commands that can change the job side. -/
def reachesJobs : Instr → Bool
  | .powerOnReset | .portResetAssert | .hostWriteBeat _ | .memoryResponseItemPass _ | .localAnswerSend _ _ _ | .chunkReadReturn _ _
  | .roundTimerExpiry | .drainTimerExpiry | .drainComplete | .writeDrainDone | .commit | .abortCommit | .openRegion _ | .closeRegion _
  | .resign _ | .verify _ | .enable | .disable | .roundsOn | .roundsOff | .softClear => true
  | _ => false

/-- An outcome whose next state, if any, has the job side of the state before. -/
def KeepsJobs (s : State) (o : Host.Outcome State Fault Refusal) : Prop := ∀ t, o = .next t → t.jobSide = s.jobSide

theorem keepsJobs_next {s u : State} (h : u.jobSide = s.jobSide) : KeepsJobs s (.next u) := by
  rintro t ⟨⟩; exact h

theorem keepsJobs_stepWhen {s u : State} (ready : Bool) (h : ready = true → u.jobSide = s.jobSide) : KeepsJobs s (stepWhen ready s u) :=
  fun _ ht => stepWhen_keeps (P := fun t => t.jobSide = s.jobSide) ht rfl fun _ hr => h hr

theorem keepsJobs_takeCommand {s : State} (n : Nat) {owner : State → State × Response} (h : (owner s).1.jobSide = s.jobSide) :
    KeepsJobs s (takeCommand n s owner) :=
  fun _ ht => takeCommand_keeps (P := fun t => t.jobSide = s.jobSide) ht rfl h

/-- An engine in WAITING_GAP that is granted its chunk read goes on with its job (R135, R139). -/
theorem grantChunk_jobSide {s : State} (he : s.scan.engine = .waitingGap) (a : Nat) : (grantChunk s a).jobSide = s.jobSide :=
  jobSide_of_stance (by rw [he]; rfl) rfl rfl rfl rfl

theorem doStageEntry_jobSide (index : Byte) (raw : RawEntry) (s : State) : (doStageEntry index raw s).1.jobSide = s.jobSide := by
  unfold doStageEntry
  split
  · rfl
  · split
    · rfl
    · split <;> rfl

/-- Resuming a HALTED engine leaves it with its job (R142). -/
theorem doResume_jobSide (s : State) : (doResume s).1.jobSide = s.jobSide := by
  unfold doResume
  split
  · next he => exact jobSide_of_stance (by rw [he]; rfl) rfl rfl rfl rfl
  all_goals rfl

/-- Every command but those listed leaves the job side as it was. -/
theorem exec_keepsJobs (c : Instr) (s : State) (hc : reachesJobs c = false) : KeepsJobs s (exec c s) := by
  cases c with
  | powerOnReset | portResetAssert | hostWriteBeat | memoryResponseItemPass | localAnswerSend | chunkReadReturn | roundTimerExpiry
  | drainTimerExpiry | drainComplete | writeDrainDone | commit | abortCommit | openRegion | closeRegion | resign | verify | enable
  | disable | roundsOn | roundsOff | softClear => cases hc
  | powerOnResetRelease => exact keepsJobs_next rfl
  | portResetDeassert =>
    simp only [exec, execPortResetDeassert, resumeStarvation]
    split
    · exact keepsJobs_next rfl
    · split
      · exact keepsJobs_next rfl
      · exact keepsJobs_next (by split <;> rfl)
  | hostRequestAccept req =>
    simp only [exec, execHostRequestAccept]
    split
    · exact keepsJobs_stepWhen _ fun _ => jobSide_of_same (by simp) (by simp)
    · rintro t ⟨⟩
  | hostClaimGrant =>
    simp only [exec, execHostClaimGrant]
    split
    · exact keepsJobs_stepWhen _ fun _ => rfl
    · exact keepsJobs_next rfl
  | scanClaimGrant =>
    simp only [exec, execScanClaimGrant]
    split
    · refine keepsJobs_stepWhen _ fun hr => grantChunk_jobSide ?_ _
      simp only [scanGrantReady, claimable, Bool.and_eq_true, beq_iff_eq] at hr
      exact hr.1.1.2.1
    · exact keepsJobs_next rfl
  | forcedClaimGrant =>
    simp only [exec, execForcedClaimGrant]
    split
    · refine keepsJobs_stepWhen _ fun hr => grantChunk_jobSide ?_ _
      simp only [forcedGrantReady, Bool.and_eq_true, beq_iff_eq] at hr
      exact hr.1.1.2
    · exact keepsJobs_next rfl
  | memoryRequestTaken =>
    simp only [exec, execMemoryRequestTaken]
    split
    · split
      · exact keepsJobs_stepWhen _ fun _ => rfl
      · exact keepsJobs_next rfl
    · exact keepsJobs_stepWhen _ fun _ => rfl
    · exact keepsJobs_next rfl
  | memoryWriteBeatTaken =>
    simp only [exec, execMemoryWriteBeatTaken]
    split
    · exact keepsJobs_stepWhen _ fun _ => by unfold takeWriteBeat; split <;> rfl
    · exact keepsJobs_next rfl
  | memoryResponseDiscard item =>
    simp only [exec, execMemoryResponseDiscard]
    split
    · exact keepsJobs_next rfl
    · exact keepsJobs_stepWhen _ fun _ => rfl
  | localAnswerItemTaken =>
    simp only [exec, execLocalAnswerItemTaken]
    split
    · split
      · exact keepsJobs_stepWhen _ fun _ => jobSide_of_same (by simp) (by simp)
      all_goals exact keepsJobs_next rfl
    · exact keepsJobs_next rfl
  | chunkReadBeat data status =>
    simp only [exec, execChunkReadBeat]
    split
    · next r he => exact keepsJobs_stepWhen _ fun _ => jobSide_of_stance (by rw [he]; rfl) rfl rfl rfl rfl
    all_goals exact keepsJobs_stepWhen _ fun _ => rfl
  | commandFrameRejected frame partByte =>
    simp only [exec, execCommandFrameRejected]
    split
    · exact keepsJobs_stepWhen _ fun _ => rfl
    · exact keepsJobs_next rfl
  | idleGapMet | starvationTimerExpiry | fetch | emptyFrame => exact keepsJobs_stepWhen _ fun _ => rfl
  | stageEntry index raw => exact keepsJobs_takeCommand 17 (doStageEntry_jobSide index raw s)
  | discard mask => exact keepsJobs_takeCommand 2 (by unfold doDiscard; split <;> rfl)
  | readEntry index selector => exact keepsJobs_takeCommand 2 (by rw [doReadEntry_state])
  | regionStatus index => exact keepsJobs_takeCommand 1 (by rw [doRegionStatus_state])
  | resume => exact keepsJobs_takeCommand 1 (doResume_jobSide s)
  | readEvent => exact keepsJobs_takeCommand 0 (by unfold doReadEvent; split <;> rfl)
  | clearFlags mask => exact keepsJobs_takeCommand 1 (by unfold doClearFlags; split <;> rfl)
  | setAlertMask mask => exact keepsJobs_takeCommand 1 (by unfold doSetAlertMask; split <;> rfl)
  | setTiming => exact keepsJobs_takeCommand 10 (by unfold doSetTiming; split <;> rfl)
  | takeDirty count => exact keepsJobs_takeCommand 1 (by unfold doTakeDirty; split <;> rfl)
  | clearDirty index => exact keepsJobs_takeCommand 1 (by unfold doClearDirty; split <;> rfl)
  | setDirtyThreshold threshold => exact keepsJobs_takeCommand 1 (by unfold doSetDirtyThreshold; split <;> rfl)
  | commitStatus | scanStatus | eventStatus | dirtyStatus | portStatus | identify => exact keepsJobs_takeCommand 0 rfl

/-! ## Every command -/

theorem reset_jobsSound : State.reset.jobSide.Sound := by
  refine ⟨⟨List.nodup_nil, fun i => ?_, nofun, nofun, fun i ha => ?_, fun _ => rfl⟩, nofun⟩
  · simp [State.jobSide, State.reset, ScanEngine.reset, SignatureUnit.reset, ScanQueue.empty]
  · simp [State.jobSide, State.reset, SignatureUnit.reset] at ha

/-- A life-cycle command keeps jobs sound where its effect on a region it is allowed for does. -/
theorem lifeCommand_jobsSound {s t : State} (h : s.jobSide.Sound) {index : Byte} {allowed : Life → Bool}
    {effect : State → Ix → State × List Byte} (ht : takeCommand 1 s (fun t => lifeCommand index t allowed (effect t)) = .next t)
    (heffect : ∀ i l, s.sig.life.get i = some l → allowed l = true → (effect s i).1.jobSide.Sound) : t.jobSide.Sound :=
  takeCommand_keeps (P := fun t => t.jobSide.Sound) ht h
    (lifeCommand_keeps (P := fun t => t.jobSide.Sound) h fun i l _ _ hl ha => heffect i l hl ha)

theorem exec_jobsSound_of_reachesJobs {c : Instr} {s t : State} (hc : reachesJobs c = true) (ht : exec c s = .next t)
    (h : s.jobSide.Sound) : t.jobSide.Sound := by
  have stepped : ∀ {ready : Bool} {u : State}, stepWhen ready s u = .next t → (ready = true → u.jobSide.Sound) → t.jobSide.Sound :=
    fun ht hu => stepWhen_keeps (P := fun t => t.jobSide.Sound) ht h fun _ hr => hu hr
  have taken : ∀ {n : Nat} {owner : State → State × Response}, takeCommand n s owner = .next t → (owner s).1.jobSide.Sound →
      t.jobSide.Sound := fun ht hu => takeCommand_keeps (P := fun t => t.jobSide.Sound) ht h hu
  have stays : Host.Outcome.next (φ := Fault) (ρ := Refusal) s = .next t → t.jobSide.Sound := by
    rintro ⟨⟩; exact h
  cases c with
  | powerOnReset => cases ht; exact reset_jobsSound
  | portResetAssert =>
    simp only [exec, execPortResetAssert] at ht
    split at ht
    · exact stays ht
    · split at ht
      · cases ht; exact h
      · cases ht; exact portResetCommit_jobsSound (portResetBlocks_jobsSound h.toLegal)
  | hostWriteBeat offer =>
    simp only [exec, execHostWriteBeat] at ht
    split at ht
    · exact stepped ht fun _ => storeBeat_jobsSound h _ offer
    · exact stays ht
  | memoryResponseItemPass offer => exact stepped ht fun _ => offerItem_jobsSound h _ _
  | localAnswerSend dir id head =>
    refine stepped ht fun _ => jobsSound_of_same ?_ (sendLocal_sig ..) (sendLocal_scan ..)
    cases head with
    | none => exact h
    | some item => exact offerItem_jobsSound h item false
  | chunkReadReturn data status =>
    simp only [exec, execChunkReadReturn] at ht
    split at ht
    · next r hr => exact stepped ht fun _ => returnChunk_jobsSound h hr _
    all_goals exact stepped ht fun _ => h
  | roundTimerExpiry => exact stepped ht fun hr => startRound_jobsSound h hr
  | drainTimerExpiry =>
    simp only [exec, execDrainTimerExpiry] at ht
    split at ht
    · exact stepped ht fun _ => releaseHeld_jobsSound (cutDrain_jobsSound h _ _) _
    · exact stays ht
  | drainComplete =>
    simp only [exec, execDrainComplete] at ht
    split at ht
    · exact stepped ht fun _ => completeDrain_jobsSound h _ _
    · exact stays ht
  | writeDrainDone => exact stepped ht fun _ => finishWriteDrains_jobsSound h
  | commit => exact taken ht (doCommit_jobsSound h)
  | abortCommit => exact taken ht (doAbortCommit_jobsSound h)
  | openRegion index => exact lifeCommand_jobsSound h ht fun i _ _ _ => openAt_jobsSound h.toLegal i
  | closeRegion index =>
    refine lifeCommand_jobsSound h ht fun i l hl ha => beginDrain_jobsSound h ?_
    cases l <;> simp [closeAllowed] at ha
    simp [State.jobSide, hl]
  | resign index => exact lifeCommand_jobsSound h ht fun i _ _ _ => resign_jobsSound h i
  | verify index =>
    refine lifeCommand_jobsSound h ht fun i l hl ha => verifyAt_jobsSound h ?_
    cases l <;> simp [verifyAllowed] at ha <;> simp [State.jobSide, hl]
  | enable => exact taken ht (enableEngine_jobsSound h)
  | disable => exact taken ht (disableEngine_jobsSound h)
  | roundsOn | roundsOff => exact taken ht (setRoundMode_jobsSound h.toLegal _)
  | softClear => exact taken ht (doSoftClear_jobsSound h)
  | _ => cases hc

theorem exec_jobsSound {c : Instr} {s t : State} (ht : exec c s = .next t) (h : s.jobSide.Sound) : t.jobSide.Sound := by
  cases hc : reachesJobs c with
  | true => exact exec_jobsSound_of_reachesJobs hc ht h
  | false => exact (exec_keepsJobs c s hc t ht).symm ▸ h

/-- The passing of time starts and stops no timer. -/
theorem advance_jobSide (s : State) : (advance s).jobSide = s.jobSide := by
  simp [State.jobSide, advance]

/-! ## Settled -/

/-- Settles O16: with a legal engine, legal jobs are a sound job side, which every command keeps. -/
theorem jobsStayLegal : Obligations.JobsStayLegal := fun _ _ ht hengine _ hjobs =>
  JobSide.Legal.jobsLegal (step_keeps (P := fun s => s.jobSide.Sound) (fun _ _ h => h) (fun s h => (advance_jobSide s).symm ▸ h)
    (fun _ _ _ hx h => exec_jobsSound hx h) ht (jobsSound_of_legal hengine hjobs)).toLegal

end Sys2Proof.Machine

/-! The life-cycle commands: their tests in R111's order, what each leaves of the region, and the responses; and the abandonment of an
active job. -/

namespace Sys2Proof.Machine

/-! ## Abandonment -/

/-- Settles O39: the active job is dropped as the engine's state asks. -/
theorem jobsAreAbandoned : Obligations.JobsAreAbandoned := by
  intro s i dropped
  refine ⟨?_, abandon_other⟩
  rintro c hc rfl
  have abandoned : abandon s c.region = setResult { s with scan := dropJob s.scan } c.region .abandoned := abandon_active hc
  refine ⟨fun he => ?_, fun he => ?_, fun he => ?_, fun r he => ?_⟩ <;>
    (rw [abandoned, dropJob_eq (by rw [he]; nofun)]; simp only [he]; rfl)

/-! ## The tests of the life-cycle commands -/

/-- A command that leaves its state as it was answers alone. -/
theorem takeCommand_refused {s : State} {owner : State → State × Response} {r : Response} (n : Nat) (hp : s.pins.por = false)
    (h : owner s = (s, r)) : takeCommand n s owner = .next (answered s n r) := by
  rw [takeCommand_taken n s owner hp, h]

theorem lifeCommand_badIndex {index : Byte} (h : 15 < index.toNat) (s : State) (allowed : Life → Bool)
    (effect : Ix → State × List Byte) :
    lifeCommand index s allowed effect = (s, { status := .range, result := [0, 0, 0, 0] }) := by
  simp [lifeCommand, indexOf_above index h, refusedResponse, padTo]

theorem lifeCommand_unchecked {i : Ix} {s : State} (h : (s.table.active.get i).isChecked = false) (allowed : Life → Bool)
    (effect : Ix → State × List Byte) :
    lifeCommand (BitVec.ofNat 8 i.val) s allowed effect = (s, { status := .state, result := [0, 0, 0, 0] }) := by
  simp [lifeCommand, indexOf_ofNat, h, refusedResponse, padTo]

theorem lifeCommand_notAllowed {i : Ix} {s : State} {life : Life} (h : (s.table.active.get i).isChecked = true)
    (hl : s.sig.life.get i = some life) {allowed : Life → Bool} (ha : allowed life = false) (effect : Ix → State × List Byte) :
    lifeCommand (BitVec.ofNat 8 i.val) s allowed effect = (s, { status := .state, result := [0, 0, 0, 0] }) := by
  simp [lifeCommand, indexOf_ofNat, h, hl, ha, refusedResponse, padTo]

theorem lifeCommand_taken {i : Ix} {s : State} {life : Life} (h : (s.table.active.get i).isChecked = true)
    (hl : s.sig.life.get i = some life) {allowed : Life → Bool} (ha : allowed life = true) (effect : Ix → State × List Byte) :
    lifeCommand (BitVec.ofNat 8 i.val) s allowed effect = ((effect i).1, { status := .ok, result := (effect i).2 }) := by
  simp [lifeCommand, indexOf_ofNat, h, hl, ha, okResponse]

/-! ## OPEN -/

/-- The queue without a region's job, in the words of the statements. -/
theorem remove_eq (q : ScanQueue) (i : Ix) : q.remove i =
    { sign := q.sign.filter (· ≠ i), demand := q.demand.filter (· ≠ i), round := q.round.filter (· ≠ i) } := by
  have same : (fun j : Ix => j != i) = fun j => decide (j ≠ i) := funext fun j => by simp [bne, BEq.beq]
  simp only [ScanQueue.remove, same]

/-- What a life-cycle command reports is read off the region's life state (R111). -/
theorem lifeResult_eq {s : State} {i : Ix} {l : Option Life} (h : s.sig.life.get i = l) (outcome : Byte) :
    lifeResult s i outcome = [lifeCode l, subPhaseCode l, BitVec.ofNat 8 (awaitedOf l), outcome] := by
  rw [lifeResult, h]

/-- Settles O48: the region is withdrawn from the queue and the engine, and reported OPEN. -/
theorem openCommand : Obligations.OpenCommand := by
  intro s i life hp hchecked hl hne others t
  have opened : openAt s i = settle (abandon t i) := by
    rw [openAt, unqueue, remove_eq]
    rfl
  have life_opened : (openAt s i).sig.life.get i = some .opened := by
    rw [opened, (settle_calm _).opened, abandon_life]
    simp [t]
  have allowed : openAllowed life = true := by
    cases life with
    | opened => exact absurd rfl hne
    | blank | signing | intact | corrupt => rfl
  refine (takeCommand_taken 1 s _ hp).trans ?_
  rw [lifeCommand_taken hchecked hl allowed, lifeResult_eq life_opened, opened]
  rfl

/-! ## CLOSE and RESIGN -/

theorem meetSigning_awaited {s : State} {i : Ix} (h : writesInto s.tracker.txns (s.table.active.get i) ≠ 0) : meetSigning s i = s :=
  if_neg h

theorem meetSigning_none {s : State} {i : Ix} (h : writesInto s.tracker.txns (s.table.active.get i) = 0) :
    meetSigning s i = meetRound s := if_pos h

theorem startWriteDrain_awaited {s : State} {i : Ix} (h : writesInto s.tracker.txns (s.table.active.get i) ≠ 0) :
    startWriteDrain s i = setLife s i (some (.signing (.drainingWrites (writesInto s.tracker.txns (s.table.active.get i))))) :=
  if_neg h

theorem startWriteDrain_none {s : State} {i : Ix} (h : writesInto s.tracker.txns (s.table.active.get i) = 0) :
    startWriteDrain s i = settle (queueSign s i) := if_pos h

theorem beginSigning_life_awaited {s : State} {i : Ix} (h : writesInto s.tracker.txns (s.table.active.get i) ≠ 0) :
    (beginSigning s i).sig.life.get i =
      some (.signing (.drainingWrites (writesInto s.tracker.txns (s.table.active.get i)))) := by
  simp [beginSigning, h]

theorem beginSigning_life_none {s : State} {i : Ix} (h : writesInto s.tracker.txns (s.table.active.get i) = 0) :
    (beginSigning s i).sig.life.get i = some (.signing .queued) := by
  simp [beginSigning, h, queueSign]

/-- RESIGN's effects before the write drain, in the words of the statement (R114). -/
theorem resignAt_eq (s : State) (i : Ix) : resignAt s i =
    (let left := abandon { s with
        sig := { s.sig with life := s.sig.life.set i (some .blank) }
        scan := { s.scan with queue :=
          { sign := s.scan.queue.sign.filter (· ≠ i), demand := s.scan.queue.demand.filter (· ≠ i)
            round := s.scan.queue.round.filter (· ≠ i) } } } i
      if s.scan.engine = .idle then left else settle left) := by
  rw [resignAt, dropVerify, unqueue, remove_eq]
  rfl

/-- Neither the writes in flight nor the active copy changes in what comes before a write drain. -/
theorem writesInto_resignAt (s : State) (i : Ix) :
    writesInto (resignAt s i).tracker.txns ((resignAt s i).table.active.get i) = writesInto s.tracker.txns (s.table.active.get i) := by
  simp [resignAt]

theorem writesInto_meetRound (s : State) (i : Ix) :
    writesInto (meetRound s).tracker.txns ((meetRound s).table.active.get i) = writesInto s.tracker.txns (s.table.active.get i) := by
  simp

theorem exec_closeRegion {s : State} {i : Ix} (hp : s.pins.por = false) (hchecked : (s.table.active.get i).isChecked = true)
    (hl : s.sig.life.get i = some .opened) : exec (.closeRegion (BitVec.ofNat 8 i.val)) s =
      .next (answered (startWriteDrain (meetSigning s i) i) 1 { status := .ok, result := lifeResult (beginSigning s i) i 0 }) := by
  refine (takeCommand_taken 1 s _ hp).trans ?_
  rw [lifeCommand_taken hchecked hl rfl]

theorem exec_resign {s : State} {i : Ix} {life : Life} (hp : s.pins.por = false) (hchecked : (s.table.active.get i).isChecked = true)
    (hl : s.sig.life.get i = some life) (ha : resignAllowed life = true) : exec (.resign (BitVec.ofNat 8 i.val)) s =
      .next (answered (startWriteDrain (meetSigning (resignAt (meetSigning s i) i) i) i) 1
        { status := .ok, result := lifeResult (beginSigning (resignAt s i) i) i 0 }) := by
  refine (takeCommand_taken 1 s _ hp).trans ?_
  rw [lifeCommand_taken hchecked hl ha]

/-- Settles O49: with writes in flight the region awaits them, and otherwise its SIGN job joins, after RESIGN's abandonment. -/
theorem closeAndResign : Obligations.CloseAndResign := by
  intro s i life hp hchecked hl others signing
  have count : (s.tracker.txns.filter fun x => x.inFlight && x.isInto (s.table.active.get i)).length =
      writesInto s.tracker.txns (s.table.active.get i) := List.countP_eq_length_filter.symm
  have signs : ∀ (c : Instr) (prepared joining : State → State),
      (writesInto s.tracker.txns (s.table.active.get i) ≠ 0 → exec c s = .next (answered
        (setLife (prepared s) i (some (.signing (.drainingWrites (writesInto s.tracker.txns (s.table.active.get i)))))) 1
        { status := .ok, result := [3, 1, BitVec.ofNat 8 (writesInto s.tracker.txns (s.table.active.get i)), 0] })) →
      (writesInto s.tracker.txns (s.table.active.get i) = 0 → exec c s = .next (answered
        (settle (queueSign (joining (prepared (meetRound s))) i)) 1 { status := .ok, result := [3, 2, 0, 0] })) →
      signing c prepared joining := by
    intro c prepared joining awaited joins
    dsimp only [signing]
    rw [count]
    exact ⟨fun hn => awaited (Nat.ne_of_gt hn), joins⟩
  refine ⟨?_, fun hlife => ?_⟩
  · rintro rfl
    refine signs (.closeRegion (BitVec.ofNat 8 i.val)) (fun t => t) (fun t => t) (fun hn => ?_) fun hn => ?_
    · rw [exec_closeRegion hp hchecked hl, meetSigning_awaited hn, startWriteDrain_awaited hn,
        lifeResult_eq (beginSigning_life_awaited hn)]
      rfl
    · rw [exec_closeRegion hp hchecked hl, meetSigning_none hn, startWriteDrain_none ((writesInto_meetRound s i).trans hn),
        lifeResult_eq (beginSigning_life_none hn)]
      rfl
  · have allowed : resignAllowed life = true := by
      rcases hlife with rfl | ⟨_, rfl⟩ | ⟨_, rfl⟩ <;> rfl
    intro dropped
    have resigned : dropped = fun t => resignAt t i := funext fun t => (resignAt_eq t i).symm
    clear_value dropped
    subst resigned
    have dropped_writes := writesInto_resignAt s i
    refine signs (.resign (BitVec.ofNat 8 i.val)) (fun t => resignAt t i) meetRound (fun hn => ?_) fun hn => ?_
    · have hn' := dropped_writes.trans_ne hn
      rw [exec_resign hp hchecked hl allowed, meetSigning_awaited hn, meetSigning_awaited hn', startWriteDrain_awaited hn',
        lifeResult_eq (beginSigning_life_awaited hn'), dropped_writes]
      rfl
    · have met : writesInto (resignAt (meetRound s) i).tracker.txns ((resignAt (meetRound s) i).table.active.get i) = 0 := by
        rw [writesInto_resignAt, writesInto_meetRound, hn]
      rw [exec_resign hp hchecked hl allowed, meetSigning_none hn, meetSigning_none met,
        startWriteDrain_none ((writesInto_meetRound _ i).trans met), lifeResult_eq (beginSigning_life_none (dropped_writes.trans hn))]
      rfl

/-! ## VERIFY, and the refusals -/

theorem exec_verify {s : State} {i : Ix} {life : Life} (hp : s.pins.por = false) (hchecked : (s.table.active.get i).isChecked = true)
    (hl : s.sig.life.get i = some life) (ha : verifyAllowed life = true) : exec (.verify (BitVec.ofNat 8 i.val)) s =
      .next (answered (verifyAt s i).1 1 { status := .ok, result := lifeResult (verifyAt s i).1 i (verifyAt s i).2 }) := by
  refine (takeCommand_taken 1 s _ hp).trans ?_
  rw [lifeCommand_taken hchecked hl ha]

theorem verifyAt_active {s : State} {i : Ix} {c : JobContext} (hc : s.scan.context = some c) (hi : c.region = i) :
    verifyAt s i = (s, 4) := by
  simp [verifyAt, activeKind, hc, hi]

theorem verifyAt_demand {s : State} {i : Ix} (hc : ∀ c, s.scan.context = some c → c.region ≠ i)
    (hj : s.scan.queue.jobOf i = some .verifyDemand) : verifyAt s i = (s, 3) := by
  simp [verifyAt, (activeKind_eq_none_iff s i).2 hc, hj]

theorem verifyAt_round {s : State} {i : Ix} (hc : ∀ c, s.scan.context = some c → c.region ≠ i)
    (hj : s.scan.queue.jobOf i = some .verifyRound) : verifyAt s i = (joinDemand s i, 2) := by
  simp [verifyAt, (activeKind_eq_none_iff s i).2 hc, hj]

theorem verifyAt_none {s : State} {i : Ix} (hc : ∀ c, s.scan.context = some c → c.region ≠ i) (hj : s.scan.queue.jobOf i = none) :
    verifyAt s i = (joinDemand (meetRound s) i, if i ∈ (meetRound s).scan.queue.round then 2 else 1) := by
  simp [verifyAt, (activeKind_eq_none_iff s i).2 hc, hj]

/-- A DEMAND job that joins, in the words of the statement (R130). -/
theorem joinDemand_eq (s : State) (i : Ix) : joinDemand s i = settle { s with scan := { s.scan with queue := { s.scan.queue with
    round := s.scan.queue.round.filter (· ≠ i), demand := s.scan.queue.demand ++ [i] } } } := by
  have round := congrArg ScanQueue.round (remove_eq s.scan.queue i)
  simp only [ScanQueue.remove] at round
  rw [joinDemand, round]

/-- Taking a head changes no life state but that of a SIGN job's region, which is SIGNING (R110). -/
theorem settle_life {s : State} {i : Ix}
    (h : ∀ sub rest, s.scan.queue.sign = i :: rest → s.sig.life.get i ≠ some (.signing sub)) :
    (settle s).sig.life.get i = s.sig.life.get i := by
  rw [settle, refreshRound_sig]
  rcases takeHead_cases s with heq | ⟨-, j, k, q, heq, hclass⟩ <;> rw [heq]
  rw [enterWaiting_sig]
  rcases hclass with ⟨rest, hq, -, -⟩ | ⟨-, -, rfl, -⟩ | ⟨-, -, rfl, -⟩
  · unfold tellActive
    split
    · next sub hl =>
      have hij : i ≠ j := by
        rintro rfl
        exact h sub rest hq hl
      exact Tab.get_set_of_ne _ _ hij
    · rfl
  · rw [tellActive_verify _ _ (k := .verifyDemand) nofun]
  · rw [tellActive_verify _ _ (k := .verifyRound) nofun]

/-- Whether the life state is one that a life-cycle command is allowed from (R111 to R114, R117), as its own test says. -/
theorem openAllowed_iff (l : Life) : openAllowed l = true ↔ l ≠ .opened := by cases l <;> simp [openAllowed]

theorem closeAllowed_iff (l : Life) : closeAllowed l = true ↔ l = .opened := by cases l <;> simp [closeAllowed]

theorem resignAllowed_iff (l : Life) : resignAllowed l = true ↔ l ≠ .opened ∧ ∀ sub, l ≠ .signing sub := by
  cases l <;> simp [resignAllowed]

theorem verifyAllowed_iff (l : Life) : verifyAllowed l = true ↔ (∃ ref, l = .intact ref) ∨ ∃ ref, l = .corrupt ref := by
  cases l <;> simp [verifyAllowed]

/-- Settles O50: the refusals by the tests in their order, VERIFY's outcomes by the region's active or queued job. -/
theorem verifyAndRefusals : Obligations.VerifyAndRefusals := by
  intro s i hp b refuse allowed four
  refine ⟨fun k hk => ?_, fun c hc hunchecked => ?_, fun c hc l hchecked hl hnot => ?_, fun l hchecked hl hsigned => ?_⟩
  · have refused := fun able (effect : State → Ix → State × List Byte) =>
      takeCommand_refused (owner := fun t => lifeCommand k t able (effect t)) 1 hp (lifeCommand_badIndex hk s able (effect s))
    exact ⟨refused _ _, refused _ _, refused _ _, refused _ _⟩
  · have refused := fun able (effect : State → Ix → State × List Byte) =>
      takeCommand_refused (owner := fun t => lifeCommand b t able (effect t)) 1 hp
        (lifeCommand_unchecked hunchecked able (effect s))
    simp only [four, List.mem_cons, List.not_mem_nil, or_false] at hc
    rcases hc with rfl | rfl | rfl | rfl <;> exact refused _ _
  · have refused := fun (able : Life → Bool) (h : ¬able l = true) (effect : State → Ix → State × List Byte) =>
      takeCommand_refused (owner := fun t => lifeCommand b t able (effect t)) 1 hp
        (lifeCommand_notAllowed hchecked hl (Bool.eq_false_iff.2 h) (effect s))
    simp only [four, List.mem_cons, List.not_mem_nil, or_false] at hc
    rcases hc with rfl | rfl | rfl | rfl
    · exact refused openAllowed (fun ha => hnot (.inl ⟨rfl, (openAllowed_iff l).1 ha⟩)) _
    · exact refused closeAllowed (fun ha => hnot (.inr (.inl ⟨rfl, (closeAllowed_iff l).1 ha⟩))) _
    · exact refused resignAllowed (fun ha => hnot (.inr (.inr (.inl ⟨rfl, (resignAllowed_iff l).1 ha⟩)))) _
    · exact refused verifyAllowed (fun ha => hnot (.inr (.inr (.inr ⟨rfl, (verifyAllowed_iff l).1 ha⟩)))) _
  · intro code ok
    have answers : ∀ t outcome, verifyAt s i = (t, outcome) → t.sig.life.get i = some l → ok t outcome := by
      intro t outcome ht hlt
      dsimp only [ok]
      rw [exec_verify hp hchecked hl ((verifyAllowed_iff l).2 hsigned), ht, lifeResult_eq hlt]
      rcases hsigned with ⟨ref, rfl⟩ | ⟨ref, rfl⟩ <;> rfl
    have joined : ∀ t, t.sig = s.sig → (joinDemand t i).sig.life.get i = some l := by
      intro t ht
      have life : t.sig.life.get i = some l := ht ▸ hl
      refine (settle_life fun sub _ _ hsub => ?_).trans life
      cases life.symm.trans hsub
      rcases hsigned with ⟨_, h⟩ | ⟨_, h⟩ <;> cases h
    refine ⟨fun c hc hi => answers s 4 (verifyAt_active hc hi) hl, fun hc hj => answers s 3 (verifyAt_demand hc hj) hl,
      fun hc hj => ?_, fun hc hj => ?_⟩
    · rw [← joinDemand_eq]
      exact answers _ 2 (verifyAt_round hc hj) (joined s rfl)
    · intro met
      rw [← joinDemand_eq]
      exact answers _ _ (verifyAt_none hc hj) (joined _ (meetRound_sig s))

end Sys2Proof.Machine

/-! The end of a SIGN or VERIFY job: what the last chunk's return hands to the Signature Unit, and what the unit makes of it. -/

namespace Sys2Proof.Machine

theorem Tab.set_own {α : Type} {t : Tab α} {i : Ix} {x : α} (h : t.get i = x) : t.set i x = t := by
  refine Tab.ext_get fun j => ?_
  by_cases hj : j = i
  · subst hj; rw [Tab.get_set_self, h]
  · rw [Tab.get_set_of_ne _ _ hj]

/-- A region given a life state, a last job result and a verify count, with the events its job raised (R119, R120). -/
def recordJob (s : State) (i : Ix) (life : Life) (result : JobResult) (count : BitVec 16) (events : EventUnit) : State :=
  { s with
    sig := { life := s.sig.life.set i (some life), lastResult := s.sig.lastResult.set i result
             verifyCount := s.sig.verifyCount.set i count }
    events := events }

section Results
variable {s : State} {i : Ix}

/-- A completed SIGN job makes its signature the reference (R119). -/
theorem applySign_eq {l : Life} (hl : s.sig.life.get i = some l) (computed : BitVec 32) : applySign s i computed =
    recordJob s i (.intact computed) .pass (s.sig.verifyCount.get i)
      (s.events.take (signDoneEvent i (regionAddr s i) computed)) := by
  rw [applySign, hl, recordJob, Tab.set_own (t := s.sig.verifyCount) rfl]
  rfl

/-- The VERIFY_RESULT that a DEMAND job adds (R120). -/
theorem reportVerify_eq (t : State) (demand : Bool) (computed : BitVec 32) (fail : Bool) (after : Life) :
    reportVerify t i demand computed fail after = { t with
      events := if demand then t.events.take (verifyResultEvent i (regionAddr t i) computed fail after) else t.events } := by
  cases demand <;> rfl

/-- A VERIFY job that finds the reference leaves the region INTACT (R120). -/
theorem applyVerify_match {ref computed : BitVec 32} (hl : s.sig.life.get i = some (.intact ref)) (demand : Bool)
    (h : computed = ref) : applyVerify s i demand computed =
    recordJob s i (.intact ref) .pass (s.sig.verifyCount.get i + 1)
      (if demand then s.events.take (verifyResultEvent i (regionAddr s i) computed false (.intact ref)) else s.events) := by
  simp only [applyVerify, hl, if_pos h, reportVerify_eq, recordJob, Tab.set_own hl]
  rfl

/-- A VERIFY job that differs makes an INTACT region CORRUPT (R120). -/
theorem applyVerify_mismatch {ref computed : BitVec 32} (hl : s.sig.life.get i = some (.intact ref)) (demand : Bool)
    (h : computed ≠ ref) : applyVerify s i demand computed =
    recordJob s i (.corrupt ref) .mismatch (s.sig.verifyCount.get i + 1)
      (let noted := s.events.take (mismatchEvent i (regionAddr s i) ref computed)
       if demand then noted.take (verifyResultEvent i (regionAddr s i) computed true (.corrupt ref)) else noted) := by
  simp only [applyVerify, hl, if_neg h, reportVerify_eq]
  rfl

/-- A VERIFY job of a CORRUPT region leaves it CORRUPT, whatever it finds (R120). -/
theorem applyVerify_corrupt {ref : BitVec 32} (hl : s.sig.life.get i = some (.corrupt ref)) (demand : Bool) (computed : BitVec 32) :
    applyVerify s i demand computed =
    recordJob s i (.corrupt ref) (if computed = ref then .pass else .mismatch) (s.sig.verifyCount.get i + 1)
      (if demand then s.events.take (verifyResultEvent i (regionAddr s i) computed (decide (computed ≠ ref)) (.corrupt ref))
        else s.events) := by
  by_cases h : computed = ref
  · simp only [applyVerify, hl, if_pos h, reportVerify_eq, recordJob, Tab.set_own hl, decide_eq_false (not_not.2 h)]
    rfl
  · simp only [applyVerify, hl, if_neg h, reportVerify_eq, recordJob, Tab.set_own hl, decide_eq_true h]
    rfl

end Results

theorem applyResult_sign {c : JobContext} {i : Ix} {computed : BitVec 32} (hsig : crc32Final c.crc = computed)
    (hi : c.region = i) (hk : c.kind = .sign) (s : State) : applyResult s c = applySign s i computed := by
  rw [applyResult, hk, hi, hsig]

theorem applyResult_verify {c : JobContext} {i : Ix} {computed : BitVec 32} (hsig : crc32Final c.crc = computed)
    (hi : c.region = i) (hk : c.kind ≠ .sign) (s : State) :
    applyResult s c = applyVerify s i (decide (c.kind = .verifyDemand)) computed := by
  subst hi hsig
  unfold applyResult
  cases h : c.kind with
  | sign => exact absurd h hk
  | verifyRound | verifyDemand => rfl

/-- The engine's context after an OK return, its streak back at 0 (R136). -/
def keepChunk (s : State) (c : JobContext) : State := { s with scan := { s.scan with context := some c, streak := 0 } }

/-- The OK return of a region's last chunk: the job's result is applied, and the engine goes on without the job (R137). -/
theorem exec_chunkReadReturn_last {s : State} {r : ChunkRead} {c : JobContext} {d0 d1 d2 d3 : BitVec 64} (hp : s.pins.por = false)
    (hhead : s.fwd.head = none) (hr : s.scan.engine = .reading r) (hc : s.scan.context = some c) (hd : r.disposition = .apply)
    (hbeats : r.beats = [(d0, .ok), (d1, .ok), (d2, .ok)])
    (hlast : c.cursor + 32 = 256 * (s.table.active.get c.region).size.toNat) :
    let last := applyChunk c [(d0, .ok), (d1, .ok), (d2, .ok), (d3, .ok)]
    exec (.chunkReadReturn d3 .ok) s = .next (afterJob (applyResult (keepChunk s last) last) r.offPending) := by
  have returned : exec (.chunkReadReturn d3 .ok) s = .next (returnChunk s r (r.beats ++ [(d3, .ok)])) := by
    change execChunkReadReturn d3 .ok s = _
    rw [execChunkReadReturn, hr]
    exact stepWhen_taken hp (by simp [headFree, hhead, hbeats])
  rw [Nat.mul_comm] at hlast
  rw [returned, hbeats, returnChunk, hd, hc]
  exact congrArg Host.Outcome.next (if_pos hlast)

/-- Settles O36: a SIGN job's signature becomes the reference, a VERIFY job's is compared with it. -/
theorem jobsEnd : Obligations.JobsEnd := by
  intro s r c d0 d1 d2 d3 hp hhead hr hc hd hbeats hlast i sig start finish count demand
  have ended := exec_chunkReadReturn_last (d3 := d3) hp hhead hr hc hd hbeats hlast
  have bytes : crc32Final (applyChunk c [(d0, .ok), (d1, .ok), (d2, .ok), (d3, .ok)]).crc = sig := by
    simp [applyChunk, crc32Final, sig]
  refine ⟨fun sub hk hl => ?_, fun ref hk hl hsame => ?_, fun ref hk hl hdiff => ?_, fun ref hk hl => ?_⟩
  · rw [ended, applyResult_sign bytes (i := i) rfl hk, applySign_eq (s := keepChunk s _) hl]
    rfl
  all_goals rw [ended, applyResult_verify bytes (i := i) rfl hk]
  · rw [applyVerify_match (s := keepChunk s _) hl _ hsame]
    simp only [decide_eq_true_eq]
    rfl
  · rw [applyVerify_mismatch (s := keepChunk s _) hl _ hdiff]
    simp only [decide_eq_true_eq]
    rfl
  · rw [applyVerify_corrupt (s := keepChunk s _) hl]
    simp only [decide_eq_true_eq]
    rfl

end Sys2Proof.Machine

/-! The end of the write drains: the regions that await no write pass to QUEUED one by one, the lowest index first. -/

namespace Sys2Proof.Machine

/-! ## One SIGN job that joins -/

/-- With a SIGN job queued an engine does not stay IDLE (R134). -/
theorem settle_engine_of_sign {s : State} (h : s.scan.queue.sign ≠ []) : (settle s).scan.engine ≠ .idle := by
  obtain ⟨i, rest, hq⟩ := List.exists_cons_of_ne_nil h
  intro hidle
  rw [settle, refreshRound_engine] at hidle
  by_cases he : s.scan.engine = .idle
  · simp only [takeHead, he, ScanQueue.pop, hq] at hidle
    cases hidle
  · rw [takeHead_of_not_idle s he] at hidle
    exact he hidle

theorem requestSign_engine (s : State) (i : Ix) : (requestSign s i).scan.engine ≠ .idle :=
  settle_engine_of_sign (s := queueSign s i) (List.append_ne_nil_of_right_ne_nil _ (List.cons_ne_nil _ _))

/-- A SIGN job that joins takes its own region out of the write drain and no other, where the regions of the queued SIGN jobs
are QUEUED (R116). -/
theorem requestSign_awaits_iff {s : State} (hqueue : ∀ j ∈ s.scan.queue.sign, s.sig.life.get j = some (.signing .queued)) (i j : Ix) :
    (requestSign s i).Awaits j 0 ↔ j ≠ i ∧ s.Awaits j 0 := by
  by_cases hji : j = i
  · subst hji
    exact ⟨fun h => absurd h (requestSign_not_awaits s j 0), fun h => absurd rfl h.1⟩
  have queued : (queueSign s i).sig.life.get j = s.sig.life.get j := Tab.get_set_of_ne _ _ hji
  rw [and_iff_right hji]
  refine ⟨fun h => queued.symm.trans ((settle_calm (queueSign s i)).awaits j 0 h), fun h => ?_⟩
  refine (settle_life fun sub rest hq hsub => ?_).trans (queued.trans h)
  have head : j ∈ (queueSign s i).scan.queue.sign := by rw [hq]; exact List.mem_cons_self ..
  rcases List.mem_append.1 head with hm | hm
  · exact nomatch (hqueue j hm).symm.trans h
  · exact hji (List.mem_singleton.1 hm)

/-! ## All of them -/

/-- Regions QUEUED, their SIGN jobs at the tail of the SIGN class, and the engine as it was (R116). -/
def queueSigns (s : State) (regions : List Ix) : State :=
  { s with
    sig := { s.sig with life := Tab.ofFn fun i => if i ∈ regions then some (.signing .queued) else s.sig.life.get i }
    scan := { s.scan with queue := { s.scan.queue with sign := s.scan.queue.sign ++ regions }, roundTimer := none } }

/-- An engine that is not IDLE takes nothing, and its round timer does not run (R132, R134). -/
theorem settle_of_not_idle {s : State} (h : s.scan.engine ≠ .idle) :
    settle s = { s with scan := { s.scan with roundTimer := none } } := by
  have notDue : roundsDue s.scan = false := by simp [roundsDue, h]
  rw [settle, takeHead_of_not_idle s h, refreshRound, notDue]
  rfl

theorem requestSign_of_not_idle {s : State} (h : s.scan.engine ≠ .idle) (i : Ix) : requestSign s i = queueSigns s [i] := by
  have life : s.sig.life.set i (some (.signing .queued)) =
      Tab.ofFn fun j => if j ∈ [i] then some (.signing .queued) else s.sig.life.get j :=
    Tab.ext_get fun j => by simp [Tab.get_set]
  rw [requestSign, settle_of_not_idle (s := queueSign s i) h, queueSigns, ← life]
  rfl

theorem queueSigns_append (s : State) (regions more : List Ix) :
    queueSigns (queueSigns s regions) more = queueSigns s (regions ++ more) := by
  have life : (Tab.ofFn fun i => if i ∈ more then some (Life.signing .queued) else (queueSigns s regions).sig.life.get i) =
      Tab.ofFn fun i => if i ∈ regions ++ more then some (.signing .queued) else s.sig.life.get i := by
    refine Tab.ext_get fun i => ?_
    by_cases hm : i ∈ more <;> by_cases hr : i ∈ regions <;> simp [queueSigns, hm, hr]
  rw [queueSigns, life, queueSigns, queueSigns, List.append_assoc]

theorem foldl_requestSign_of_not_idle {s : State} (h : s.scan.engine ≠ .idle) (i : Ix) (rest : List Ix) :
    (i :: rest).foldl requestSign s = queueSigns s (i :: rest) := by
  induction rest generalizing s i with
  | nil => exact requestSign_of_not_idle h i
  | cons j rest ih =>
    have engine : (queueSigns s [i]).scan.engine ≠ .idle := h
    rw [List.foldl_cons, requestSign_of_not_idle h, ih engine, queueSigns_append, List.singleton_append]

theorem drainedRegion_eq_true (s : State) (i : Ix) : drainedRegion s i = true ↔ s.Awaits i 0 := by
  simp [drainedRegion, State.Awaits]

theorem finishWriteDrains_of_not_idle {s : State} (h : s.scan.engine ≠ .idle) :
    finishWriteDrains s = (allIx.filter (drainedRegion s)).foldl requestSign s := by
  rw [finishWriteDrains, meetRound_of_not_idle s h]
  split
  · next hnone => rw [hnone]; rfl
  · rfl

theorem finishWriteDrains_eq {s : State} {i : Ix} {rest : List Ix} (h : allIx.filter (drainedRegion s) = i :: rest) :
    finishWriteDrains s = (i :: rest).foldl requestSign (meetRound s) := by
  rw [finishWriteDrains, h]

/-- The elements of a list without repetition that meet a test begin with the first of them and go on with the others. -/
theorem filter_eq_cons_of_find {α : Type} [DecidableEq α] {l : List α} {p q : α → Bool} {a : α} (hl : l.Nodup)
    (hfirst : l.find? p = some a) (hothers : ∀ b, q b = true ↔ b ≠ a ∧ p b = true) : l.filter p = a :: l.filter q := by
  have nodup := hl.filter p
  have both : l.filter q = (l.filter p).filter (decide <| · ≠ a) := by
    rw [List.filter_filter]
    exact List.filter_congr fun b _ => Bool.eq_iff_iff.2 (by simp [hothers])
  rw [← List.head?_filter] at hfirst
  obtain ⟨rest, hrest⟩ := List.head?_eq_some_iff.1 hfirst
  rw [hrest, List.nodup_cons] at nodup
  have kept : rest.filter (decide <| · ≠ a) = rest := List.filter_eq_self.2 fun b hb => by
    have hba : b ≠ a := by
      rintro rfl
      exact nodup.1 hb
    simpa using hba
  rw [both, hrest, List.filter_cons_of_neg (by simp), kept]

/-- Region by region: after the lowest region's job has joined, the others follow as if they alone had been awaited (R116). -/
theorem finishWriteDrains_first {s : State} {i : Ix} (hi : s.Awaits i 0) (hleast : ∀ j, s.Awaits j 0 → i ≤ j)
    (hqueue : ∀ j ∈ s.scan.queue.sign, s.sig.life.get j = some (.signing .queued)) :
    finishWriteDrains s = finishWriteDrains (requestSign (meetRound s) i) := by
  have first : allIx.find? (drainedRegion s) = some i :=
    (allIx_find_eq_some _ _).2 ⟨(drainedRegion_eq_true s i).2 hi, fun j hj => hleast j ((drainedRegion_eq_true s j).1 hj)⟩
  obtain ⟨sign, -, -⟩ := meetRound_sign_demand_context s
  have others : ∀ j, drainedRegion (requestSign (meetRound s) i) j = true ↔ j ≠ i ∧ drainedRegion s j = true := fun j => by
    rw [drainedRegion_eq_true, drainedRegion_eq_true, requestSign_awaits_iff (by simpa [sign] using hqueue)]
    simp [State.Awaits]
  rw [finishWriteDrains_eq (filter_eq_cons_of_find allIx_nodup first others), List.foldl_cons,
    finishWriteDrains_of_not_idle (requestSign_engine _ _)]

/-- Settles O44: nothing with no such region, all of them where the engine takes nothing, and otherwise one region at a time. -/
theorem writeDrainsEnd : Obligations.WriteDrainsEnd := by
  intro s done
  refine ⟨fun hp => stepWhen_taken hp rfl, fun hnone => ?_, fun he ⟨i, hi⟩ => ?_, fun i hi hleast hqueue => ?_⟩
  · have empty : allIx.filter (drainedRegion s) = [] :=
      List.eq_nil_iff_forall_not_mem.2 fun i hi => hnone i ((drainedRegion_iff s i).1 hi)
    rw [finishWriteDrains, empty]
  · have regions : allIx.filter (drainedRegion s) = allIx.filter fun i => decide (done i) :=
      List.filter_congr fun j _ => Bool.eq_iff_iff.2 (by
        rw [drainedRegion_eq_true, decide_eq_true_iff]
        exact Iff.rfl)
    have life : (Tab.ofFn fun i => if done i then some (Life.signing .queued) else s.sig.life.get i) =
        Tab.ofFn fun i => if i ∈ allIx.filter (fun i => decide (done i)) then some (.signing .queued) else s.sig.life.get i :=
      Tab.ext_get fun j => by simp [mem_allIx]
    obtain ⟨j, rest, hcons⟩ := List.exists_cons_of_ne_nil (List.ne_nil_of_mem ((drainedRegion_iff s i).2 hi))
    rw [finishWriteDrains_of_not_idle he, life, ← regions, hcons, foldl_requestSign_of_not_idle he]
    rfl
  · exact finishWriteDrains_first hi hleast hqueue

end Sys2Proof.Machine

/-! The Scan Engine stays legal (R128, R132, R134, R138, R139). `ScanEngine.Fits` is the part of `EngineLegal` that holds also between a
change of the queue or the engine and the settling that follows it; settling adds the rest, that an IDLE engine's queue is empty and that
the round timer runs exactly when it is due. Each operation is shown to keep the one or the other. -/

namespace Sys2Proof.Machine

/-! ## What goes with an engine state -/

theorem fits_off_iff (context : Bool) (streak : Nat) : EngineState.off.fits context streak = true ↔
    (context = true → streak ≤ 3) ∧ (context = false → streak = 0) := by
  cases context <;> simp [EngineState.fits]

theorem fits_idle_iff (context : Bool) (streak : Nat) : EngineState.idle.fits context streak = true ↔
    context = false ∧ streak = 0 := by
  simp [EngineState.fits]

theorem fits_waitingGap_iff (context : Bool) (streak : Nat) : EngineState.waitingGap.fits context streak = true ↔
    context = true ∧ streak < 3 := by
  simp [EngineState.fits]

theorem fits_halted_iff (context : Bool) (streak : Nat) : EngineState.halted.fits context streak = true ↔
    context = true ∧ streak = 3 := by
  simp [EngineState.fits]

theorem fits_reading_iff (r : ChunkRead) (context : Bool) (streak : Nat) : (EngineState.reading r).fits context streak = true ↔
    r.beats.length < 4 ∧ (r.disposition = .apply → context = true ∧ streak < 3) ∧
      (r.disposition = .discard → context = false ∧ streak = 0) := by
  cases hd : r.disposition <;> simp [EngineState.fits, hd, and_comm]

/-- An engine without a job, and without an error streak, may be OFF or IDLE (R128). -/
theorem fits_without_job (off : Bool) : (if off then EngineState.off else .idle).fits false 0 = true := by
  cases off <;> rfl

/-- An engine's state goes with its context and streak; the starvation timer and a forced claim are those of WAITING_GAP. -/
structure ScanEngine.Fits (e : ScanEngine) : Prop where
  engine : e.engine.fits e.context.isSome e.streak = true
  starvation : e.starvation.isSome = true → e.engine = .waitingGap
  forced : e.forced = true → e.engine = .waitingGap

section Parts
variable {e e' : ScanEngine}

theorem EngineLegal.fits (h : EngineLegal e) : e.Fits :=
  let ⟨engine, _, starvation, forced, _⟩ := h
  ⟨engine, starvation, forced⟩

/-- Outside WAITING_GAP there is neither starvation timer nor forced claim. -/
theorem ScanEngine.Fits.quiet (h : e.Fits) (he : e.engine ≠ .waitingGap) : e.starvation = none ∧ e.forced = false :=
  ⟨by simpa using fun hs => he (h.starvation hs), by simpa using fun hf => he (h.forced hf)⟩

theorem ScanEngine.Fits.of_quiet (h : e.engine.fits e.context.isSome e.streak = true)
    (quiet : e.starvation = none ∧ e.forced = false) : e.Fits :=
  ⟨h, by simp [quiet.1], by simp [quiet.2]⟩

theorem ScanEngine.Fits.of_waiting (he : e.engine = .waitingGap) (hc : e.context.isSome = true) (hs : e.streak < 3) : e.Fits :=
  ⟨by rw [he]; exact (fits_waitingGap_iff ..).2 ⟨hc, hs⟩, fun _ => he, fun _ => he⟩

/-- An engine in WAITING_GAP has a job that has not failed three times in a row. -/
theorem ScanEngine.Fits.waiting (h : e.Fits) (he : e.engine = .waitingGap) : e.context.isSome = true ∧ e.streak < 3 :=
  (fits_waitingGap_iff ..).1 (he ▸ h.engine)

theorem ScanEngine.Fits.reading (h : e.Fits) {r : ChunkRead} (he : e.engine = .reading r) : r.beats.length < 4 ∧
    (r.disposition = .apply → e.context.isSome = true ∧ e.streak < 3) ∧
    (r.disposition = .discard → e.context.isSome = false ∧ e.streak = 0) :=
  (fits_reading_iff ..).1 (he ▸ h.engine)

theorem roundsDue_of_not_idle (h : e.engine ≠ .idle) : roundsDue e = false := by
  simp [roundsDue, h]

/-- Between engine states other than IDLE the queue and the round timer are no matter. -/
theorem EngineLegal.of_not_idle (h : EngineLegal e) (he : e.engine ≠ .idle) (h' : e'.Fits) (he' : e'.engine ≠ .idle)
    (htimer : e'.roundTimer = e.roundTimer) : EngineLegal e' := by
  obtain ⟨-, -, -, -, timer⟩ := h
  rw [roundsDue_of_not_idle he] at timer
  refine ⟨h'.engine, fun hidle => absurd hidle he', h'.starvation, h'.forced, ?_⟩
  rw [htimer, timer, roundsDue_of_not_idle he']

end Parts

/-! ## Taking a head, and the round timer -/

theorem startStarvation_fits {s : State} (h : s.scan.Fits) (he : s.scan.engine = .waitingGap) : (startStarvation s).scan.Fits :=
  .of_waiting he (h.waiting he).1 (h.waiting he).2

theorem enterWaiting_fits {s : State} (hc : s.scan.context.isSome = true) (hs : s.scan.streak < 3) : (enterWaiting s).scan.Fits :=
  .of_waiting rfl hc hs

theorem ScanQueue.pop_eq_none {q : ScanQueue} (h : q.pop = none) : q = ScanQueue.empty := by
  obtain ⟨sign, demand, round⟩ := q
  cases sign <;> cases demand <;> cases round <;> simp_all [ScanQueue.pop, ScanQueue.empty]

/-- An engine that has taken the head, if it could, is IDLE only where its queue is empty (R134). -/
theorem takeHead_fits {s : State} (h : s.scan.Fits) : (takeHead s).scan.Fits ∧
    ((takeHead s).scan.engine = .idle → (takeHead s).scan.queue = ScanQueue.empty) := by
  unfold takeHead
  split
  · next i k q he hp =>
    refine ⟨enterWaiting_fits ?_ ?_, nofun⟩ <;> rw [tellActive_scan]
    · rfl
    · exact Nat.zero_lt_succ 2
  · next hnot =>
    refine ⟨h, fun he => ScanQueue.pop_eq_none (Option.eq_none_iff_forall_ne_some.2 ?_)⟩
    rintro ⟨i, k, q⟩ hp
    exact hnot i k q he hp

/-- The round timer refreshed runs exactly under its conditions (R132). -/
theorem refreshRound_engineLegal {s : State} (h : s.scan.Fits) (hq : s.scan.engine = .idle → s.scan.queue = ScanQueue.empty) :
    EngineLegal (refreshRound s).scan := by
  refine ⟨h.engine, hq, h.starvation, h.forced, ?_⟩
  change Option.isSome (if roundsDue s.scan then _ else none) = roundsDue s.scan
  cases roundsDue s.scan <;> rfl

/-- What follows every change of the engine and its queue makes an engine legal whose parts fit. -/
theorem settle_engineLegal {s : State} (h : s.scan.Fits) : EngineLegal (settle s).scan :=
  let ⟨fits, empty⟩ := takeHead_fits h
  refreshRound_engineLegal fits empty

theorem enqueueRound_fits {s : State} (h : s.scan.Fits) : (enqueueRound s).scan.Fits := by
  unfold enqueueRound
  split <;> exact ⟨h.engine, h.starvation, h.forced⟩

theorem meetRound_fits {s : State} (h : s.scan.Fits) : (meetRound s).scan.Fits := by
  have drawn : ({ s.scan with ties := s.scan.ties + 1 } : ScanEngine).Fits := ⟨h.engine, h.starvation, h.forced⟩
  rcases meetRound_cases s with heq | ⟨-, -, ⟨-, heq⟩ | ⟨-, heq⟩⟩ <;> rw [heq]
  · exact h
  · exact enqueueRound_fits drawn
  · exact drawn

/-- The round timer runs under its conditions alone, so that its expiry with no region to join leaves them as they are (R133). -/
theorem startRound_engineLegal {s : State} (h : EngineLegal s.scan) (ht : s.scan.roundTimer.isSome = true) :
    EngineLegal (startRound s).scan := by
  by_cases hjobs : allIx.filter (joinsRound s) = []
  · obtain ⟨engine, queue, starvation, forced, timer⟩ := h
    rw [startRound_none hjobs, enqueueRound_none hjobs]
    exact ⟨engine, queue, starvation, forced, ht.symm.trans timer⟩
  · rw [startRound_jobs hjobs]
    exact settle_engineLegal (enqueueRound_fits h.fits)

/-! ## SIGN jobs, and the end of the write drains -/

theorem requestSign_engineLegal {s : State} (h : s.scan.Fits) (i : Ix) : EngineLegal (requestSign s i).scan :=
  settle_engineLegal (s := queueSign s i) ⟨h.engine, h.starvation, h.forced⟩

theorem finishWriteDrains_engineLegal {s : State} (h : EngineLegal s.scan) : EngineLegal (finishWriteDrains s).scan := by
  unfold finishWriteDrains
  split
  · exact h
  · next regions hne =>
    obtain ⟨i, rest, hregions⟩ := List.exists_cons_of_ne_nil hne
    rw [hregions, List.foldl_cons]
    exact foldl_keeps_prop (P := fun t => EngineLegal t.scan) (fun t j ht => requestSign_engineLegal ht.fits j) rest
      (requestSign_engineLegal (meetRound_fits h.fits) i)

theorem landWrite_engineLegal {s : State} (h : EngineLegal s.scan) (x : Txn) : EngineLegal (landWrite s x).scan := by
  unfold landWrite
  split
  · exact finishWriteDrains_engineLegal h
  · exact h

/-- CLOSE and RESIGN let a SIGN job join at once, or leave the engine as it is (R113, R114, R116). -/
theorem beginDrain_engineLegal {s : State} {i : Ix} (h : s.scan.Fits)
    (hwait : writesInto s.tracker.txns (s.table.active.get i) ≠ 0 → EngineLegal s.scan) :
    EngineLegal (startWriteDrain (meetSigning s i) i).scan := by
  unfold startWriteDrain
  rw [meetSigning_tracker, meetSigning_table]
  unfold meetSigning
  dsimp only
  split
  · exact requestSign_engineLegal (meetRound_fits h) i
  · next hne => exact hwait hne

/-! ## Regions that are withdrawn -/

/-- An engine that drops its job is IDLE or OFF without one, or discards its outstanding read (R146). -/
theorem dropJob_fits {e : ScanEngine} (h : e.Fits) : (dropJob e).Fits := by
  unfold dropJob
  split
  · next he => exact .of_quiet (by rw [he]; rfl) (h.quiet (by rw [he]; nofun))
  · exact h
  · exact .of_quiet rfl ⟨rfl, rfl⟩
  · next he => exact .of_quiet rfl (h.quiet (by rw [he]; nofun))
  · next r he =>
    exact .of_quiet ((fits_reading_iff ..).2 ⟨(h.reading he).1, nofun, fun _ => ⟨rfl, rfl⟩⟩) (h.quiet (by rw [he]; nofun))

theorem abandon_fits {s : State} (h : s.scan.Fits) (i : Ix) : (abandon s i).scan.Fits := by
  unfold abandon
  split
  · exact dropJob_fits h
  · exact h

theorem unqueue_fits {s : State} (h : s.scan.Fits) (i : Ix) : (unqueue s i).scan.Fits := ⟨h.engine, h.starvation, h.forced⟩

theorem openAt_engineLegal {s : State} (h : s.scan.Fits) (i : Ix) : EngineLegal (openAt s i).scan :=
  settle_engineLegal (abandon_fits (unqueue_fits (s := setLife s i (some .opened)) h i) i)

theorem resignAt_fits {s : State} (h : s.scan.Fits) (i : Ix) : (resignAt s i).scan.Fits := by
  have dropped := abandon_fits (unqueue_fits (s := setLife s i (some .blank)) h i) i
  unfold resignAt dropVerify
  dsimp only
  split
  · exact dropped
  · exact (settle_engineLegal dropped).fits

/-- In a legal state RESIGN finds nothing to drop in an IDLE engine (R114, R134). -/
theorem resignAt_engineLegal {s : State} (h : EngineLegal s.scan) (i : Ix) : EngineLegal (resignAt s i).scan := by
  unfold resignAt dropVerify
  dsimp only
  split
  · next he =>
    have idle : s.scan.engine = .idle := he
    have vacant : s.scan.context = none := by
      have engine := h.fits.engine
      rw [idle, fits_idle_iff] at engine
      simpa using engine.1
    have same : (unqueue (setLife s i (some .blank)) i).scan = s.scan := by
      obtain ⟨-, queue, -⟩ := h
      have removed : s.scan.queue.remove i = s.scan.queue := by rw [queue idle]; rfl
      change { s.scan with queue := s.scan.queue.remove i } = s.scan
      rw [removed]
    have jobless : abandon (unqueue (setLife s i (some .blank)) i) i = unqueue (setLife s i (some .blank)) i :=
      abandon_other fun c hc => nomatch vacant.symm.trans hc
    rw [jobless, same]
    exact h
  · exact settle_engineLegal (abandon_fits (unqueue_fits (s := setLife s i (some .blank)) h.fits i) i)

theorem resign_engineLegal {s : State} (h : EngineLegal s.scan) (i : Ix) :
    EngineLegal (startWriteDrain (meetSigning (resignAt (meetSigning s i) i) i) i).scan := by
  have met : (meetSigning s i).scan.Fits := by
    unfold meetSigning
    split
    · exact meetRound_fits h.fits
    · exact h.fits
  refine beginDrain_engineLegal (resignAt_fits met i) fun hwait => ?_
  have waits : meetSigning s i = s := if_neg (by simpa [resignAt] using hwait)
  rw [waits]
  exact resignAt_engineLegal h i

theorem switchJob_fits {s : State} (h : s.scan.Fits) (old : Tab Entry) (changed : IxSet) : (switchJob s old changed).scan.Fits := by
  unfold switchJob
  split
  · split
    · dsimp only
      split <;> exact abandon_fits h _
    · exact h
  · exact h

theorem switchSet_engineLegal {s : State} (h : s.scan.Fits) (which : IxSet) : EngineLegal (switchSet s which).scan :=
  settle_engineLegal (switchJob_fits (by exact ⟨h.engine, h.starvation, h.forced⟩) _ _)

/-! ## SOFT_CLEAR, verdicts and the release of held transactions -/

/-- SOFT_CLEAR leaves the engine without a job and its queue empty (R149). -/
theorem softClearScan_engineLegal {e : ScanEngine} (h : e.Fits) : EngineLegal (softClearScan e) := by
  have engine : (softClearEngine e.engine).fits false 0 = true := by
    cases he : e.engine with
    | reading r => exact (fits_reading_iff ..).2 ⟨(h.reading he).1, nofun, fun _ => ⟨rfl, rfl⟩⟩
    | off | idle | waitingGap | halted => rfl
  exact ⟨engine, fun _ => rfl, nofun, nofun, rfl⟩

theorem doSoftClear_engineLegal {s : State} (h : EngineLegal s.scan) : EngineLegal (doSoftClear s).1.scan := by
  unfold doSoftClear
  split
  · exact h
  · exact softClearScan_engineLegal h.fits

/-- Of the commands between dirty additions SOFT_CLEAR alone reaches the engine (R103). -/
theorem takeBetween_engineLegal {s : State} (h : EngineLegal s.scan) (c : DirtyCommand) : EngineLegal (takeBetween s c).scan := by
  cases c with
  | takeDirty count => exact (by unfold doTakeDirty; split <;> exact h : EngineLegal (doTakeDirty count s).1.scan)
  | clearDirty index => exact (by unfold doClearDirty; split <;> exact h : EngineLegal (doClearDirty index s).1.scan)
  | dirtyStatus => exact h
  | setDirtyThreshold threshold =>
    exact (by unfold doSetDirtyThreshold; split <;> exact h : EngineLegal (doSetDirtyThreshold threshold s).1.scan)
  | softClear => exact doSoftClear_engineLegal h

theorem handOff_engineLegal {s : State} (h : EngineLegal s.scan) (r : Request) (beats : List WriteBeat)
    (between : List DirtyCommand) : EngineLegal (handOff s r beats between).scan := by
  have added : ∀ (t : State) b, EngineLegal t.scan → EngineLegal (addTracked t r.id b).scan := fun t b ht => by
    rwa [addTracked_scan]
  have reported : EngineLegal (reportWindows s r (findings s r beats)).scan := by rwa [reportWindows_scan]
  unfold handOff addTrackedBlocks
  split
  · exact reported
  · exact added _ _ reported
  · exact foldl_keeps_prop (P := fun t => EngineLegal t.scan) added _
      (foldl_keeps_prop (P := fun t => EngineLegal t.scan) (fun t c ht => takeBetween_engineLegal ht c) _ (added _ _ reported))

theorem judgeWrite_engineLegal {s : State} (h : EngineLegal s.scan) (x : Txn) (beats : List WriteBeat)
    (between : List DirtyCommand) : EngineLegal (judgeWrite s x beats between).1.scan := by
  unfold judgeWrite
  dsimp only
  split
  · exact handOff_engineLegal (by simpa using h) _ _ _
  · simpa using h

theorem judge_engineLegal {s : State} (h : EngineLegal s.scan) (x : Txn) (between : List DirtyCommand) :
    EngineLegal (judge s x between).1.scan := by
  unfold judge
  split
  · rwa [judgeMalformed_scan]
  · split
    · rwa [judgeRead_scan]
    · exact judgeWrite_engineLegal h _ _ _

theorem verdictTime_engineLegal {s : State} (h : EngineLegal s.scan) (earlier : List Txn) (x : Txn)
    (between : List DirtyCommand) : EngineLegal (verdictTime s earlier x between).1.scan := by
  unfold verdictTime
  split
  · exact judge_engineLegal h _ _
  · split
    · exact h
    · split
      · exact h
      · exact judge_engineLegal h _ _

theorem storeBeat_engineLegal {s : State} (h : EngineLegal s.scan) (x : Txn) (offer : OfferedBeat) :
    EngineLegal (storeBeat s x offer).scan := by
  unfold storeBeat
  dsimp only
  split
  · exact h
  · rw [afterVerdict_scan, setTxn_scan]
    exact verdictTime_engineLegal h _ _ _

theorem releaseEach_engineLegal {s : State} (h : EngineLegal s.scan) (portFree : Bool) (txns : List Txn) :
    EngineLegal (releaseEach s portFree txns).1.scan := by
  induction txns generalizing s with
  | nil => exact h
  | cons x rest ih =>
    unfold releaseEach
    split
    · exact ih (judge_engineLegal h _ _)
    · exact ih h

theorem releaseHeld_engineLegal {s : State} (h : EngineLegal s.scan) (portFree : Bool) :
    EngineLegal (releaseHeld s portFree).scan := by
  rw [releaseHeld, takeTurns_scan]
  exact releaseEach_engineLegal h _ _

/-! ## Drains and commits -/

/-- The end of a drain can start the starvation timer of an engine in WAITING_GAP, and no more (R30). -/
theorem closeDrain_engineLegal {s : State} (h : EngineLegal s.scan) : EngineLegal (closeDrain s).scan := by
  unfold closeDrain
  dsimp only
  split
  · next hwait =>
    have he : s.scan.engine = .waitingGap := by simpa using (Bool.and_eq_true_iff.1 hwait).2
    exact h.of_not_idle (by rw [he]; nofun) (startStarvation_fits h.fits he) (by simp [he]) rfl
  · exact h

theorem cutDrain_engineLegal {s : State} (h : EngineLegal s.scan) (d : Drain) (o : LastOutcome) :
    EngineLegal (cutDrain s d o).scan :=
  closeDrain_engineLegal h

theorem completeDrain_engineLegal {s : State} (h : EngineLegal s.scan) (d : Drain) (portFree : Bool) :
    EngineLegal (completeDrain s d portFree).scan :=
  releaseHeld_engineLegal (by rw [endCommit_scan]; exact switchSet_engineLegal (closeDrain_engineLegal h).fits _) _

/-- The start of a drain can take the timer and the claim of an engine in WAITING_GAP, and no more (R30). -/
theorem enterDraining_engineLegal {s : State} (h : EngineLegal s.scan) (d : Drain) : EngineLegal (enterDraining s d).scan := by
  unfold enterDraining withholdClaim
  split
  · next hwait =>
    have he : s.scan.engine ≠ .idle := fun he => by simp [he] at hwait
    exact h.of_not_idle he (.of_quiet h.fits.engine ⟨rfl, rfl⟩) he rfl
  · exact h

theorem acceptCommit_engineLegal {s : State} (h : EngineLegal s.scan) : EngineLegal (acceptCommit s).scan := by
  have switched := switchSet_engineLegal h.fits (immediatePart s.table)
  have drained := enterDraining_engineLegal switched (newDrain s)
  unfold acceptCommit
  dsimp only
  split
  · exact switched
  · split
    · exact completeDrain_engineLegal drained _ _
    · exact drained

theorem doCommit_engineLegal {s : State} (h : EngineLegal s.scan) : EngineLegal (doCommit s).1.scan := by
  unfold doCommit
  split
  · exact h
  · split
    · exact h
    · split
      · exact h
      · exact h
      · exact acceptCommit_engineLegal h

theorem doAbortCommit_engineLegal {s : State} (h : EngineLegal s.scan) : EngineLegal (doAbortCommit s).1.scan := by
  unfold doAbortCommit
  split
  · exact h
  · exact releaseHeld_engineLegal (cutDrain_engineLegal h _ _) _

/-! ## Items of the memory, and the edges of PRST_N -/

theorem passItem_engineLegal {s : State} (h : EngineLegal s.scan) (x : Txn) (item : MemItem) :
    EngineLegal (passItem s x item).scan := by
  have passed : EngineLegal (setHead (putHostItem (countError s x item) (passedItem item)) none).scan := by simpa using h
  unfold passItem
  dsimp only
  split
  · exact passed
  · rw [retire_scan]
    exact landWrite_engineLegal passed x

theorem offerItem_engineLegal {s : State} (h : EngineLegal s.scan) (item : MemItem) (hostReady : Bool) :
    EngineLegal (offerItem s item hostReady).scan := by
  have presented : EngineLegal (giveChannel (setHead s (some item))).scan := by simpa using h
  unfold offerItem presentItem
  split
  · split
    · dsimp only
      split
      · exact passItem_engineLegal presented _ _
      · exact presented
    · exact h
  · split <;> exact h

/-- A chunk read cut off by the assertion of PRST_N leaves the engine with its job in WAITING_GAP or OFF, or without one (R148). -/
theorem portResetEngine_fits {e : ScanEngine} (h : EngineLegal e) : (portResetEngine e).Fits := by
  rw [portResetEngine_eq h]
  refine .of_quiet ?_ ⟨rfl, rfl⟩
  split
  · next r he =>
    obtain ⟨-, apply, discard⟩ := h.fits.reading he
    cases hd : r.disposition with
    | apply =>
      obtain ⟨hc, hs⟩ := apply hd
      cases r.offPending
      · exact (fits_waitingGap_iff ..).2 ⟨hc, hs⟩
      · exact (fits_off_iff ..).2 ⟨fun _ => hs.le, fun hn => nomatch hn.symm.trans hc⟩
    | discard =>
      obtain ⟨hc, hs⟩ := discard hd
      rw [hc, hs]
      cases r.offPending <;> rfl
  · exact h.fits.engine

theorem portReset_engineLegal {s : State} (h : EngineLegal s.scan) : EngineLegal (portResetCommit (portResetBlocks s)).scan := by
  have blocks : EngineLegal (portResetBlocks s).scan :=
    finishWriteDrains_engineLegal (settle_engineLegal (portResetEngine_fits h))
  unfold portResetCommit
  split
  · exact cutDrain_engineLegal blocks _ _
  · exact blocks

theorem resumeStarvation_engineLegal {s : State} (h : EngineLegal s.scan) : EngineLegal (resumeStarvation s).scan := by
  unfold resumeStarvation
  split
  · next hwait =>
    have he : s.scan.engine = .waitingGap := by simpa using hwait
    exact h.of_not_idle (by rw [he]; nofun) (startStarvation_fits h.fits he) (by simp [he]) rfl
  · exact h

/-! ## Chunk reads -/

/-- A claim is granted in WAITING_GAP, for the job at hand (R135, R139). -/
theorem grantChunk_engineLegal {s : State} (h : EngineLegal s.scan) (he : s.scan.engine = .waitingGap) (a : Nat) :
    EngineLegal (grantChunk s a).scan :=
  h.of_not_idle (by rw [he]; nofun)
    (.of_quiet ((fits_reading_iff ..).2 ⟨Nat.zero_lt_succ 3, fun _ => h.fits.waiting he, nofun⟩) ⟨rfl, rfl⟩) nofun rfl

theorem chunkBeat_engineLegal {s : State} (h : EngineLegal s.scan) {r : ChunkRead} (hr : s.scan.engine = .reading r)
    (hroom : r.beats.length < 3) (b : BitVec 64 × RespStatus) :
    EngineLegal { s.scan with engine := .reading { r with beats := r.beats ++ [b] } } := by
  obtain ⟨-, apply, discard⟩ := h.fits.reading hr
  refine h.of_not_idle (by rw [hr]; nofun) (.of_quiet ((fits_reading_iff ..).2 ⟨?_, apply, discard⟩) ?_) nofun rfl
  · rw [List.length_append]
    exact Nat.succ_lt_succ hroom
  · exact h.fits.quiet (by rw [hr]; nofun)

section Returns
variable {s : State} {r : ChunkRead} (h : EngineLegal s.scan) (hr : s.scan.engine = .reading r)
include h hr

/-- A job that goes on after a return does so in WAITING_GAP or OFF (R136, R140). -/
theorem afterChunk_engineLegal {t : State} {c : JobContext} {n : Nat}
    (ht : t.scan = { s.scan with context := some c, streak := n }) (hs : n < 3) (off : Bool) :
    EngineLegal (afterChunk t off).scan := by
  have quiet := h.fits.quiet (by rw [hr]; nofun)
  have waits : EngineLegal { t.scan with engine := .waitingGap, starvation := (enterWaiting t).scan.starvation } := by
    rw [ht]
    exact h.of_not_idle (by rw [hr]; nofun) (.of_waiting rfl rfl hs) nofun rfl
  have stops : EngineLegal { t.scan with engine := .off } := by
    rw [ht]
    exact h.of_not_idle (by rw [hr]; nofun) (.of_quiet ((fits_off_iff ..).2 ⟨fun _ => hs.le, nofun⟩) quiet) nofun rfl
  cases off with
  | false => exact waits
  | true => exact stops

theorem returnOk_engineLegal (c : JobContext) (beats : List (BitVec 64 × RespStatus)) (off : Bool) :
    EngineLegal (returnOk s c beats off).scan := by
  unfold returnOk
  dsimp only
  split
  · refine settle_engineLegal (.of_quiet (fits_without_job off) ?_)
    dsimp only
    rw [applyResult_scan]
    exact h.fits.quiet (by rw [hr]; nofun)
  · exact afterChunk_engineLegal h hr rfl (Nat.zero_lt_succ 2) off

/-- The third ERR in a row, and no other, halts an engine that stays on (R140, R141). -/
theorem returnErr_engineLegal (hs : s.scan.streak < 3) (c : JobContext) (a : Addr) (off : Bool) :
    EngineLegal (returnErr s c a off).scan := by
  unfold returnErr
  dsimp only
  split
  · next hlt => exact afterChunk_engineLegal h hr rfl hlt off
  · next hge =>
    have third : s.scan.streak + 1 = 3 := Nat.le_antisymm hs (Nat.not_lt.1 hge)
    have fits : (if off then EngineState.off else .halted).fits true (s.scan.streak + 1) = true := by
      rw [third]; cases off <;> rfl
    exact h.of_not_idle (by rw [hr]; nofun) (.of_quiet fits (h.fits.quiet (by rw [hr]; nofun))) (by cases off <;> nofun) rfl

theorem returnChunk_engineLegal (beats : List (BitVec 64 × RespStatus)) : EngineLegal (returnChunk s r beats).scan := by
  obtain ⟨-, apply, discard⟩ := h.fits.reading hr
  unfold returnChunk
  split
  · next c hd hc =>
    split
    · exact returnOk_engineLegal h hr _ _ _
    · exact returnErr_engineLegal h hr (apply hd).2 _ _ _
  · next hnot =>
    have discarded : r.disposition = .discard := by
      cases hd : r.disposition with
      | discard => rfl
      | apply =>
        obtain ⟨c, hc⟩ := Option.isSome_iff_exists.1 (apply hd).1
        exact absurd hc (hnot c hd)
    obtain ⟨hc, hs⟩ := discard discarded
    refine settle_engineLegal (.of_quiet ?_ (h.fits.quiet (by rw [hr]; nofun)))
    change EngineState.fits _ s.scan.context.isSome s.scan.streak = true
    rw [hc, hs]
    exact fits_without_job _

end Returns

/-! ## Timers, VERIFY and SCAN_CONTROL -/

/-- The starvation timer runs in WAITING_GAP alone, where a forced claim may stand (R139). -/
theorem starve_engineLegal {s : State} (h : EngineLegal s.scan) (ht : s.scan.starvation.isSome = true) :
    EngineLegal (starve s).scan := by
  have he := h.fits.starvation ht
  obtain ⟨hc, hs⟩ := h.fits.waiting he
  exact h.of_not_idle (by rw [he]; nofun) (.of_waiting he hc hs) (by simp [starve, he]) rfl

theorem joinDemand_engineLegal {s : State} (h : s.scan.Fits) (i : Ix) : EngineLegal (joinDemand s i).scan :=
  settle_engineLegal ⟨h.engine, h.starvation, h.forced⟩

theorem verifyAt_engineLegal {s : State} (h : EngineLegal s.scan) (i : Ix) : EngineLegal (verifyAt s i).1.scan := by
  unfold verifyAt
  split
  · exact h
  · exact joinDemand_engineLegal h.fits i
  · exact h
  · exact h
  · exact joinDemand_engineLegal (meetRound_fits h.fits) i

theorem enableEngine_engineLegal {s : State} (h : EngineLegal s.scan) : EngineLegal (enableEngine s).scan := by
  have engine := h.fits.engine
  unfold enableEngine
  split
  · next he hc =>
    rw [he, fits_off_iff, hc] at engine
    refine settle_engineLegal (.of_quiet ?_ (h.fits.quiet (by rw [he]; nofun)))
    exact (fits_idle_iff ..).2 ⟨congrArg Option.isSome hc, engine.2 rfl⟩
  · next c he hc =>
    rw [he, fits_off_iff, hc] at engine
    have job : s.scan.context.isSome = true := by rw [hc]; rfl
    split
    · next hlt => exact h.of_not_idle (by rw [he]; nofun) (enterWaiting_fits job hlt) nofun rfl
    · next hge =>
      have halted : EngineState.halted.fits s.scan.context.isSome s.scan.streak = true :=
        (fits_halted_iff ..).2 ⟨job, Nat.le_antisymm (engine.1 rfl) (Nat.not_lt.1 hge)⟩
      exact h.of_not_idle (by rw [he]; nofun) (.of_quiet halted (h.fits.quiet (by rw [he]; nofun))) nofun rfl
  · next r he =>
    rw [he] at engine
    exact h.of_not_idle (by rw [he]; nofun) (.of_quiet engine (h.fits.quiet (by rw [he]; nofun))) nofun rfl
  all_goals exact h

theorem disableEngine_engineLegal {s : State} (h : EngineLegal s.scan) : EngineLegal (disableEngine s).scan := by
  have engine := h.fits.engine
  unfold disableEngine
  split
  · exact h
  · next he =>
    rw [he, fits_idle_iff] at engine
    refine refreshRound_engineLegal (.of_quiet ?_ (h.fits.quiet (by rw [he]; nofun))) nofun
    exact (fits_off_iff ..).2 ⟨fun hc => absurd (engine.1.symm.trans hc) nofun, fun _ => engine.2⟩
  · next he =>
    rw [he, fits_waitingGap_iff] at engine
    refine h.of_not_idle (by rw [he]; nofun) (.of_quiet ?_ ⟨rfl, rfl⟩) nofun rfl
    exact (fits_off_iff ..).2 ⟨fun _ => engine.2.le, fun hc => nomatch engine.1.symm.trans hc⟩
  · next r he =>
    rw [he] at engine
    exact h.of_not_idle (by rw [he]; nofun) (.of_quiet engine (h.fits.quiet (by rw [he]; nofun))) nofun rfl
  · next he =>
    rw [he, fits_halted_iff] at engine
    refine h.of_not_idle (by rw [he]; nofun) (.of_quiet ?_ (h.fits.quiet (by rw [he]; nofun))) nofun rfl
    exact (fits_off_iff ..).2 ⟨fun _ => engine.2.le, fun hc => nomatch engine.1.symm.trans hc⟩

theorem setRoundMode_engineLegal {s : State} (h : EngineLegal s.scan) (on : Bool) : EngineLegal (setRoundMode s on).scan := by
  obtain ⟨engine, queue, starvation, forced, -⟩ := h
  exact refreshRound_engineLegal ⟨engine, starvation, forced⟩ queue

theorem doResume_engineLegal {s : State} (h : EngineLegal s.scan) : EngineLegal (doResume s).1.scan := by
  have engine := h.fits.engine
  unfold doResume
  split
  · next he =>
    rw [he, fits_halted_iff] at engine
    exact h.of_not_idle (by rw [he]; nofun) (enterWaiting_fits engine.1 (Nat.zero_lt_succ 2)) nofun rfl
  all_goals exact h

/-! ## Commands that leave the Scan Engine alone -/

/-- The commands that can change the Scan Engine. -/
def reachesEngine : Instr → Bool
  | .powerOnReset | .portResetAssert | .portResetDeassert | .hostWriteBeat _ | .scanClaimGrant | .forcedClaimGrant
  | .memoryResponseItemPass _ | .localAnswerSend _ _ _ | .chunkReadReturn _ _ | .chunkReadBeat _ _ | .starvationTimerExpiry
  | .roundTimerExpiry | .drainTimerExpiry | .drainComplete | .writeDrainDone | .commit | .abortCommit | .openRegion _ | .closeRegion _
  | .resign _ | .verify _ | .enable | .disable | .roundsOn | .roundsOff | .resume | .softClear => true
  | _ => false

/-- Every command but those listed leaves the Scan Engine as it was. -/
theorem exec_scan_of_not_reachesEngine {c : Instr} {s t : State} (hc : reachesEngine c = false) (ht : exec c s = .next t) :
    t.scan = s.scan := by
  have stays : Host.Outcome.next (φ := Fault) (ρ := Refusal) s = .next t → t.scan = s.scan := by
    rintro ⟨⟩; rfl
  have stepped : ∀ {ready : Bool} {u : State}, stepWhen ready s u = .next t → u.scan = s.scan → t.scan = s.scan :=
    fun ht hu => stepWhen_keeps (P := fun t => t.scan = s.scan) ht rfl fun _ _ => hu
  have taken : ∀ {n : Nat} {owner : State → State × Response}, takeCommand n s owner = .next t → (owner s).1.scan = s.scan →
      t.scan = s.scan := fun ht hu => takeCommand_keeps (P := fun t => t.scan = s.scan) ht rfl hu
  cases c with
  | powerOnReset | portResetAssert | portResetDeassert | hostWriteBeat | scanClaimGrant | forcedClaimGrant | memoryResponseItemPass
  | localAnswerSend | chunkReadReturn | chunkReadBeat | starvationTimerExpiry | roundTimerExpiry | drainTimerExpiry | drainComplete
  | writeDrainDone | commit | abortCommit | openRegion | closeRegion | resign | verify | enable | disable | roundsOn | roundsOff
  | resume | softClear => cases hc
  | powerOnResetRelease => cases ht; rfl
  | hostRequestAccept req =>
    simp only [exec, execHostRequestAccept] at ht
    split at ht
    · exact stepped ht (acceptRequest_scan s req)
    · cases ht
  | hostClaimGrant =>
    simp only [exec, execHostClaimGrant] at ht
    split at ht
    · exact stepped ht rfl
    · exact stays ht
  | memoryRequestTaken =>
    simp only [exec, execMemoryRequestTaken] at ht
    split at ht
    · split at ht
      · exact stepped ht rfl
      · exact stays ht
    · exact stepped ht rfl
    · exact stays ht
  | memoryWriteBeatTaken =>
    simp only [exec, execMemoryWriteBeatTaken] at ht
    split at ht
    · exact stepped ht (by unfold takeWriteBeat; split <;> rfl)
    · exact stays ht
  | memoryResponseDiscard item =>
    simp only [exec, execMemoryResponseDiscard] at ht
    split at ht
    · exact stays ht
    · exact stepped ht rfl
  | localAnswerItemTaken =>
    simp only [exec, execLocalAnswerItemTaken] at ht
    split at ht
    · split at ht
      · exact stepped ht (takeLocalItem_scan ..)
      all_goals exact stays ht
    · exact stays ht
  | commandFrameRejected frame partByte =>
    simp only [exec, execCommandFrameRejected] at ht
    split at ht
    · exact stepped ht rfl
    · exact stays ht
  | idleGapMet | fetch | emptyFrame => exact stepped ht rfl
  | stageEntry index raw =>
    refine taken ht ?_
    unfold doStageEntry
    split
    · rfl
    · split
      · rfl
      · split <;> rfl
  | discard mask => exact taken ht (by unfold doDiscard; split <;> rfl)
  | readEntry index selector => exact taken ht (by rw [doReadEntry_state])
  | regionStatus index => exact taken ht (by rw [doRegionStatus_state])
  | readEvent => exact taken ht (by unfold doReadEvent; split <;> rfl)
  | clearFlags mask => exact taken ht (by unfold doClearFlags; split <;> rfl)
  | setAlertMask mask => exact taken ht (by unfold doSetAlertMask; split <;> rfl)
  | setTiming => exact taken ht (by unfold doSetTiming; split <;> rfl)
  | takeDirty count => exact taken ht (by unfold doTakeDirty; split <;> rfl)
  | clearDirty index => exact taken ht (by unfold doClearDirty; split <;> rfl)
  | setDirtyThreshold threshold => exact taken ht (by unfold doSetDirtyThreshold; split <;> rfl)
  | commitStatus | scanStatus | eventStatus | dirtyStatus | portStatus | identify => exact taken ht rfl

/-! ## Every command -/

theorem exec_engineLegal_of_reachesEngine {c : Instr} {s t : State} (hc : reachesEngine c = true) (ht : exec c s = .next t)
    (h : EngineLegal s.scan) : EngineLegal t.scan := by
  have stays : Host.Outcome.next (φ := Fault) (ρ := Refusal) s = .next t → EngineLegal t.scan := by
    rintro ⟨⟩; exact h
  have stepped : ∀ {ready : Bool} {u : State}, stepWhen ready s u = .next t → (ready = true → EngineLegal u.scan) →
      EngineLegal t.scan := fun ht hu => stepWhen_keeps (P := fun t => EngineLegal t.scan) ht h fun _ hr => hu hr
  have taken : ∀ {n : Nat} {owner : State → State × Response}, takeCommand n s owner = .next t → EngineLegal (owner s).1.scan →
      EngineLegal t.scan := fun ht hu => takeCommand_keeps (P := fun t => EngineLegal t.scan) ht h hu
  have region : ∀ {index : Byte} {allowed : Life → Bool} {effect : State → Ix → State × List Byte},
      (takeCommand 1 s fun t => lifeCommand index t allowed (effect t)) = .next t → (∀ i, EngineLegal (effect s i).1.scan) →
      EngineLegal t.scan := fun ht hu =>
    taken ht (lifeCommand_keeps (P := fun t => EngineLegal t.scan) h fun i _ _ _ _ _ => hu i)
  cases c with
  | powerOnReset => cases ht; exact engineLegal_reset
  | portResetAssert =>
    simp only [exec, execPortResetAssert] at ht
    split at ht
    · exact stays ht
    · split at ht
      · cases ht; exact h
      · cases ht; exact portReset_engineLegal h
  | portResetDeassert =>
    simp only [exec, execPortResetDeassert] at ht
    split at ht
    · exact stays ht
    · split at ht
      · cases ht; exact h
      · cases ht; exact resumeStarvation_engineLegal h
  | hostWriteBeat offer =>
    simp only [exec, execHostWriteBeat] at ht
    split at ht
    · exact stepped ht fun _ => storeBeat_engineLegal h _ offer
    · exact stays ht
  | scanClaimGrant =>
    simp only [exec, execScanClaimGrant] at ht
    split at ht
    · exact stepped ht fun hr => grantChunk_engineLegal h ((scanGrantReady_iff s).1 hr).2.1 _
    · exact stays ht
  | forcedClaimGrant =>
    simp only [exec, execForcedClaimGrant] at ht
    split at ht
    · exact stepped ht fun hr => grantChunk_engineLegal h ((forcedGrantReady_iff s).1 hr).2.1 _
    · exact stays ht
  | memoryResponseItemPass offer => exact stepped ht fun _ => offerItem_engineLegal h _ _
  | localAnswerSend dir id head =>
    refine stepped ht fun _ => ?_
    rw [sendLocal_scan]
    cases head with
    | none => exact h
    | some item => exact offerItem_engineLegal h item false
  | chunkReadReturn data status =>
    simp only [exec, execChunkReadReturn] at ht
    split at ht
    · next r hr => exact stepped ht fun _ => returnChunk_engineLegal h hr _
    all_goals exact stepped ht fun _ => h
  | chunkReadBeat data status =>
    simp only [exec, execChunkReadBeat] at ht
    split at ht
    · next r hr =>
      exact stepped ht fun hready => chunkBeat_engineLegal h hr (by simpa using (Bool.and_eq_true_iff.1 hready).2) _
    all_goals exact stepped ht fun _ => h
  | starvationTimerExpiry => exact stepped ht (starve_engineLegal h)
  | roundTimerExpiry => exact stepped ht (startRound_engineLegal h)
  | drainTimerExpiry =>
    simp only [exec, execDrainTimerExpiry] at ht
    split at ht
    · exact stepped ht fun _ => releaseHeld_engineLegal (cutDrain_engineLegal h _ _) _
    · exact stays ht
  | drainComplete =>
    simp only [exec, execDrainComplete] at ht
    split at ht
    · exact stepped ht fun _ => completeDrain_engineLegal h _ _
    · exact stays ht
  | writeDrainDone => exact stepped ht fun _ => finishWriteDrains_engineLegal h
  | commit => exact taken ht (doCommit_engineLegal h)
  | abortCommit => exact taken ht (doAbortCommit_engineLegal h)
  | openRegion index => exact region ht fun i => openAt_engineLegal h.fits i
  | closeRegion index => exact region ht fun i => beginDrain_engineLegal h.fits fun _ => h
  | resign index => exact region ht fun i => resign_engineLegal h i
  | verify index => exact region ht fun i => verifyAt_engineLegal h i
  | enable => exact taken ht (enableEngine_engineLegal h)
  | disable => exact taken ht (disableEngine_engineLegal h)
  | roundsOn | roundsOff => exact taken ht (setRoundMode_engineLegal h _)
  | resume => exact taken ht (doResume_engineLegal h)
  | softClear => exact taken ht (doSoftClear_engineLegal h)
  | _ => cases hc

theorem exec_engineLegal {c : Instr} {s t : State} (ht : exec c s = .next t) (h : EngineLegal s.scan) : EngineLegal t.scan := by
  cases hc : reachesEngine c with
  | true => exact exec_engineLegal_of_reachesEngine hc ht h
  | false => exact (exec_scan_of_not_reachesEngine hc ht).symm ▸ h

/-- The passing of time starts and stops no timer. -/
theorem advance_engineLegal {s : State} (h : EngineLegal s.scan) : EngineLegal (advance s).scan := by
  obtain ⟨engine, queue, starvation, forced, timer⟩ := h
  refine ⟨engine, queue, fun hs => starvation ?_, forced, ?_⟩
  · simpa [advance] using hs
  · simpa [advance, roundsDue] using timer

/-! ## Settled -/

/-- Settles O15: every command and the passing of time keep the engine's parts in agreement. -/
theorem engineStaysLegal : Obligations.EngineStaysLegal := fun _ _ ht h =>
  step_keeps (P := fun s => EngineLegal s.scan) (fun _ _ h => h) (fun _ h => advance_engineLegal h)
    (fun _ _ _ hx h => exec_engineLegal hx h) ht h

end Sys2Proof.Machine

/-! The Scan Engine's steps as equations: an engine that waits for its next gap, a head taken or not, the beats and the return of a chunk
read, and SCAN_CONTROL's actions. -/

namespace Sys2Proof.Machine

/-! ## Waiting for a gap, and taking a head -/

/-- An engine enters WAITING_GAP with its starvation timer started as R138 says, while POR_N is not asserted. -/
theorem enterWaiting_eq {s : State} (hp : s.pins.por = false) : enterWaiting s = { s with
    scan := { s.scan with engine := .waitingGap, starvation := startedStarvation s } } :=
  startStarvation_eq (s := { s with scan := { s.scan with engine := .waitingGap } }) hp

/-- Outside IDLE the round timer does not run (R132). -/
theorem refreshRound_of_not_idle {s : State} (h : s.scan.engine ≠ .idle) :
    refreshRound s = { s with scan := { s.scan with roundTimer := none } } := by
  rw [refreshRound, roundsDue_of_not_idle h]
  rfl

/-- In IDLE the round timer runs while round mode is on and no ROUND job is queued (R132). -/
theorem refreshRound_of_idle {s : State} (h : s.scan.engine = .idle) : refreshRound s = { s with scan := { s.scan with
    roundTimer := if s.scan.roundMode = true ∧ s.scan.queue.round = [] then some (s.scan.roundTimer.getD (startedRound s))
      else none } } := by
  have due : roundsDue s.scan = decide (s.scan.roundMode = true ∧ s.scan.queue.round = []) := by
    rw [Bool.eq_iff_iff]
    simp [roundsDue, h]
  simp only [refreshRound, due, decide_eq_true_eq]
  rfl

/-- The state in which an IDLE engine forms the context of the job it takes (R134). -/
def formed (s : State) (i : Ix) (k : JobKind) (q : ScanQueue) : State :=
  { s with scan := { s.scan with queue := q, context := some (newContext i k), streak := 0 } }

/-- An IDLE engine with a queued job takes the head, waits for its gap and stops the round timer (R132, R134). -/
theorem settle_of_head {s : State} {i : Ix} {k : JobKind} {q : ScanQueue} (hp : s.pins.por = false) (he : s.scan.engine = .idle)
    (hq : s.scan.queue.pop = some (i, k, q)) {t : State} (ht : tellActive (formed s i k q) i k = t) :
    settle s =
      { t with scan := { t.scan with engine := .waitingGap, starvation := startedStarvation t, roundTimer := none } } := by
  have head : takeHead s = enterWaiting (tellActive (formed s i k q) i k) := by
    simp only [takeHead, he, hq, formed]
  have released : t.pins.por = false := by rw [← ht, tellActive_pins]; exact hp
  rw [settle, head, ht, enterWaiting_eq released]
  exact refreshRound_of_not_idle (by simp)

/-- Settles O38: the head is that of the first class with a job, and a SIGN job's region becomes ACTIVE. -/
theorem idleEngineTakesTheHead : Obligations.IdleEngineTakesTheHead := by
  intro s context taken timed hp
  refine ⟨fun i rest sub he hq hl => ?_, fun i rest he hs hq => ?_, fun i rest he hs hd hq => ?_, fun he hq => ?_, fun he => ?_⟩
  · have active : tellActive (formed s i .sign { s.scan.queue with sign := rest }) i .sign =
        setLife (formed s i .sign { s.scan.queue with sign := rest }) i (some (.signing .active)) := by
      simp only [tellActive, formed, hl]
    exact settle_of_head hp he (by rw [ScanQueue.pop, hq]) active
  · exact settle_of_head hp he (k := .verifyDemand) (q := { s.scan.queue with demand := rest }) (by simp only [ScanQueue.pop, hs, hq])
      (tellActive_verify _ _ nofun)
  · exact settle_of_head hp he (k := .verifyRound) (q := { s.scan.queue with round := rest }) (by simp only [ScanQueue.pop, hs, hd, hq])
      (tellActive_verify _ _ nofun)
  · obtain ⟨hs, hd, hr⟩ : s.scan.queue.sign = [] ∧ s.scan.queue.demand = [] ∧ s.scan.queue.round = [] := by
      simpa [ScanQueue.jobs] using hq
    rw [settle, takeHead_of_empty s (by rw [ScanQueue.pop, hs, hd, hr]), refreshRound_of_idle he]
    simp [hr, timed]
  · exact settle_of_not_idle he

/-! ## Chunk reads -/

section ChunkReads
variable {s : State} {r : ChunkRead} (hp : s.pins.por = false) (hhead : s.fwd.head = none) (hr : s.scan.engine = .reading r)
include hp hhead hr

theorem exec_chunkReadBeat_kept (hroom : r.beats.length < 3) (data : BitVec 64) (status : RespStatus) :
    exec (.chunkReadBeat data status) s = .next { s with scan := { s.scan with
      engine := .reading { r with beats := r.beats ++ [(data, status)] } } } := by
  change execChunkReadBeat data status s = _
  rw [execChunkReadBeat, hr]
  exact stepWhen_taken hp (by simp [headFree, hhead, hroom])

/-- The fourth beat ends the read (R136). -/
theorem exec_chunkReadReturn_fourth (hthree : r.beats.length = 3) (data : BitVec 64) (status : RespStatus) :
    exec (.chunkReadReturn data status) s = .next (returnChunk s r (r.beats ++ [(data, status)])) := by
  change execChunkReadReturn data status s = _
  rw [execChunkReadReturn, hr]
  exact stepWhen_taken hp (by simp [headFree, hhead, hthree])

omit hp hhead

/-- A fourth beat is none of the first three (log entry 8). -/
theorem exec_chunkReadBeat_full (hthree : r.beats.length = 3) (data : BitVec 64) (status : RespStatus) :
    exec (.chunkReadBeat data status) s = .next s := by
  change execChunkReadBeat data status s = _
  rw [execChunkReadBeat, hr]
  exact stepWhen_not _ _ (by simp [hthree])

/-- A read does not return before its fourth beat (log entry 8). -/
theorem exec_chunkReadReturn_early (hroom : r.beats.length < 3) (data : BitVec 64) (status : RespStatus) :
    exec (.chunkReadReturn data status) s = .next s := by
  change execChunkReadReturn data status s = _
  rw [execChunkReadReturn, hr]
  exact stepWhen_not _ _ (by simp [hroom.ne])

end ChunkReads

/-- The return of a read whose job was abandoned (R147). -/
theorem returnChunk_discarded {r : ChunkRead} (hd : r.disposition = .discard) (s : State) (beats : List (BitVec 64 × RespStatus)) :
    returnChunk s r beats = settle { s with scan := { s.scan with engine := if r.offPending then .off else .idle } } := by
  rw [returnChunk, hd]

section Applied
variable {s : State} {r : ChunkRead} {c : JobContext} {beats : List (BitVec 64 × RespStatus)} (hd : r.disposition = .apply)
  (hc : s.scan.context = some c)
include hd hc

theorem returnChunk_ok (hok : ∀ b ∈ beats, b.2 = .ok) : returnChunk s r beats = returnOk s c beats r.offPending := by
  rw [returnChunk, hd, hc]
  exact if_pos (by simpa using hok)

theorem returnChunk_err (herr : ∃ b ∈ beats, b.2 = .err) : returnChunk s r beats = returnErr s c r.addr r.offPending := by
  obtain ⟨b, hb, hs⟩ := herr
  rw [returnChunk, hd, hc]
  refine if_neg fun hok => ?_
  simpa [hs] using List.all_eq_true.1 hok b hb

end Applied

/-- An OK return before the last chunk keeps the job (R136). -/
theorem returnOk_more {s : State} {c : JobContext}
    (hmore : c.cursor + 32 ≠ 256 * (s.table.active.get c.region).size.toNat) (beats : List (BitVec 64 × RespStatus)) (off : Bool) :
    returnOk s c beats off = afterChunk (keepChunk s (applyChunk c beats)) off := by
  rw [Nat.mul_comm] at hmore
  exact if_neg hmore

theorem afterChunk_off (s : State) : afterChunk s true = { s with scan := { s.scan with engine := .off } } := rfl

theorem afterChunk_waits {s : State} (hp : s.pins.por = false) : afterChunk s false = { s with
    scan := { s.scan with engine := .waitingGap, starvation := startedStarvation s } } :=
  enterWaiting_eq hp

/-- Settles O35: a beat is kept or the read returns; an abandoned read is dropped, and an OK one folded before the engine goes on. -/
theorem chunksReturnAndAreFolded : Obligations.ChunksReturnAndAreFolded := by
  intro s r hp hhead hr
  refine ⟨fun data status => ⟨fun hroom => exec_chunkReadBeat_kept hp hhead hr hroom data status, fun hthree hd => ?_,
    fun hthree => exec_chunkReadBeat_full hr hthree data status, fun hroom => exec_chunkReadReturn_early hr hroom data status⟩, ?_⟩
  · rw [exec_chunkReadReturn_fourth hp hhead hr hthree, returnChunk_discarded hd]
  · intro c d0 d1 d2 d3 hc hd hbeats hmore after t
    have returned : exec (.chunkReadReturn d3 .ok) s = .next (afterChunk t r.offPending) := by
      rw [exec_chunkReadReturn_fourth hp hhead hr (by rw [hbeats]; rfl), returnChunk_ok hd hc (by simp [hbeats]), returnOk_more hmore,
        hbeats]
      have folded : applyChunk c [(d0, .ok), (d1, .ok), (d2, .ok), (d3, .ok)] = after := by
        simp only [applyChunk, after, List.flatMap_cons, List.flatMap_nil, List.append_assoc, List.append_nil]
        rfl
      exact congrArg (fun c' => Host.Outcome.next (afterChunk (keepChunk s c') r.offPending)) folded
    rw [returned]
    refine ⟨fun hoff => ?_, fun hoff => ?_⟩
    · rw [hoff, afterChunk_off]
    · rw [hoff, afterChunk_waits (s := t) hp]

/-- Settles O37: the streak, with this ERR counted, says whether the engine tries again or halts. -/
theorem readErrorsRetryThenHalt : Obligations.ReadErrorsRetryThenHalt := by
  intro s r c data status hp hhead hr hc hd hthree herr kept t
  have failed : ∃ b ∈ r.beats ++ [(data, status)], b.2 = .err := by
    rcases herr with rfl | ⟨b, hb, hs⟩
    · exact ⟨(data, .err), by simp, rfl⟩
    · exact ⟨b, List.mem_append_left _ hb, hs⟩
  have returned : exec (.chunkReadReturn data status) s = .next (returnErr s c r.addr r.offPending) := by
    rw [exec_chunkReadReturn_fourth hp hhead hr hthree, returnChunk_err hd hc failed]
  have retried : s.scan.streak < 2 → returnErr s c r.addr r.offPending = afterChunk t r.offPending := fun hs =>
    if_pos (Nat.succ_lt_succ hs)
  rw [returned]
  refine ⟨fun hs hoff => ?_, fun hs hoff => ?_, fun hs => ?_⟩
  · rw [retried hs, hoff, afterChunk_waits (s := t) hp]
  · rw [retried hs, hoff, afterChunk_off]
  · have third : ¬s.scan.streak + 1 < 3 := by rw [hs]; exact Nat.lt_irrefl 3
    exact congrArg Host.Outcome.next (if_neg third)

/-! ## SCAN_CONTROL -/

/-- An action that is accepted is answered with the state it leaves (R150). -/
theorem scanAction_taken {s t : State} (hp : s.pins.por = false) {effect : State → State} (h : effect s = t) :
    takeCommand 1 s (fun u => scanAction (effect u)) = .next (answered t 1
      { status := .ok
        result := [t.scan.engine.code, if t.scan.engine.offPending then 1 else 0, if t.scan.roundMode then 1 else 0] }) := by
  rw [takeCommand_taken 1 s _ hp, h]
  rfl

theorem enableEngine_restarts {s : State} (he : s.scan.engine = .off) (hc : s.scan.context = none) :
    enableEngine s = settle (setEngine s .idle) := by
  rw [enableEngine, he, hc]

/-- ENABLE of an OFF engine with a job goes by the streak (R144). -/
theorem enableEngine_resumes {s : State} (he : s.scan.engine = .off) (hc : s.scan.context.isSome = true) :
    enableEngine s = if s.scan.streak < 3 then enterWaiting s else setEngine s .halted := by
  obtain ⟨c, hc⟩ := Option.isSome_iff_exists.1 hc
  rw [enableEngine, he, hc]

theorem enableEngine_reading {s : State} {r : ChunkRead} (he : s.scan.engine = .reading r) :
    enableEngine s = setEngine s (.reading { r with offPending := false }) := by
  rw [enableEngine, he]

theorem enableEngine_enabled {s : State} (he : s.scan.engine = .idle ∨ s.scan.engine = .waitingGap ∨ s.scan.engine = .halted) :
    enableEngine s = s := by
  rcases he with he | he | he <;> rw [enableEngine, he]

/-- Settles O53: each action's effect by engine state, and where the engine is IDLE and no ROUND job is queued, the round timer. -/
theorem scanControl : Obligations.ScanControl := by
  intro s hp ok moved waiting mode
  have enable : ∀ {t}, enableEngine s = t → ok .enable t := scanAction_taken hp
  have disable : ∀ {t}, disableEngine s = t → ok .disable t := scanAction_taken hp
  have rounds : ∀ {on t}, setRoundMode s on = t → ok (if on then .roundsOn else .roundsOff) t := by
    intro on t h
    cases on <;> exact scanAction_taken hp (effect := fun u => setRoundMode u _) h
  have stopped : ∀ on, roundsDue { s.scan with roundMode := on } = false → setRoundMode s on = mode on none := by
    intro on hdue
    simp only [setRoundMode, refreshRound, hdue]
    rfl
  refine ⟨fun he hc => enable (enableEngine_restarts he hc), fun he hc hs => enable ?_, fun he hc hs => enable ?_,
    fun r he => ⟨enable (enableEngine_reading he), disable ?_⟩, fun he => enable (enableEngine_enabled he), fun he => disable ?_,
    fun he => disable ?_, fun he => disable ?_, fun he => disable ?_, fun he hq => rounds (on := true) ?_,
    fun hnot => rounds (on := true) (stopped true ?_), rounds (on := false) (stopped false rfl), fun he => ?_, fun he => ?_⟩
  · rw [enableEngine_resumes he hc, if_pos hs, enterWaiting_eq hp]
  · rw [enableEngine_resumes he hc, if_neg (Nat.not_lt.2 hs)]
    rfl
  · rw [disableEngine, he]
    rfl
  · rw [disableEngine, he]
  · rw [disableEngine, he]
    exact refreshRound_of_not_idle (s := setEngine s .off) nofun
  · rw [disableEngine, he]
  · rw [disableEngine, he]
    rfl
  · rw [setRoundMode, refreshRound_of_idle (by exact he)]
    exact congrArg (mode true) (if_pos ⟨rfl, hq⟩)
  · rcases hnot with he | hq
    · exact roundsDue_of_not_idle he
    · simp [roundsDue, hq]
  · have resumed : doResume s = scanAction (enterWaiting { s with scan := { s.scan with streak := 0 } }) := by rw [doResume, he]
    refine (takeCommand_taken 1 s doResume hp).trans ?_
    rw [resumed, enterWaiting_eq (by exact hp)]
    rfl
  · have refused : doResume s = (s, refusedResponse .state 3 []) := by
      unfold doResume
      split
      · next h => exact absurd h he
      all_goals rfl
    refine (takeCommand_taken 1 s doResume hp).trans ?_
    rw [refused]
    rfl

end Sys2Proof.Machine

/-! Frames of the management port (R168 to R172): the code table, what is made of a frame of each form, the frame that spells a command,
and the pending response and MISO after a frame that carries none. -/

namespace Sys2Proof

/-! ## The code table -/

theorem codeTable_codes_nodup : (codeTable.map CodeRow.code).Nodup := by decide

/-- The row of a code is the row of the table that holds it. -/
theorem codeRow_eq_some_iff (code : Byte) (row : CodeRow) : codeRow code = some row ↔ row ∈ codeTable ∧ row.code = code := by
  constructor
  · intro h
    exact ⟨List.mem_of_find?_eq_some h, by simpa using List.find?_some h⟩
  · rintro ⟨hrow, rfl⟩
    have found : (codeRow row.code).isSome = true := List.find?_isSome.2 ⟨row, hrow, by simp⟩
    obtain ⟨row', hrow'⟩ := Option.isSome_iff_exists.1 found
    have same : row'.code = row.code := by simpa using List.find?_some hrow'
    rw [hrow', List.inj_on_of_nodup_map codeTable_codes_nodup (List.mem_of_find?_eq_some hrow') hrow same]

/-- The codes of the table with their numbers of argument bytes. -/
theorem mem_codeTable_iff (code : Byte) (n : Nat) :
    (code.toNat, n) ∈ codeTable.map (fun row => (row.code.toNat, row.args)) ↔ ∃ row, codeRow code = some row ∧ row.args = n := by
  simp only [List.mem_map, Prod.mk.injEq, BitVec.toNat_inj, codeRow_eq_some_iff, and_assoc]

/-! ## What is made of a frame -/

section Judged
variable {code : Byte} (hcode : code ≠ 0)
include hcode

theorem judgeFrame_unknown (h : codeRow code = none) (rest : List Byte) (part : Bool) :
    judgeFrame (code :: rest) part = .unknown := by
  simp only [judgeFrame, if_neg hcode, h]

variable {row : CodeRow} (hrow : codeRow code = some row)
include hrow

theorem judgeFrame_length {rest : List Byte} {part : Bool} (h : part = true ∨ rest.length ≠ row.args + 1) :
    judgeFrame (code :: rest) part = .length := by
  simp only [judgeFrame, if_neg hcode, hrow]
  exact if_pos (by simpa using h)

/-- A frame of the right length is judged by its CRC byte, and then by the command its arguments spell (R170). -/
theorem judgeFrame_whole {args : List Byte} (hargs : args.length = row.args) (crc : Byte) :
    judgeFrame (code :: (args ++ [crc])) false =
      if crc ≠ crc8 (code :: args) then .frameCrc else (commandOf code args).elim .badAction .command := by
  have whole : (false || (args ++ [crc]).length != row.args + 1) = false := by simp [hargs]
  simp only [judgeFrame, if_neg hcode, hrow, whole, List.getLast?_concat, List.dropLast_concat, bne_iff_ne, ne_eq,
    Option.some.injEq, Bool.false_eq_true, if_false]
  cases commandOf code args <;> rfl

end Judged

/-! ## The frame that spells a command -/

theorem of16_le16 (x : BitVec 16) : of16 (x.extractLsb' 0 8) (x.extractLsb' 8 8) = x := by
  unfold of16
  ext i hi
  simp only [BitVec.getElem_append, BitVec.getElem_extractLsb']
  split
  · rw [Nat.zero_add, BitVec.getLsbD_eq_getElem]
  · next h => rw [show 8 + (i - 8) = i by omega, BitVec.getLsbD_eq_getElem]

theorem commandOf_stageEntry (index : Byte) (entry : RawEntry) :
    commandOf 0x03 (index :: entry.toList) = some (.stageEntry index entry) := by
  have sixteen : entry.toList.length = 16 := by simp
  unfold commandOf
  split
  case h_5 i rest _ _ _ heq =>
    obtain ⟨rfl, rfl⟩ := List.cons.inj heq
    simp [Vector.toList]
  all_goals next heq => simpa [sixteen] using congrArg List.length heq

/-- A command's code and arguments stand in the code table, and spell the command (section 10.6). -/
theorem commandBytes_spells {c : Instr} {bytes : List Byte} (h : commandBytes c = some bytes) :
    ∃ code args row, bytes = code :: args ∧ code ≠ 0 ∧ codeRow code = some row ∧ args.length = row.args ∧
      commandOf code args = some c := by
  cases c with
  | setTiming clock hold starvation drain round =>
    cases h
    refine ⟨_, _, _, rfl, by decide, rfl, rfl, ?_⟩
    simp [le16, commandOf, of16_le16]
  | stageEntry index entry =>
    cases h
    exact ⟨_, _, _, rfl, by decide, rfl, by simp, commandOf_stageEntry index entry⟩
  | discard mask =>
    cases h
    refine ⟨_, _, _, rfl, by decide, rfl, rfl, ?_⟩
    simp [le16, commandOf, of16_le16]
  | identify | readEntry | commit | abortCommit | commitStatus | enable | disable | roundsOn | roundsOff | resume | scanStatus
  | readEvent | eventStatus | dirtyStatus | portStatus | softClear =>
    cases h
    exact ⟨_, _, _, rfl, by decide, rfl, rfl, rfl⟩
  | openRegion | closeRegion | resign | verify | regionStatus | clearFlags | setAlertMask | takeDirty | clearDirty
  | setDirtyThreshold =>
    cases h
    exact ⟨_, _, _, rfl, by decide, rfl, rfl, by simp [commandOf, shortCommand]⟩
  | _ => cases h

/-- A command is read from the frame that carries it (R169, R170). -/
theorem judgeFrame_encodeFrame {c : Instr} {frame : List Byte} (h : encodeFrame c = some frame) :
    judgeFrame frame false = .command c := by
  obtain ⟨bytes, hbytes, rfl⟩ := Option.map_eq_some_iff.1 h
  obtain ⟨code, args, row, rfl, hcode, hrow, hargs, hc⟩ := commandBytes_spells hbytes
  rw [List.cons_append, judgeFrame_whole hcode hrow hargs, if_neg (not_not.2 rfl), hc, Option.elim_some]

/-- A correct SCAN_CONTROL frame has one of five actions (R150). -/
theorem commandOf_badAction {action : Byte} (h : action.toNat = 0 ∨ 5 < action.toNat) : commandOf 0x18 [action] = none := by
  change shortCommand 0x18 action.toNat = none
  rcases h with h | h
  · rw [h]
    rfl
  · obtain ⟨k, hk⟩ := Nat.exists_eq_add_of_le' h
    rw [hk]
    rfl

namespace Machine

/-! ## Frames that carry no command -/

/-- The bytes of a response, then 0xFF as long as the frame lasts (R172). -/
theorem fetchBytes_eq (r : Response) (n : Nat) :
    fetchBytes r n = r.bytes.take n ++ List.replicate (n - r.bytes.length) 0xFF := by
  rw [fetchBytes, List.take_append, List.take_replicate, Nat.min_eq_left (Nat.sub_le ..)]

section Rejected
variable {s : State} {frame : List Byte} {part : Bool}

/-- The rejection of a frame becomes the pending response (R170). -/
theorem exec_commandFrameRejected_some (hp : s.pins.por = false) {r : Response} (h : rejection (judgeFrame frame part) = some r) :
    exec (.commandFrameRejected frame part) s = .next { s with mgmt := { s.mgmt with
      receiver := .idle, response := some r, miso := List.replicate frame.length 0xFF } } := by
  simp only [exec, execCommandFrameRejected, h]
  exact stepWhen_taken hp rfl

/-- A frame that is not rejected is none of this command's (log entry 14). -/
theorem exec_commandFrameRejected_none (h : rejection (judgeFrame frame part) = none) :
    exec (.commandFrameRejected frame part) s = .next s := by
  simp only [exec, execCommandFrameRejected, h]

end Rejected

/-- Settles O60: a fetch frame goes by its second byte, and a rejected frame by the first of R170's tests that it fails. -/
theorem framesWithoutCommand : Obligations.FramesWithoutCommand := by
  intro s hp filled carried codes
  have fetched : ∀ mosi, exec (.fetch mosi) s = .next { s with mgmt := fetchFrame s.mgmt mosi } := fun _ => stepWhen_taken hp rfl
  have bytes_filled : ∀ r n, [0xFF, 0xFF] ++ fetchBytes r n = filled r n := fun r n => by
    rw [fetchBytes_eq, ← List.append_assoc]
    rfl
  have row_iff : ∀ (code : Byte) (n : Nat), (code.toNat, n) ∈ codes ↔ ∃ row, codeRow code = some row ∧ row.args = n :=
    mem_codeTable_iff
  have rejected : ∀ {frame part r}, rejection (judgeFrame frame part) = some r →
      exec (.commandFrameRejected frame part) s = .next (carried (some r) (List.replicate frame.length 0xFF)) :=
    exec_commandFrameRejected_some hp
  refine ⟨fetched [], fun rest => ?_, fun second rest hne => ?_, stepWhen_taken hp rfl, rejected rfl, fun action haction => ?_,
    fun frame c hframe => ?_, fun rest part => ?_, fun code rest part hcode => ⟨fun hnone => ?_, fun n hn hlength => ?_,
    fun n args crc hn hpart hrest hargs hcrc => ?_⟩⟩
  · rw [fetched, ← bytes_filled]
    rfl
  · rw [fetched, ← bytes_filled]
    simp only [fetchFrame, if_neg hne]
    rfl
  · have judged : judgeFrame [0x18, action, crc8 [0x18, action]] false = .badAction := by
      have whole := judgeFrame_whole (code := 0x18) (by decide) (row := ⟨0x18, 1, 3⟩) rfl (args := [action]) rfl
        (crc8 [0x18, action])
      rw [if_neg (not_not.2 rfl), commandOf_badAction haction] at whole
      exact whole
    exact rejected (by rw [judged]; rfl)
  · exact exec_commandFrameRejected_none (by rw [judgeFrame_encodeFrame hframe]; rfl)
  · exact exec_commandFrameRejected_none rfl
  · have unknown : codeRow code = none := Option.eq_none_iff_forall_ne_some.2 fun row hrow =>
      hnone row.args ((row_iff code _).2 ⟨row, hrow, rfl⟩)
    exact rejected (by rw [judgeFrame_unknown hcode unknown]; rfl)
  · obtain ⟨row, hrow, rfl⟩ := (row_iff code n).1 hn
    exact rejected (by rw [judgeFrame_length hcode hrow hlength]; rfl)
  · obtain ⟨row, hrow, rfl⟩ := (row_iff code n).1 hn
    subst hpart hrest
    exact rejected (by rw [judgeFrame_whole hcode hrow hargs, if_pos hcrc]; rfl)

end Machine

end Sys2Proof

/-! How the Event Unit takes an event (R156): the flag of its class is set, and the event is merged into the newest record, stored,
or dropped. -/

namespace Sys2Proof.Machine

/-! ## Classes -/

/-- The flag that an event sets, told by the range its kind's code lies in (R154, section 10.6). -/
theorem union_flag_eq (f : Flags) (k : EventKind) :
    f.union k.flag = { f with
      policy := f.policy || decide (k.code.toNat ≤ 5)
      integrity := f.integrity || decide (k.code.toNat = 6)
      scan := f.scan || decide (7 ≤ k.code.toNat ∧ k.code.toNat ≤ 11)
      config := f.config || decide (12 ≤ k.code.toNat ∧ k.code.toNat ≤ 14)
      dirty := f.dirty || decide (15 ≤ k.code.toNat) } := by
  cases k <;> simp [Flags.union, EventKind.flag, EventKind.code, Flags.none]

/-- The POLICY class is that of the codes up to 5 (R154, R157). -/
theorem coalesced_iff (k : EventKind) : k.coalesced = true ↔ k.code.toNat ≤ 5 := by
  cases k <;> decide

theorem mergesInto_iff (e : Event) (r : Record) :
    mergesInto e r = true ↔ e.kind.code.toNat ≤ 5 ∧ r.event.kind = e.kind ∧ r.event.region = e.region ∧
      r.event.hostId = e.hostId ∧ r.repeats.toNat < 255 := by
  simp [mergesInto, coalesced_iff, and_assoc]

/-! ## The three outcomes -/

/-- The dropped count stays at 255 (R160). -/
theorem satInc_byte (c : Byte) : satInc c = if c = 255 then 255 else c + 1 := by
  by_cases top : c = 255
  · rw [top]; rfl
  · rw [if_neg top]; exact if_neg top

/-- Adding the LOG flag (R160). -/
theorem union_logOnly (f : Flags) : f.union Flags.logOnly = { f with log := true } := by
  simp [Flags.union, Flags.logOnly, Flags.none]

/-- An event that matches the newest record raises its repeat (R157). -/
theorem take_of_merged {u : EventUnit} {e : Event} {older : List Record} {newest : Record} (hlog : u.log = older ++ [newest])
    (hm : mergesInto e newest = true) :
    u.take e = { u with
      log := older ++ [{ newest with repeats := newest.repeats + 1 }], flags := u.flags.union e.kind.flag } := by
  simp [EventUnit.take, EventUnit.record, hlog, hm, mergeNewest]

/-- Any other event is stored while there is room, and dropped otherwise (R158, R160). -/
theorem take_of_not_merged {u : EventUnit} {e : Event}
    (hm : ∀ older newest, u.log = older ++ [newest] → ¬mergesInto e newest = true) :
    u.take e = if u.log.length < Config.logRecords then { u with flags := u.flags.union e.kind.flag }.store e
      else { u with flags := u.flags.union e.kind.flag }.drop := by
  unfold EventUnit.take EventUnit.record
  dsimp only
  split
  · next r hr => rw [if_neg (hm _ r (List.dropLast_append_getLast? r hr).symm)]
  · next hnone =>
    rw [List.getLast?_eq_none_iff.1 hnone]
    rfl

/-- Settles O54: the three outcomes, with the flag of the event's class. -/
theorem eventsAreTaken : Obligations.EventsAreTaken := by
  intro u e code flagged matching
  have flags : u.flags.union e.kind.flag = flagged := union_flag_eq u.flags e.kind
  have other (hm : ∀ older newest, u.log = older ++ [newest] → ¬matching newest) :
      u.take e = if u.log.length < Config.logRecords then { u with flags := flagged }.store e else { u with flags := flagged }.drop :=
    flags ▸ take_of_not_merged fun older newest hlog h => hm older newest hlog ((mergesInto_iff e newest).1 h)
  refine ⟨fun older newest hlog hm => ?_, fun hm hroom => ?_, fun hm hfull => ?_⟩
  · exact flags ▸ take_of_merged hlog ((mergesInto_iff e newest).2 hm)
  · exact (other hm).trans (if_pos hroom)
  · refine (other hm).trans ((if_neg (Nat.not_lt.2 hfull)).trans ?_)
    rw [EventUnit.drop, union_logOnly, satInc_byte]

end Sys2Proof.Machine

/-! The commands of the Event Unit: the flags that a mask byte names, and what READ_EVENT, CLEAR_FLAGS and SET_ALERT_MASK answer and
leave. -/

namespace Sys2Proof.Machine

/-! ## Mask bytes -/

/-- A mask byte has bit 6 or 7 set exactly when it is 64 or more. -/
theorem highBits_eq (m : Byte) : (m.getLsbD 6 || m.getLsbD 7) = decide (64 ≤ m.toNat) := by
  revert m; decide

/-- A mask byte of 64 or more names no set of flags (R177). -/
theorem flagsOf_above {m : Byte} (h : 64 ≤ m.toNat) : flagsOf m = none := by
  rw [flagsOf, highBits_eq, decide_eq_true h, if_pos rfl]

/-- A mask byte below 64 names the flags of its bits (R162, R163). -/
theorem flagsOf_below {m : Byte} (h : m.toNat < 64) :
    flagsOf m = some { policy := m.getLsbD 0, integrity := m.getLsbD 1, scan := m.getLsbD 2, config := m.getLsbD 3,
                       dirty := m.getLsbD 4, log := m.getLsbD 5 } := by
  rw [flagsOf, highBits_eq, decide_eq_false (Nat.not_le.2 h), if_neg Bool.false_ne_true]

/-- The flag mask byte of the flags a mask byte names is that byte (section 10.6). -/
theorem byte_of_flagsOf {m : Byte} {f : Flags} (h : flagsOf m = some f) : f.byte = m := by
  have all : ∀ m : Byte, ∀ f ∈ flagsOf m, f.byte = m := by decide
  exact all m f h

/-! ## The commands -/

theorem doReadEvent_empty {s : State} (h : s.events.log = []) :
    doReadEvent s = (s, { status := .empty, result := List.replicate 21 0 }) := by
  rw [doReadEvent, h]
  rfl

/-- The oldest record leaves the log and is the answer, with the number of records left (R161). -/
theorem doReadEvent_oldest {s : State} {r : Record} {rest : List Record} (h : s.events.log = r :: rest) :
    doReadEvent s =
      ({ s with events := { s.events with log := rest } }, okResponse (r.bytes ++ [BitVec.ofNat 8 rest.length])) := by
  rw [doReadEvent, h]

theorem doClearFlags_noFlags {m : Byte} (s : State) (h : flagsOf m = none) :
    doClearFlags m s = (s, { status := .range, result := [0] }) := by
  rw [doClearFlags, h]
  rfl

/-- The flags named are cleared, and those left are the answer (R162). -/
theorem doClearFlags_cleared {m : Byte} {f : Flags} (s : State) (h : flagsOf m = some f) :
    doClearFlags m s =
      ({ s with events := { s.events with flags := s.events.flags.minus f } }, okResponse [(s.events.flags.minus f).byte]) := by
  rw [doClearFlags, h]

theorem doSetAlertMask_noFlags {m : Byte} (s : State) (h : flagsOf m = none) :
    doSetAlertMask m s = (s, { status := .range, result := [0, 0] }) := by
  rw [doSetAlertMask, h]
  rfl

/-- The mask is replaced, and is the answer with the level of ALERT_N that follows (R163). -/
theorem doSetAlertMask_replaced {m : Byte} {f : Flags} (s : State) (h : flagsOf m = some f) :
    doSetAlertMask m s =
      ({ s with events := { s.events with mask := f } },
        okResponse [m, yesNo (alertLow { s with events := { s.events with mask := f } })]) := by
  simp only [doSetAlertMask, h, byte_of_flagsOf h]

/-- With POR_N released, ALERT_N is low exactly when an enabled flag is set (R165). -/
theorem alertLow_of_released {s : State} (hp : s.pins.por = false) : alertLow s = s.events.flags.meets s.events.mask := by
  rw [alertLow, hp, Bool.not_false, Bool.true_and]

/-- Settles O55: an empty log is refused, and a mask byte goes by whether it is below 64. -/
theorem eventCommands : Obligations.EventCommands := by
  intro s m hp named f left low
  refine ⟨fun hempty => ?_, fun r rest hlog => ?_, fun habove => ⟨?_, ?_⟩, fun hbelow => ⟨?_, ?_⟩⟩
  · exact (takeCommand_taken _ _ _ hp).trans (by rw [doReadEvent_empty hempty])
  · exact (takeCommand_taken _ _ _ hp).trans (by rw [doReadEvent_oldest hlog]; rfl)
  · exact (takeCommand_taken _ _ _ hp).trans (by rw [doClearFlags_noFlags s (flagsOf_above habove)])
  · exact (takeCommand_taken _ _ _ hp).trans (by rw [doSetAlertMask_noFlags s (flagsOf_above habove)])
  · exact (takeCommand_taken _ _ _ hp).trans (by rw [doClearFlags_cleared s (flagsOf_below hbelow)]; rfl)
  · refine (takeCommand_taken _ _ _ hp).trans ?_
    rw [doSetAlertMask_replaced s (flagsOf_below hbelow),
      alertLow_of_released (s := { s with events := { s.events with mask := named } }) hp]
    rfl

end Sys2Proof.Machine

/-! The Event Log stays legal (R153, R155, R158). `Recorded` lists what can become of the Event Unit, `LogLegal` holds through each of
these, and no command does anything else to the unit. -/

namespace Sys2Proof.Machine

/-! ## What keeps the log legal -/

/-- The seq values of a log of a given length: they rise by one up to next seq (R155). -/
def seqsUpTo (next : BitVec 16) (length : Nat) : List (BitVec 16) :=
  (List.range length).map fun k => next - BitVec.ofNat 16 (length - k)

/-- One more record takes the seq next seq, which rises by one, and those before it keep theirs (R158). -/
theorem seqsUpTo_succ (next : BitVec 16) (n : Nat) : seqsUpTo (next + 1) (n + 1) = seqsUpTo next n ++ [next] := by
  have older : ∀ k ∈ List.range n, next + 1 - BitVec.ofNat 16 (n + 1 - k) = next - BitVec.ofNat 16 (n - k) := by
    intro k hk
    rw [Nat.succ_sub (List.mem_range.1 hk).le, Nat.succ_eq_add_one, BitVec.ofNat_add]
    bv_omega
  rw [seqsUpTo, List.range_succ, List.map_append, List.map_congr_left older]
  simp [seqsUpTo]

theorem seqsUpTo_tail (next : BitVec 16) (n : Nat) : (seqsUpTo next (n + 1)).tail = seqsUpTo next n := by
  simp [seqsUpTo, List.range_succ_eq_map, Function.comp_def]

theorem logLegal_iff (u : EventUnit) :
    LogLegal u ↔ u.log.length ≤ 32 ∧ u.log.map Record.seq = seqsUpTo u.nextSeq u.log.length ∧
      ∀ r ∈ u.log, 1 ≤ r.repeats.toNat := .rfl

theorem LogLegal.store {u : EventUnit} (h : LogLegal u) (hroom : u.log.length < 32) (e : Event) : LogLegal (u.store e) := by
  obtain ⟨-, seqs, repeats⟩ := (logLegal_iff u).1 h
  rw [logLegal_iff]
  simp only [EventUnit.store, List.map_append, List.length_append, seqs]
  refine ⟨hroom, (seqsUpTo_succ _ _).symm, fun r hr => ?_⟩
  rcases List.mem_append.1 hr with old | new
  · exact repeats r old
  · rw [List.mem_singleton.1 new]
    exact le_refl 1

/-- A repeat below 255 can rise by one without wrapping (R157). -/
theorem LogLegal.merge {u v : EventUnit} {older : List Record} {newest : Record} (h : LogLegal u)
    (hlog : u.log = older ++ [newest]) (hlt : newest.repeats.toNat < 255)
    (hv : v.log = older ++ [{ newest with repeats := newest.repeats + 1 }]) (hnext : v.nextSeq = u.nextSeq) : LogLegal v := by
  obtain ⟨room, seqs, repeats⟩ := (logLegal_iff u).1 h
  have length : v.log.length = u.log.length := by simp [hv, hlog]
  have sameSeqs : v.log.map Record.seq = u.log.map Record.seq := by simp [hv, hlog]
  refine (logLegal_iff v).2 ⟨length ▸ room, by rw [sameSeqs, length, hnext, seqs], fun r hr => ?_⟩
  rw [hv] at hr
  rcases List.mem_append.1 hr with old | new
  · exact repeats r (hlog ▸ List.mem_append_left _ old)
  · rw [List.mem_singleton.1 new]
    bv_omega

/-- Merged, stored or dropped, an event keeps the log legal (R156). -/
theorem LogLegal.take {u : EventUnit} (h : LogLegal u) (e : Event) : LogLegal (u.take e) := by
  by_cases hm : ∀ older newest, u.log = older ++ [newest] → ¬mergesInto e newest = true
  · rw [take_of_not_merged hm]
    split
    · next hroom => exact LogLegal.store (u := { u with flags := u.flags.union e.kind.flag }) h hroom e
    · exact h
  · push Not at hm
    obtain ⟨older, newest, hlog, merges⟩ := hm
    obtain ⟨-, -, -, -, hlt⟩ := (mergesInto_iff e newest).1 merges
    rw [take_of_merged hlog merges]
    exact h.merge hlog hlt rfl rfl

/-- The oldest record leaves (R161). -/
theorem LogLegal.tail {u : EventUnit} (h : LogLegal u) : LogLegal { u with log := u.log.tail } := by
  obtain ⟨room, seqs, repeats⟩ := (logLegal_iff u).1 h
  refine (logLegal_iff _).2 ⟨by simp; omega, ?_, fun r hr => repeats r (List.mem_of_mem_tail hr)⟩
  cases hlog : u.log with
  | nil => rfl
  | cons r rest =>
    rw [hlog] at seqs
    simpa [seqsUpTo_tail] using congrArg List.tail seqs

theorem logLegal_of_empty {u : EventUnit} (h : u.log = []) : LogLegal u := by
  simp [LogLegal, h]

/-! ## How the Event Unit changes -/

/-- All that can become of the Event Unit: events are taken into it, the oldest record is read out, the log is cleared, and the flags
and the mask are set (R153). -/
inductive Recorded (u : EventUnit) : EventUnit → Prop
  | refl : Recorded u u
  | take {v : EventUnit} (h : Recorded u v) (e : Event) : Recorded u (v.take e)
  | readOldest {v : EventUnit} (h : Recorded u v) : Recorded u { v with log := v.log.tail }
  | clear {v : EventUnit} (h : Recorded u v) : Recorded u { v with log := [], nextSeq := 0, dropped := 0, flags := Flags.none }
  | setFlags {v : EventUnit} (h : Recorded u v) (f : Flags) : Recorded u { v with flags := f }
  | setMask {v : EventUnit} (h : Recorded u v) (f : Flags) : Recorded u { v with mask := f }

theorem Recorded.of_eq {u v w : EventUnit} (h : Recorded u v) (e : w = v) : Recorded u w := e ▸ h

theorem recorded_reset (u : EventUnit) : Recorded u EventUnit.reset := Recorded.refl.clear.setMask Flags.all

theorem Recorded.logLegal {u v : EventUnit} (h : Recorded u v) (hu : LogLegal u) : LogLegal v := by
  induction h with
  | refl => exact hu
  | take _ e ih => exact ih.take e
  | readOldest _ ih => exact ih.tail
  | clear => exact logLegal_of_empty rfl
  | setFlags _ _ ih => exact ih
  | setMask _ _ ih => exact ih

section Operations

variable {u : EventUnit} {s : State}

/-! ## The commands of the Event Unit and the Dirty Tracker -/

theorem doReadEvent_recorded (h : Recorded u s.events) : Recorded u (doReadEvent s).1.events := by
  cases hlog : s.events.log with
  | nil => rwa [doReadEvent_empty hlog]
  | cons r rest =>
    rw [doReadEvent_oldest hlog]
    have read := h.readOldest
    rwa [hlog] at read

theorem doClearFlags_recorded (h : Recorded u s.events) (mask : Byte) : Recorded u (doClearFlags mask s).1.events := by
  cases hmask : flagsOf mask with
  | none => rwa [doClearFlags_noFlags s hmask]
  | some f =>
    rw [doClearFlags_cleared s hmask]
    exact h.setFlags _

theorem doSetAlertMask_recorded (h : Recorded u s.events) (mask : Byte) : Recorded u (doSetAlertMask mask s).1.events := by
  cases hmask : flagsOf mask with
  | none => rwa [doSetAlertMask_noFlags s hmask]
  | some f =>
    rw [doSetAlertMask_replaced s hmask]
    exact h.setMask _

theorem doSoftClear_recorded (h : Recorded u s.events) : Recorded u (doSoftClear s).1.events := by
  by_cases hd : s.commit.draining = none
  · rw [doSoftClear_cleared hd]
    exact h.clear
  · rwa [doSoftClear_busy hd]

/-- Of the commands that can come between two dirty additions, only SOFT_CLEAR changes the Event Unit (R176). -/
theorem takeBetween_recorded (h : Recorded u s.events) (c : DirtyCommand) : Recorded u (takeBetween s c).events := by
  cases c with
  | takeDirty count =>
    refine h.of_eq ?_
    rw [takeBetween, commanded_eq, answered_events, doTakeDirty]
    split <;> rfl
  | clearDirty index =>
    refine h.of_eq ?_
    rw [takeBetween, commanded_eq, answered_events, doClearDirty]
    split <;> rfl
  | dirtyStatus => exact h
  | setDirtyThreshold threshold =>
    refine h.of_eq ?_
    rw [takeBetween, commanded_eq, answered_events, doSetDirtyThreshold]
    split <;> rfl
  | softClear => exact doSoftClear_recorded h

/-! ## Verdicts and the release of held transactions -/

theorem addTracked_recorded (h : Recorded u s.events) (host : HostId) (b : Ix × Entry × Granule × Nat) :
    Recorded u (addTracked s host b).events := by
  unfold addTracked
  by_cases hold : { region := b.1, block := b.2.2.2 } ∈ s.dirty.list
  · rwa [addBlock_merges _ _ _ _ _ _ hold]
  · by_cases hroom : s.dirty.list.length < 64
    · rw [addBlock_appends _ _ _ _ _ _ hold hroom]
      dsimp only
      split
      · exact h.take _
      · exact h
    · rw [addBlock_overflows _ _ _ _ _ _ hold (Nat.not_lt.1 hroom)]
      split
      · exact h
      · exact h.take _

theorem reportWindows_recorded (h : Recorded u s.events) (r : Request) (fs : List (Ix × WatchPart × Finding)) :
    Recorded u (reportWindows s r fs).events := by
  refine foldl_keeps_prop (P := fun t => Recorded u t.events) (fun t f ht => ?_) fs h
  split
  · exact ht.take _
  · exact ht

theorem handOff_recorded (h : Recorded u s.events) (r : Request) (beats : List WriteBeat) (between : List DirtyCommand) :
    Recorded u (handOff s r beats between).events := by
  have reported := reportWindows_recorded h r (findings s r beats)
  unfold handOff addTrackedBlocks
  split
  · exact reported
  · exact addTracked_recorded reported _ _
  · exact foldl_keeps_prop (P := fun t => Recorded u t.events) (fun t b ht => addTracked_recorded ht r.id b) _
      (foldl_keeps_prop (P := fun t => Recorded u t.events) (fun t c ht => takeBetween_recorded ht c) _
        (addTracked_recorded reported _ _))

theorem judgeRead_recorded (h : Recorded u s.events) (x : Txn) : Recorded u (judgeRead s x).1.events := by
  unfold judgeRead
  split
  · exact h.take _
  · exact h

theorem judgeWrite_recorded (h : Recorded u s.events) (x : Txn) (beats : List WriteBeat) (between : List DirtyCommand) :
    Recorded u (judgeWrite s x beats between).1.events := by
  have counted : Recorded u (countWindows s (findings s x.req beats)).events := h.of_eq (countWindows_events ..)
  unfold judgeWrite
  dsimp only
  split
  · exact handOff_recorded (counted.of_eq (countTracked_events ..)) _ _ _
  · exact (counted.of_eq (countRefusals_events ..)).take _

theorem judge_recorded (h : Recorded u s.events) (x : Txn) (between : List DirtyCommand) : Recorded u (judge s x between).1.events := by
  unfold judge
  split
  · exact h.take _
  · split
    · exact judgeRead_recorded h x
    · exact judgeWrite_recorded h _ _ _

theorem verdictTime_recorded (h : Recorded u s.events) (earlier : List Txn) (x : Txn) (between : List DirtyCommand) :
    Recorded u (verdictTime s earlier x between).1.events := by
  unfold verdictTime
  split
  · exact judge_recorded h _ _
  · split
    · exact h
    · split
      · exact h
      · exact judge_recorded h _ _

theorem acceptRequest_recorded (h : Recorded u s.events) (r : Request) : Recorded u (acceptRequest s r).events := by
  unfold acceptRequest
  dsimp only
  split
  · exact h
  · rw [afterVerdict_events, appendTxn_events]
    exact verdictTime_recorded (s := bumpTag s) h _ _ _

theorem storeBeat_recorded (h : Recorded u s.events) (x : Txn) (offer : OfferedBeat) : Recorded u (storeBeat s x offer).events := by
  unfold storeBeat
  dsimp only
  split
  · exact h
  · rw [afterVerdict_events, setTxn_events]
    exact verdictTime_recorded h _ _ _

theorem releaseEach_recorded (h : Recorded u s.events) (portFree : Bool) (txns : List Txn) :
    Recorded u (releaseEach s portFree txns).1.events := by
  induction txns generalizing s with
  | nil => exact h
  | cons x rest ih =>
    unfold releaseEach
    split
    · exact ih (judge_recorded h _ _)
    · exact ih h

theorem releaseHeld_recorded (h : Recorded u s.events) (portFree : Bool) : Recorded u (releaseHeld s portFree).events := by
  rw [releaseHeld, takeTurns_events]
  exact releaseEach_recorded h _ _

/-! ## Drains and commits -/

theorem switchJob_recorded (h : Recorded u s.events) (old : Tab Entry) (changed : IxSet) :
    Recorded u (switchJob s old changed).events := by
  unfold switchJob
  split
  · next c _ =>
    have abandoned : Recorded u (abandon s c.region).events := h.of_eq (abandon_events ..)
    split
    · dsimp only
      split
      · exact abandoned.take _
      · exact abandoned
    · exact h
  · exact h

theorem switchSet_recorded (h : Recorded u s.events) (which : IxSet) : Recorded u (switchSet s which).events := by
  rw [switchSet, settle_events]
  refine switchJob_recorded ?_ _ _
  exact h

theorem enterDraining_recorded (h : Recorded u s.events) (d : Drain) : Recorded u (enterDraining s d).events := by
  rwa [enterDraining, withholdClaim_events]

theorem endCommit_recorded (h : Recorded u s.events) (o : LastOutcome) (switched left : IxSet) :
    Recorded u (endCommit s o switched left).events := h.take _

theorem cutDrain_recorded (h : Recorded u s.events) (d : Drain) (o : LastOutcome) : Recorded u (cutDrain s d o).events :=
  (h.take _).of_eq (cutDrain_events s d o)

theorem completeDrain_recorded (h : Recorded u s.events) (d : Drain) (portFree : Bool) :
    Recorded u (completeDrain s d portFree).events :=
  releaseHeld_recorded (endCommit_recorded (switchSet_recorded (h.of_eq (closeDrain_events s)) _) _ _ _) _

theorem acceptCommit_recorded (h : Recorded u s.events) : Recorded u (acceptCommit s).events := by
  have switched := switchSet_recorded h (immediatePart s.table)
  have drained := enterDraining_recorded switched (newDrain s)
  unfold acceptCommit
  dsimp only
  split
  · exact endCommit_recorded switched _ _ _
  · split
    · exact completeDrain_recorded drained _ _
    · exact drained

theorem doCommit_recorded (h : Recorded u s.events) : Recorded u (doCommit s).1.events := by
  unfold doCommit
  split
  · exact h
  · split
    · exact h
    · split
      · exact h
      · exact h
      · exact acceptCommit_recorded h

theorem doAbortCommit_recorded (h : Recorded u s.events) : Recorded u (doAbortCommit s).1.events := by
  unfold doAbortCommit
  split
  · exact h
  · exact releaseHeld_recorded (cutDrain_recorded h _ _) _

theorem portResetCommit_recorded (h : Recorded u s.events) : Recorded u (portResetCommit s).events := by
  unfold portResetCommit
  split
  · exact cutDrain_recorded h _ _
  · exact h

/-! ## Chunk reads -/

theorem applySign_recorded (h : Recorded u s.events) (i : Ix) (computed : BitVec 32) :
    Recorded u (applySign s i computed).events := by
  unfold applySign
  split
  · exact h.take _
  · exact h

theorem reportVerify_recorded (h : Recorded u s.events) (i : Ix) (demand : Bool) (computed : BitVec 32) (fail : Bool) (after : Life) :
    Recorded u (reportVerify s i demand computed fail after).events := by
  unfold reportVerify
  split
  · exact h.take _
  · exact h

theorem applyVerify_recorded (h : Recorded u s.events) (i : Ix) (demand : Bool) (computed : BitVec 32) :
    Recorded u (applyVerify s i demand computed).events := by
  unfold applyVerify
  split
  · split
    · exact reportVerify_recorded (s := setResult (countVerify s i) i .pass) h ..
    · exact reportVerify_recorded (h.take _) ..
  · split
    · exact reportVerify_recorded (s := setResult (countVerify s i) i .pass) h ..
    · exact reportVerify_recorded (s := setResult (countVerify s i) i .mismatch) h ..
  all_goals exact h

theorem applyResult_recorded (h : Recorded u s.events) (c : JobContext) : Recorded u (applyResult s c).events := by
  unfold applyResult
  dsimp only
  split
  · exact applySign_recorded h ..
  · exact applyVerify_recorded h ..
  · exact applyVerify_recorded h ..

theorem returnOk_recorded (h : Recorded u s.events) (c : JobContext) (beats : List (BitVec 64 × RespStatus)) (offPending : Bool) :
    Recorded u (returnOk s c beats offPending).events := by
  unfold returnOk
  dsimp only
  split
  · rw [afterJob_events]
    refine applyResult_recorded ?_ _
    exact h
  · rwa [afterChunk_events]

theorem returnErr_recorded (h : Recorded u s.events) (c : JobContext) (a : Addr) (offPending : Bool) :
    Recorded u (returnErr s c a offPending).events := by
  unfold returnErr
  dsimp only
  split
  · rw [afterChunk_events]
    exact h.take _
  · exact (h.take _).take _

theorem returnChunk_recorded (h : Recorded u s.events) (r : ChunkRead) (beats : List (BitVec 64 × RespStatus)) :
    Recorded u (returnChunk s r beats).events := by
  unfold returnChunk
  split
  · split
    · exact returnOk_recorded h ..
    · exact returnErr_recorded h ..
  · rwa [settle_events]

end Operations

/-! ## Every command -/

/-- An outcome whose next state, if any, has an Event Unit that can come of that of the state before. -/
def Records (s : State) (o : Host.Outcome State Fault Refusal) : Prop := ∀ t, o = .next t → Recorded s.events t.events

section Outcomes

variable {s v : State}

theorem records_next (h : Recorded s.events v.events) : Records s (.next v) := by
  rintro t ⟨⟩; exact h

theorem records_same : Records s (.next s) := records_next .refl

theorem records_stepWhen (ready : Bool) (h : Recorded s.events v.events) : Records s (stepWhen ready s v) :=
  fun _ ht => stepWhen_keeps (P := fun t => Recorded s.events t.events) ht .refl fun _ _ => h

theorem records_takeCommand (n : Nat) {owner : State → State × Response} (h : Recorded s.events (owner s).1.events) :
    Records s (takeCommand n s owner) :=
  fun _ ht => takeCommand_keeps (P := fun t => Recorded s.events t.events) ht .refl h

theorem records_quiet (n : Nat) {owner : State → State × Response} (h : (owner s).1.events = s.events) :
    Records s (takeCommand n s owner) := records_takeCommand n (Recorded.refl.of_eq h)

theorem records_lifeCommand (index : Byte) {allowed : Life → Bool} {effect : State → Ix → State × List Byte}
    (h : ∀ i, (effect s i).1.events = s.events) : Records s (takeCommand 1 s fun t => lifeCommand index t allowed (effect t)) :=
  records_quiet 1 (lifeCommand_keeps (P := fun t => t.events = s.events) rfl fun i _ _ _ _ _ => h i)

end Outcomes

theorem verifyAt_events (s : State) (i : Ix) : (verifyAt s i).1.events = s.events := by
  unfold verifyAt joinDemand
  split <;> simp

theorem takeWriteBeat_events (s : State) (x : Txn) (beats : List WriteBeat) (sent : Nat) :
    (takeWriteBeat s x beats sent).events = s.events := by
  unfold takeWriteBeat
  split <;> rfl

theorem enableEngine_events (s : State) : (enableEngine s).events = s.events := by
  unfold enableEngine
  split
  · simp
  · split <;> simp
  all_goals rfl

theorem doStageEntry_events (index : Byte) (raw : RawEntry) (s : State) : (doStageEntry index raw s).1.events = s.events := by
  unfold doStageEntry
  split
  · rfl
  · split
    · rfl
    · split <;> rfl

/-- What a command between two dirty additions can do to the Event Unit, it can do by itself (R103). -/
theorem records_between {s : State} (n : Nat) {owner : State → State × Response} (c : DirtyCommand)
    (h : takeBetween s c = commanded n s owner) : Records s (takeCommand n s owner) := by
  have between := takeBetween_recorded (u := s.events) .refl c
  rw [h, commanded_eq] at between
  exact records_takeCommand n between

/-- No command does to the Event Unit what `Recorded` does not list. -/
theorem exec_records (c : Instr) (s : State) : Records s (exec c s) := by
  cases c with
  | powerOnReset => exact records_next (recorded_reset _)
  | powerOnResetRelease => exact records_next .refl
  | portResetAssert =>
    simp only [exec, execPortResetAssert]
    split
    · exact records_same
    · split
      · exact records_next .refl
      · exact records_next (portResetCommit_recorded (Recorded.refl.of_eq (portResetBlocks_events s)))
  | portResetDeassert =>
    simp only [exec, execPortResetDeassert, resumeStarvation]
    split
    · exact records_same
    · split
      · exact records_next .refl
      · exact records_next (Recorded.refl.of_eq (by split <;> rfl))
  | hostRequestAccept req =>
    simp only [exec, execHostRequestAccept]
    split
    · exact records_stepWhen _ (acceptRequest_recorded .refl req)
    · rintro t ⟨⟩
  | hostWriteBeat offer =>
    simp only [exec, execHostWriteBeat]
    split
    · exact records_stepWhen _ (storeBeat_recorded .refl _ offer)
    · exact records_same
  | hostClaimGrant | scanClaimGrant | forcedClaimGrant =>
    simp only [exec, execHostClaimGrant, execScanClaimGrant, execForcedClaimGrant]
    split
    · exact records_stepWhen _ .refl
    · exact records_same
  | memoryRequestTaken =>
    simp only [exec, execMemoryRequestTaken]
    split
    · split
      · exact records_stepWhen _ .refl
      · exact records_same
    · exact records_stepWhen _ .refl
    · exact records_same
  | memoryWriteBeatTaken =>
    simp only [exec, execMemoryWriteBeatTaken]
    split
    · exact records_stepWhen _ (Recorded.refl.of_eq (takeWriteBeat_events ..))
    · exact records_same
  | memoryResponseItemPass offer => exact records_stepWhen _ (Recorded.refl.of_eq (offerItem_events ..))
  | memoryResponseDiscard item =>
    simp only [exec, execMemoryResponseDiscard]
    split
    · exact records_same
    · exact records_stepWhen _ .refl
  | localAnswerSend dir id head => exact records_stepWhen _ (Recorded.refl.of_eq (by cases head <;> simp))
  | localAnswerItemTaken =>
    simp only [exec, execLocalAnswerItemTaken]
    split
    · split
      · exact records_stepWhen _ (Recorded.refl.of_eq (takeLocalItem_events ..))
      all_goals exact records_same
    · exact records_same
  | chunkReadReturn data status =>
    simp only [exec, execChunkReadReturn]
    split
    · exact records_stepWhen _ (returnChunk_recorded .refl ..)
    all_goals exact records_stepWhen _ .refl
  | chunkReadBeat data status =>
    simp only [exec, execChunkReadBeat]
    split
    all_goals exact records_stepWhen _ .refl
  | drainTimerExpiry =>
    simp only [exec, execDrainTimerExpiry]
    split
    · exact records_stepWhen _ (releaseHeld_recorded (cutDrain_recorded .refl _ _) _)
    · exact records_same
  | drainComplete =>
    simp only [exec, execDrainComplete]
    split
    · exact records_stepWhen _ (completeDrain_recorded .refl _ _)
    · exact records_same
  | commandFrameRejected frame partByte =>
    simp only [exec, execCommandFrameRejected]
    split
    · exact records_stepWhen _ .refl
    · exact records_same
  | roundTimerExpiry => exact records_stepWhen _ (Recorded.refl.of_eq (startRound_events s))
  | writeDrainDone => exact records_stepWhen _ (Recorded.refl.of_eq (finishWriteDrains_events s))
  | idleGapMet | starvationTimerExpiry | fetch | emptyFrame => exact records_stepWhen _ .refl
  | commit => exact records_takeCommand 0 (doCommit_recorded .refl)
  | abortCommit => exact records_takeCommand 0 (doAbortCommit_recorded .refl)
  | readEvent => exact records_takeCommand 0 (doReadEvent_recorded .refl)
  | clearFlags mask => exact records_takeCommand 1 (doClearFlags_recorded .refl mask)
  | setAlertMask mask => exact records_takeCommand 1 (doSetAlertMask_recorded .refl mask)
  | takeDirty count => exact records_between 1 (.takeDirty count) rfl
  | clearDirty index => exact records_between 1 (.clearDirty index) rfl
  | setDirtyThreshold threshold => exact records_between 1 (.setDirtyThreshold threshold) rfl
  | softClear => exact records_between 0 .softClear rfl
  | stageEntry index raw => exact records_quiet 17 (doStageEntry_events index raw s)
  | discard mask => exact records_quiet 2 (by unfold doDiscard; split <;> rfl)
  | readEntry index selector => exact records_quiet 2 (by rw [doReadEntry_state])
  | openRegion index => exact records_lifeCommand index (openAt_events s)
  | closeRegion index => exact records_lifeCommand index (by simp)
  | resign index => exact records_lifeCommand index (by simp [resignAt])
  | verify index => exact records_lifeCommand index (verifyAt_events s)
  | regionStatus index => exact records_quiet 1 (by rw [doRegionStatus_state])
  | enable => exact records_quiet 1 (enableEngine_events s)
  | disable => exact records_quiet 1 (by unfold disableEngine scanAction; split <;> rfl)
  | resume => exact records_quiet 1 (by unfold doResume; split <;> rfl)
  | setTiming => exact records_quiet 10 (by unfold doSetTiming; split <;> rfl)
  | roundsOn | roundsOff => exact records_quiet 1 rfl
  | commitStatus | scanStatus | eventStatus | dirtyStatus | portStatus | identify => exact records_quiet 0 rfl

/-! ## Settled -/

/-- Settles O11: a stored event is numbered next seq, a merged one raises a repeat below 255, and otherwise the log only loses
records. -/
theorem eventLogStaysLegal : Obligations.EventLogStaysLegal := fun _ _ h =>
  step_keeps (P := fun s => LogLegal s.events) (fun _ _ hs => hs) (fun _ hs => hs)
    (fun c s t hx hs => (exec_records c s t hx).logLegal hs) h

end Sys2Proof.Machine

/-! The timing settings. Only SET_TIMING and power-on reset change them: every other command, whatever it does to the rest of the
Management Port, leaves them as they were. What SET_TIMING installs passes its check, which is `TimingLegal`. With it stands the round
trip of frames, which the facts about frames above already give. -/

namespace Sys2Proof.Machine

/-! ## SET_TIMING -/

/-- The check of R175 finds no fault exactly in settings that lie in their ranges (R167). -/
theorem timingFault_eq_zero_iff (t : Timing) : timingFault t = 0 ↔ TimingLegal t := by
  simp only [timingFault, TimingLegal, Bool.or_eq_true, decide_eq_true_eq]
  refine ⟨fun h => ?_, fun h => ?_⟩
  · split_ifs at h
    omega
  · split_ifs <;> omega

theorem doSetTiming_replaced {timing : Timing} (h : TimingLegal timing) (s : State) :
    doSetTiming timing s = ({ s with mgmt := { s.mgmt with timing := timing } }, okResponse timing.bytes) :=
  if_pos ((timingFault_eq_zero_iff timing).2 h)

theorem doSetTiming_outOfRange {timing : Timing} {n : Nat} (h : timingFault timing = n + 1) (s : State) :
    doSetTiming timing s = (s, { status := .range, result := BitVec.ofNat 8 (n + 1) :: List.replicate 9 0 }) := by
  rw [doSetTiming, h]
  rfl

theorem timing_bytes (t : Timing) : t.bytes =
    [t.clockMhz.extractLsb' 0 8, t.clockMhz.extractLsb' 8 8] ++ [t.idleHold.extractLsb' 0 8, t.idleHold.extractLsb' 8 8] ++
    [t.starvation.extractLsb' 0 8, t.starvation.extractLsb' 8 8] ++ [t.drain.extractLsb' 0 8, t.drain.extractLsb' 8 8] ++
    [t.round.extractLsb' 0 8, t.round.extractLsb' 8 8] := by
  simp only [Timing.bytes, leBytes_two]

/-- Settles O59: the check finds the first value outside its range, and none when all are inside. -/
theorem setTiming : Obligations.SetTiming := by
  intro s clock hold starvation drain round hp two c refuse clockIn holdIn
  have refused : ∀ n, timingFault ⟨clock, hold, starvation, drain, round⟩ = n + 1 → refuse (BitVec.ofNat 8 (n + 1)) := fun n h =>
    (takeCommand_taken _ _ _ hp).trans (by rw [doSetTiming_outOfRange h])
  refine ⟨fun ⟨clockLow, clockHigh⟩ ⟨holdLow, holdHigh⟩ hstarvation hdrain => ?_, fun hclock => refused 0 ?_,
    fun hclock hhold => refused 1 ?_, fun hclock hhold hstarvation => refused 2 ?_,
    fun hclock hhold hstarvation hdrain => refused 3 ?_⟩
  · refine (takeCommand_taken _ _ _ hp).trans ?_
    rw [doSetTiming_replaced ⟨clockLow, clockHigh, holdLow, holdHigh, hstarvation, hdrain⟩, timing_bytes]
    rfl
  all_goals
    simp only [clockIn, holdIn] at *
    simp only [timingFault, Bool.or_eq_true, decide_eq_true_eq]
    split_ifs <;> omega

/-! ## Operations on the timing settings -/

/-- The commands that come between dirty additions leave the settings alone, SOFT_CLEAR too (R176). -/
theorem takeBetween_timing (s : State) (c : DirtyCommand) : (takeBetween s c).mgmt.timing = s.mgmt.timing := by
  cases c <;> simp only [takeBetween, commanded_eq, answered_timing]
  · unfold doTakeDirty; split <;> rfl
  · unfold doClearDirty; split <;> rfl
  · unfold doSetDirtyThreshold; split <;> rfl
  · unfold doSoftClear; split <;> rfl

@[simp] theorem handOff_timing (s : State) (r : Request) (beats : List WriteBeat) (between : List DirtyCommand) :
    (handOff s r beats between).mgmt.timing = s.mgmt.timing := by
  have add : ∀ (t : State) b, (addTracked t r.id b).mgmt.timing = t.mgmt.timing := by simp
  unfold handOff addTrackedBlocks
  split
  · simp
  · simp
  · rw [foldl_keeps (·.mgmt.timing) _ add, foldl_keeps (·.mgmt.timing) _ takeBetween_timing, add, reportWindows_mgmt]

@[simp] theorem judge_timing (s : State) (x : Txn) (between : List DirtyCommand) :
    (judge s x between).1.mgmt.timing = s.mgmt.timing := by
  unfold judge judgeWrite
  split
  · simp
  · split
    · simp
    · dsimp only
      split
      · simp
      · rw [raise_mgmt, countRefusals_mgmt, countWindows_mgmt]

@[simp] theorem storeBeat_timing (s : State) (x : Txn) (offer : OfferedBeat) : (storeBeat s x offer).mgmt.timing = s.mgmt.timing := by
  have judged : ∀ earlier y between, (verdictTime s earlier y between).1.mgmt.timing = s.mgmt.timing := fun earlier y between => by
    unfold verdictTime
    split
    · simp
    · split
      · rfl
      · split <;> simp
  unfold storeBeat
  dsimp only
  split
  · rfl
  · rw [afterVerdict_mgmt, setTxn_mgmt, judged]

theorem releaseEach_timing (s : State) (portFree : Bool) (txns : List Txn) :
    (releaseEach s portFree txns).1.mgmt.timing = s.mgmt.timing := by
  induction txns generalizing s with
  | nil => rfl
  | cons x rest ih =>
    unfold releaseEach
    split
    · exact (ih _).trans (judge_timing ..)
    · exact ih s

@[simp] theorem releaseHeld_timing (s : State) (portFree : Bool) : (releaseHeld s portFree).mgmt.timing = s.mgmt.timing := by
  rw [releaseHeld, takeTurns_mgmt]
  exact releaseEach_timing ..

@[simp] theorem completeDrain_timing (s : State) (d : Drain) (portFree : Bool) :
    (completeDrain s d portFree).mgmt.timing = s.mgmt.timing := by
  simp [completeDrain]

/-! ## Every command -/

/-- An outcome whose next state, if any, has the timing settings of the state before. -/
def KeepsTiming (s : State) (o : Host.Outcome State Fault Refusal) : Prop := ∀ t, o = .next t → t.mgmt.timing = s.mgmt.timing

section Outcomes

variable {s u : State}

theorem keepsTiming_next (h : u.mgmt.timing = s.mgmt.timing) : KeepsTiming s (.next u) := by
  rintro t ⟨⟩; exact h

theorem keepsTiming_same : KeepsTiming s (.next s) := keepsTiming_next rfl

theorem keepsTiming_stepWhen (ready : Bool) (h : u.mgmt.timing = s.mgmt.timing) : KeepsTiming s (stepWhen ready s u) :=
  fun _ ht => stepWhen_keeps (P := fun t => t.mgmt.timing = s.mgmt.timing) ht rfl fun _ _ => h

theorem keepsTiming_takeCommand (n : Nat) {owner : State → State × Response} (h : (owner s).1.mgmt.timing = s.mgmt.timing) :
    KeepsTiming s (takeCommand n s owner) :=
  fun _ ht => takeCommand_keeps (P := fun t => t.mgmt.timing = s.mgmt.timing) ht rfl h

theorem keepsTiming_lifeCommand (index : Byte) {allowed : Life → Bool} {effect : State → Ix → State × List Byte}
    (h : ∀ i, (effect s i).1.mgmt = s.mgmt) : KeepsTiming s (takeCommand 1 s fun t => lifeCommand index t allowed (effect t)) :=
  keepsTiming_takeCommand 1 (lifeCommand_keeps (P := fun t => t.mgmt.timing = s.mgmt.timing) rfl
    fun i _ _ _ _ _ => congrArg Management.timing (h i))

/-- What a command between two dirty additions leaves alone, it leaves alone by itself (R103). -/
theorem keepsTiming_between (n : Nat) {owner : State → State × Response} (c : DirtyCommand)
    (h : takeBetween s c = commanded n s owner) : KeepsTiming s (takeCommand n s owner) := by
  have between := takeBetween_timing s c
  rw [h, commanded_eq] at between
  exact keepsTiming_takeCommand n between

end Outcomes

theorem verifyAt_mgmt (s : State) (i : Ix) : (verifyAt s i).1.mgmt = s.mgmt := by
  unfold verifyAt joinDemand
  split <;> simp

theorem enableEngine_mgmt (s : State) : (enableEngine s).mgmt = s.mgmt := by
  unfold enableEngine
  split
  · simp
  · split <;> simp
  all_goals rfl

theorem doStageEntry_mgmt (index : Byte) (raw : RawEntry) (s : State) : (doStageEntry index raw s).1.mgmt = s.mgmt := by
  unfold doStageEntry
  split
  · rfl
  · split
    · rfl
    · split <;> rfl

theorem doCommit_mgmt (s : State) : (doCommit s).1.mgmt = s.mgmt := by
  unfold doCommit
  split
  · rfl
  · split
    · rfl
    · split <;> simp

theorem fetchFrame_timing (m : Management) (mosi : List Byte) : (fetchFrame m mosi).timing = m.timing := by
  unfold fetchFrame
  split
  · rfl
  · split <;> rfl

/-- Every command but SET_TIMING and power-on reset leaves the timing settings as they were. -/
theorem exec_keepsTiming {c : Instr} (hpor : c ≠ .powerOnReset)
    (hset : ∀ clock hold starvation drain round, c ≠ .setTiming clock hold starvation drain round) (s : State) :
    KeepsTiming s (exec c s) := by
  cases c with
  | powerOnReset => exact absurd rfl hpor
  | setTiming clock hold starvation drain round => exact absurd rfl (hset clock hold starvation drain round)
  | powerOnResetRelease => exact keepsTiming_next rfl
  | portResetAssert =>
    simp only [exec, execPortResetAssert, portResetCommit]
    split
    · exact keepsTiming_same
    · split
      · exact keepsTiming_next rfl
      · exact keepsTiming_next (by split <;> simp)
  | portResetDeassert =>
    simp only [exec, execPortResetDeassert, resumeStarvation]
    split
    · exact keepsTiming_same
    · split
      · exact keepsTiming_next rfl
      · exact keepsTiming_next (by split <;> rfl)
  | hostRequestAccept req =>
    simp only [exec, execHostRequestAccept]
    split
    · exact keepsTiming_stepWhen _ (by simp)
    · rintro t ⟨⟩
  | hostWriteBeat | hostClaimGrant | scanClaimGrant | forcedClaimGrant | drainTimerExpiry | drainComplete =>
    simp only [exec, execHostWriteBeat, execHostClaimGrant, execScanClaimGrant, execForcedClaimGrant, execDrainTimerExpiry,
      execDrainComplete]
    split
    · exact keepsTiming_stepWhen _ (by simp)
    · exact keepsTiming_same
  | memoryRequestTaken =>
    simp only [exec, execMemoryRequestTaken]
    split
    · split
      · exact keepsTiming_stepWhen _ rfl
      · exact keepsTiming_same
    · exact keepsTiming_stepWhen _ rfl
    · exact keepsTiming_same
  | memoryWriteBeatTaken =>
    simp only [exec, execMemoryWriteBeatTaken, takeWriteBeat]
    split
    · exact keepsTiming_stepWhen _ (by split <;> rfl)
    · exact keepsTiming_same
  | memoryResponseItemPass offer => exact keepsTiming_stepWhen _ (by simp)
  | memoryResponseDiscard item =>
    simp only [exec, execMemoryResponseDiscard]
    split
    · exact keepsTiming_same
    · exact keepsTiming_stepWhen _ rfl
  | localAnswerSend dir id head => exact keepsTiming_stepWhen _ (by cases head <;> simp)
  | localAnswerItemTaken =>
    simp only [exec, execLocalAnswerItemTaken]
    split
    · split
      · exact keepsTiming_stepWhen _ (by simp)
      all_goals exact keepsTiming_same
    · exact keepsTiming_same
  | chunkReadReturn data status =>
    simp only [exec, execChunkReadReturn]
    split
    · exact keepsTiming_stepWhen _ (by simp)
    all_goals exact keepsTiming_stepWhen _ rfl
  | chunkReadBeat data status =>
    simp only [exec, execChunkReadBeat]
    split
    all_goals exact keepsTiming_stepWhen _ rfl
  | commandFrameRejected frame partByte =>
    simp only [exec, execCommandFrameRejected]
    split
    · exact keepsTiming_stepWhen _ rfl
    · exact keepsTiming_same
  | fetch mosi => exact keepsTiming_stepWhen _ (fetchFrame_timing s.mgmt mosi)
  | roundTimerExpiry | writeDrainDone => exact keepsTiming_stepWhen _ (by simp)
  | idleGapMet | starvationTimerExpiry | emptyFrame => exact keepsTiming_stepWhen _ rfl
  | stageEntry index raw => exact keepsTiming_takeCommand 17 (by rw [doStageEntry_mgmt])
  | discard mask => exact keepsTiming_takeCommand 2 (by unfold doDiscard; split <;> rfl)
  | readEntry index selector => exact keepsTiming_takeCommand 2 (by rw [doReadEntry_state])
  | commit => exact keepsTiming_takeCommand 0 (by rw [doCommit_mgmt])
  | abortCommit => exact keepsTiming_takeCommand 0 (by unfold doAbortCommit; split <;> simp)
  | openRegion index => exact keepsTiming_lifeCommand index (by simp)
  | closeRegion index => exact keepsTiming_lifeCommand index (by simp)
  | resign index => exact keepsTiming_lifeCommand index (by simp [resignAt])
  | verify index => exact keepsTiming_lifeCommand index (verifyAt_mgmt s)
  | regionStatus index => exact keepsTiming_takeCommand 1 (by rw [doRegionStatus_state])
  | enable => exact keepsTiming_takeCommand 1 (congrArg Management.timing (enableEngine_mgmt s))
  | disable => exact keepsTiming_takeCommand 1 (by unfold disableEngine scanAction; split <;> rfl)
  | resume => exact keepsTiming_takeCommand 1 (by unfold doResume; split <;> rfl)
  | readEvent => exact keepsTiming_takeCommand 0 (by unfold doReadEvent; split <;> rfl)
  | clearFlags mask => exact keepsTiming_takeCommand 1 (by unfold doClearFlags; split <;> rfl)
  | setAlertMask mask => exact keepsTiming_takeCommand 1 (by unfold doSetAlertMask; split <;> rfl)
  | takeDirty count => exact keepsTiming_between 1 (.takeDirty count) rfl
  | clearDirty index => exact keepsTiming_between 1 (.clearDirty index) rfl
  | setDirtyThreshold threshold => exact keepsTiming_between 1 (.setDirtyThreshold threshold) rfl
  | softClear => exact keepsTiming_between 0 .softClear rfl
  | roundsOn | roundsOff => exact keepsTiming_takeCommand 1 rfl
  | commitStatus | scanStatus | eventStatus | dirtyStatus | portStatus | identify => exact keepsTiming_takeCommand 0 rfl

/-- Power-on reset installs the defaults, SET_TIMING what passes its check (R167, R175). -/
theorem exec_timingLegal {c : Instr} {s t : State} (h : exec c s = .next t) (hs : TimingLegal s.mgmt.timing) :
    TimingLegal t.mgmt.timing := by
  by_cases hpor : c = .powerOnReset
  · subst hpor
    cases h
    exact timingLegal_reset
  by_cases hset : ∃ clock hold starvation drain round, c = .setTiming clock hold starvation drain round
  · obtain ⟨clock, hold, starvation, drain, round, rfl⟩ := hset
    refine takeCommand_keeps (P := fun t => TimingLegal t.mgmt.timing) h hs ?_
    rw [answered_timing, doSetTiming]
    split
    · next hfault => exact (timingFault_eq_zero_iff _).1 hfault
    · exact hs
  · push Not at hset
    exact (exec_keepsTiming hpor hset s t h).symm ▸ hs

/-! ## Settled -/

/-- Settles O12: the settings change by SET_TIMING and power-on reset alone, and both leave them in their ranges. -/
theorem timingStaysInRange : Obligations.TimingStaysInRange := fun _ _ h =>
  step_keeps (P := fun s => TimingLegal s.mgmt.timing) (fun _ _ hs => hs) (fun _ hs => hs)
    (fun _ _ _ hx hs => exec_timingLegal hx hs) h

/-- Settles O20: a command's code and arguments stand in the code table, the frame has their length and CRC, and its arguments spell
the command. -/
theorem frameRoundTrip : Obligations.FrameRoundTrip := fun _ _ => judgeFrame_encodeFrame

end Sys2Proof.Machine

/-! Steps. A step with a command waiting carries it out with the rest of the queue still waiting: the companion of `step_empty`. -/

namespace Sys2Proof.Machine

/-- With a command waiting, a step is that command, taken out of the queue. -/
theorem step_front {s : State} {c : Instr} {rest : List Instr} (h : s.pending = c :: rest) :
    step s = exec c { s with pending := rest } := by rw [step, h]

/-- Settles O1: the queue's front is the command put there, and its rest is what stands behind it. -/
theorem stepTakesFront : Obligations.StepTakesFront := fun _ _ _ => step_front rfl

end Sys2Proof.Machine
